-- ==== Sys2Proof/Word.lean ====
section
/-! DEFINITION. The words of the ZC6408: bytes and addresses of cue memory, the two clocks' counts, ticks
and channel numbers (00_scope.md "Time units", R1, R2, R4). -/
namespace Sys2Proof

/-- One byte of cue memory or of an SPI transaction. -/
abbrev Byte := BitVec 8

/-- A byte address of the 64 KiB cue memory, and also a block address (Table 10-2). -/
abbrev Addr := BitVec 16

/-- Device time in µs, 32 bits, wrapping (R1). -/
abbrev DevTime := BitVec 32

/-- Performance time in su, 48 bits (R2). -/
abbrev PerfTime := BitVec 48

/-- A tick number, 32 bits, wrapping (R4). -/
abbrev Tick := BitVec 32

/-- A channel number, 0 to 63. -/
abbrev ChanId := Fin 64

end Sys2Proof
end

