-- ==== Sys2Proof/Syntax.lean ====
section
/-! DEFINITION. The commands of the ZC6408: one constructor for each row of spec/opcode_table.json. -/
namespace Sys2Proof

/-- The inputs that have a filter (Table 7-1): the 64 contact lines, the sync and cue inputs and the rotor's
home sensor. -/
inductive InLine where
  | sns (n : ChanId)
  | synci
  | cuei
  | home
  deriving DecidableEq, Repr

/-- The raw level (true is high) that each input of Table 7-1 shows at one sample. -/
structure InputLevels where
  sns   : BitVec 64
  synci : Bool
  cuei  : Bool
  home  : Bool
  stopA : Bool
  stopB : Bool
  dflt  : Bool
  deriving DecidableEq, Repr

/-- The register writes that write nothing (R170, R174). -/
inductive IgnoredWrite where
  /-- A whole group for STATUS, which is read-only. -/
  | status (value : BitVec 16)
  /-- A REG_WRITE whose index byte is above 3, with how many data bytes follow. -/
  | noRegister (index : Byte) (len : Nat)
  /-- A REG_WRITE to a register that ends in its first group, after none or one of its data bytes. -/
  | cutFirst (index : Byte) (len : Nat)
  /-- The REG_WRITE in progress ends, after none or one data byte of a further group. -/
  | cutNext (len : Nat)
  deriving DecidableEq, Repr

/-- The steps of the part, each whole and indivisible (95_what_each_step_holds.md). A host command carries the
operands its bytes carry; an event carries the channel or line it happens to, and the level or voltage sampled, which
come from outside the part. A register write is one group of two data bytes; it goes on with the REG_WRITE in progress
where that has come to its register, and otherwise begins one (R170, log entry 11). -/
inductive Instr where
  /-- CONTROL write, code 1. The argument byte of a command other than CLEAR_CHANNEL is ignored (R142). -/
  | start
  | pause
  | resume
  | stop
  | cont
  | clear
  /-- CONTROL write, code 7, with its argument. -/
  | clearChannel (n : Byte)
  | lockConfig
  | perfReset
  /-- CONTROL write whose code is none of the nine. -/
  | unknownCommand (code : Byte)
  | attnFlagsWrite (value : BitVec 16)
  | attnEnableWrite (value : BitVec 16)
  | statusWriteIgnored (w : IgnoredWrite)
  /-- One MEM_READ transaction: the start address and how many data bytes are shifted out. -/
  | memRead (addr : Addr) (len : Nat)
  /-- One MEM_WRITE transaction: the start address and the whole data bytes received. -/
  | memWrite (addr : Addr) (data : List Byte)
  /-- One REG_READ transaction: the index byte and how many data bytes are shifted out. -/
  | regRead (index : Byte) (len : Nat)
  /-- A transaction that comes to no data phase: its first byte, and how many bytes follow it. Either that byte is none of the
  four instruction codes, or it is one and CS rises before the address, index and turnaround bytes are complete (R170). -/
  | unknownInstruction (code : Byte) (len : Nat)
  /-- A power-on reset, with the levels the inputs show at the first sample after it. -/
  | powerOnReset (inputs : InputLevels)
  /-- The release of nRST, with the levels the inputs show at the first sample after it. -/
  | pinReset (inputs : InputLevels)
  /-- The 1 ms event, with the voltage on VSENSE in µV. -/
  | housekeepingEvent (vsense : Nat)
  | heatEvent (n : ChanId)
  | reportEvent
  | rotorRateEvent
  | rotorStep
  | syncoPulseEnd
  | tickBoundary
  | holdpointTimeout
  | syncLoss
  | syncPulse
  | cueiEdge
  | homeEdge
  | contactAccepted (n : ChanId)
  | synthesisedContact (n : ChanId)
  | filterQualificationAbandoned (line : InLine)
  /-- A sample of the two stop lines, at the raw levels given. -/
  | quietQualifierChange (stopA stopB : Bool)
  | quietRequest
  | dfltAssertion
  | dfltDeassertion
  | loadingComplete
  | horizonPassed
  | stallReleased
  | standingReengagePlaced (n : ChanId)
  | fireTimeArrival
  | skewExpiry
  | pulseEnd (n : ChanId)
  | engageEnd (n : ChanId)
  | windowSettle (n : ChanId)
  | recoveryEnd (n : ChanId)
  | drainComplete
  | drainPark
  | nrstAssertion
  | lineTransition (line : InLine)
  | returnEdgeAccepted (line : InLine)
  deriving DecidableEq, Repr

end Sys2Proof
end

