-- ==== Sys2Proof/Decode.lean ====
section
/-! DEFINITION. What the bytes of an SPI transaction spell, and what the bits of a table word spell. -/
namespace Sys2Proof

/-! ### Transactions (R170, Table 10-1) -/

/-- The command a group for CONTROL spells: the low byte is the code, the high byte the argument (R174, Table 10-14). -/
def controlCommand (code argument : Byte) : Instr :=
  match code.toNat with
  | 1 => .start
  | 2 => .pause
  | 3 => .resume
  | 4 => .stop
  | 5 => .cont
  | 6 => .clear
  | 7 => .clearChannel argument
  | 8 => .lockConfig
  | 9 => .perfReset
  | _ => .unknownCommand code

/-- The command a whole group of two data bytes, low byte first, spells for a register (Table 10-13). -/
def groupCommand (r : BitVec 2) (lo hi : Byte) : Instr :=
  match r.toNat with
  | 0 => .statusWriteIgnored (.status (hi ++ lo))
  | 1 => controlCommand lo hi
  | 2 => .attnFlagsWrite (hi ++ lo)
  | _ => .attnEnableWrite (hi ++ lo)

/-- The groups of a REG_WRITE from a register on, the index advancing after each and wrapping from 3 to 0, and its end after none or
one byte of a further group (R170). -/
def registerGroups (r : BitVec 2) : List Byte → List Instr
  | lo :: hi :: rest => groupCommand r lo hi :: registerGroups (r + 1) rest
  | [_] => [.statusWriteIgnored (.cutNext 1)]
  | [] => [.statusWriteIgnored (.cutNext 0)]

/-- A REG_WRITE by its index byte and its data (R170). -/
def registerWrite (index : Byte) (data : List Byte) : List Instr :=
  if 3 < index.toNat then [.statusWriteIgnored (.noRegister index data.length)]
  else if data.length < 2 then [.statusWriteIgnored (.cutFirst index data.length)]
  else registerGroups (index.setWidth 2) data

/-- The commands that one transaction spells: the whole bytes the host shifts in from the falling to the rising edge of CS, its first
byte decoded by Table 10-1. A REG_WRITE spells one command for each register it writes; a byte cut short by CS is discarded, so
a transaction of no whole byte spells none (R170). -/
def decodeTransaction : List Byte → List Instr
  | [] => []
  | code :: rest =>
    match code.toNat, rest with
    | 0x52, hi :: lo :: _ :: data => [.memRead (hi ++ lo) data.length]
    | 0x57, hi :: lo :: data => [.memWrite (hi ++ lo) data]
    | 0x72, index :: _ :: data => [.regRead index data.length]
    | 0x77, index :: data => registerWrite index data
    | _, _ => [.unknownInstruction code rest.length]

/-! ### Table words -/

/-- spec/opcode_table.json gives none of its 53 rows any bits: a command is a register write, an SPI
transaction or an event, not a word of the table. So no word spells a command (log entry 2). -/
def decodeTableWord (_nbits _w : Nat) : Option Instr := none

end Sys2Proof
end

