-- ==== Sys2Proof/Machine/State.lean ====
section
/-! DEFINITION. The state of the ZC6408: everything the spec gives the part, as plain data, block by block
(Table 1), the faults and refusals, and the state after a power-on reset. -/
namespace Sys2Proof.Machine
open Sys2Proof

/-- Reasons a step can stop with a fault. There is none: the spec gives every step an effect in every state,
and every 16-bit address is an address of cue memory. -/
inductive Fault where
  deriving DecidableEq, Repr

/-- Reasons for giving a command no meaning. -/
inductive Refusal where
  /-- Raised by an arm of exec that has no meaning yet; safe. No arm raises it. -/
  | notModelled (mnemonic : String)
  /-- Raised by UNKNOWN_COMMAND with one of the nine command codes, by UNKNOWN_INSTRUCTION with one of the four
  instruction codes, and by STATUS_WRITE_IGNORED with an index or a length that its form does not have: the term is not a
  command of its row; safe. -/
  | illFormed
  deriving DecidableEq, Repr

/-- Cue memory as (address, byte) pairs, addresses strictly rising, no pair with the byte 0x00, which is what
an unlisted address reads as. -/
abbrev Memory := List Host.Cell

/-! ### Names of states, causes and outcomes (Table 10-14, Table 9-1) -/

/-- Performance states (Table 8-1). -/
inductive PerfState where
  | idle | loading | running | holding | paused | draining | ended | frozen
  deriving DecidableEq, Repr

/-- End causes (Table 8-2). -/
inductive EndCause where
  | none | complete | stopped | chainFault | configError | quiet | driveFault
  deriving DecidableEq, Repr

/-- Reader states (Table 2-1). -/
inductive ReaderState where
  | stopped | reading | horizon | stalled | linkWait | held | finished | faulted
  deriving DecidableEq, Repr

/-- Supply levels (R138). -/
inductive SupplyLevel where
  | normal | sag | brown
  deriving DecidableEq, Repr

/-- Sync modes (Table 1-2). -/
inductive SyncMode where
  | free | lead | follow
  deriving DecidableEq, Repr

/-- Sync states (Table 1-2). -/
inductive SyncState where
  | none | acquire | locked | lost
  deriving DecidableEq, Repr

/-- Rotor states (Table 6-4). -/
inductive RotorState where
  | stopped | running | parking | parked | homeFault
  deriving DecidableEq, Repr

/-- Channel states of STRIKE channels (Table 5-1) and HOLD channels (Table 6-1). -/
inductive ChanState where
  | off | idle | drive | flight | recover | cooldown | faulted | released | engage | held
  deriving DecidableEq, Repr

/-- Channel classes (R81). -/
inductive ChanClass where
  | unused | strike | hold
  deriving DecidableEq, Repr

/-- Command outcomes (R142). -/
inductive CmdOutcome where
  | none | accepted | refusedState | refusedArg | refusedLock
  deriving DecidableEq, Repr

/-- Outcomes of a cue (Table 9-1). -/
inductive CueOutcome where
  | none | hit | played | miss | dropped | cancelled | quieted | refused | applied | superseded
  | releasedHold | latched | isProtected | badMap | homeFault | done | engaged | released
  deriving DecidableEq, Repr

/-- Drop causes (Table 9-3). -/
inductive DropCause where
  | none | busy | crowded | hot | faulted | supply
  deriving DecidableEq, Repr

/-- Release sources of a holdpoint (R13). -/
inductive ReleaseSource where
  | none | cue | cont | timeout
  deriving DecidableEq, Repr

/-- The checks of a map record (R47). -/
inductive MapDetail where
  | address | count | velocity | width | flight
  deriving DecidableEq, Repr

/-- Fault record kinds (Table 9-4). -/
inductive FaultKind where
  | chain | config | drive
  deriving DecidableEq, Repr

/-- Fault details (Table 10-14). -/
inductive FaultDetail where
  | badBlockCount | badLinkAddress | badLinkSignature | badLinkKind | badCueKind | loopDepthFull
  | driveLine | cfgSyncMode | cfgSupplyThresholds | cfgClass | cfgPartner | cfgHeatThresholds
  | cfgMap (d : MapDetail)
  | cfgStartAddress | cfgStartSignature | cfgStartCount
  deriving DecidableEq, Repr

/-- The nine attention flags (Table 9-5). -/
inductive AttnFlag where
  | ended | fault | frozen | mark | hold | channel | supply | sync | starved
  deriving DecidableEq, Repr

/-! ### Cues and references -/

/-- Where a cue stands: block address and slot. -/
structure CueLoc where
  block : Addr
  slot  : Nat
  deriving DecidableEq, Repr

/-- A cue location and the open block table entry that counts the cue's work (R36). -/
structure CueRef where
  loc  : CueLoc
  pass : Nat
  deriving DecidableEq, Repr

/-- HOLD cue operations (Table 2-3). -/
inductive HoldOp where
  | engage | release
  deriving DecidableEq, Repr

/-- ROTOR commands (R118). -/
inductive RotorCmd where
  | fixed (rate : Nat)
  | beat (steps : Nat)
  | off
  | park
  deriving DecidableEq, Repr

/-- A cue's kind and parameters as the reader reads them (Table 2-3). `none` for an operation or mode code
outside its list, which refuses the cue (R28). -/
inductive CueBody where
  | strike (chan : Byte) (velocity : Nat) (micro : Int) (restrike : Bool)
  | hold (chan : Byte) (op : Option HoldOp) (micro : Int)
  | tempo (target ramp : Nat)
  | rotor (cmd : Option RotorCmd)
  | mark (raiseAttn : Bool)
  | holdpoint (byCue byCommand : Bool) (timeout delay : Nat)
  | map (chan : Byte) (record : Addr) (resetTrim : Bool)
  | repeatJump (target : Addr) (count : Nat)
  deriving DecidableEq, Repr

/-! ### Score Clock Unit (chapter 1) -/

/-- The condition of the current tick (R4). -/
inductive TickCond where
  | unscheduled
  | scheduled (start : Int)
  | begun (start : Int) (len : Nat)
  deriving DecidableEq, Repr

/-- A ramp in progress: first tick, start period, target and length (R8). -/
structure Ramp where
  first  : Tick
  start  : Nat
  target : Nat
  len    : Nat
  deriving DecidableEq, Repr

/-- What a tempo agenda entry does (R8). -/
inductive AgendaBody where
  | tempo (target ramp : Nat)
  | holdpoint (byCue byCommand : Bool) (timeout delay : Nat)
  deriving DecidableEq, Repr

/-- A tempo agenda entry (R8). -/
structure AgendaEntry where
  onset : Tick
  cue   : CueRef
  body  : AgendaBody
  deriving DecidableEq, Repr

/-- What shapes the periods of ticks to come in FREE and LEAD (R8). -/
structure Tempo where
  base : Nat
  ramp : Option Ramp
  deriving DecidableEq, Repr

/-- The SCU's state (Table 1-3). -/
structure Scu where
  dt          : DevTime
  pt          : PerfTime
  tick        : Tick
  cond        : TickCond
  period      : Nat
  tempo       : Tempo
  agenda      : List AgendaEntry
  /-- PT at which a holding holdpoint times out (R12). -/
  holdExpiry  : Option Int
  sync        : SyncState
  /-- PT counted by the loss timer since the last taken pulse; absent while no loss timer stands (R18). -/
  lossElapsed : Option Nat
  prevPulse   : Option Int
  /-- No pulse has been taken since the last RESUME (R17). -/
  resumed     : Bool
  /-- While SYNCO is asserted, the DT at which it ends (R16). -/
  synco       : Option DevTime
  deriving DecidableEq, Repr

/-! ### Cue Reader (chapter 2) -/

/-- A cue held in the pending cue register (R26). -/
structure Cue where
  body  : CueBody
  delta : BitVec 16
  deriving DecidableEq, Repr

/-- What the reader holds while it waits: a cue, or a block entry by a NEXT link. A pending REPEAT jump is the
pending REPEAT cue (R35). -/
inductive Pending where
  | none
  | cue (c : Cue)
  | entry (target : Addr)
  deriving DecidableEq, Repr

/-- A loop stack frame (Table 2-4). -/
structure Frame where
  cue       : CueLoc
  target    : Addr
  remaining : Nat
  deriving DecidableEq, Repr

/-- The CRD's own state but for the open block table. -/
structure Reader where
  state   : ReaderState
  tick    : Tick
  /-- The block the reader is in or last left; 0x0000 for none since the last reset (R162). -/
  block   : Addr
  slot    : Nat
  /-- The cue count kept at the entry of the pass (R24). -/
  count   : Nat
  /-- The open block table entry of the pass being read. -/
  pass    : Option Nat
  pending : Pending
  /-- The loop stack, top frame first. -/
  stack   : List Frame
  /-- STARVED has been set in this stay in LINK_WAIT (R40). -/
  starved : Bool
  deriving DecidableEq, Repr

/-- An open block table entry (Table 2-5). The number `id` stands for the entry in the references to it. -/
structure Pass where
  id          : Nat
  block       : Addr
  outstanding : Nat
  readingDone : Bool
  deriving DecidableEq, Repr

/-! ### Stroke Planner (chapter 3) -/

/-- A knot of a map (R46). -/
structure Knot where
  velocity : Nat
  width    : Nat
  flight   : Nat
  deriving DecidableEq, Repr

/-- An active map: its knots, from knot 0 (R48). -/
structure VelMap where
  knots : List Knot
  deriving DecidableEq, Repr

/-! ### Fire Queue (chapter 4) -/

/-- A STRIKE entry's own fields (R63). -/
structure StrikeWork where
  cue        : CueRef
  chan       : ChanId
  width      : Nat
  lead       : Nat
  velocity   : Nat
  restrikeOk : Bool
  deriving DecidableEq, Repr

/-- A RESTRIKE entry's own fields (R63, R78). -/
structure RestrikeWork where
  cue      : CueRef
  chan     : ChanId
  width    : Nat
  lead     : Nat
  rerouted : Bool
  deriving DecidableEq, Repr

/-- The six kinds of fire queue entry with their fields (Table 4-1, R63). An internal ENGAGE has no cue. -/
inductive Work where
  | strike (w : StrikeWork)
  | restrike (w : RestrikeWork)
  | engage (cue : Option CueRef) (chan : ChanId)
  | release (cue : CueRef) (chan : ChanId)
  | rotor (cue : CueRef) (cmd : RotorCmd)
  | mark (cue : CueRef) (raiseAttn : Bool)
  deriving DecidableEq, Repr

/-- A fire queue entry (R63). -/
structure FqEntry where
  work     : Work
  onset    : Int
  fireTime : Int
  /-- DT of the slot-wait start; absent before slot wait. -/
  wait     : Option DevTime
  /-- Joining order, the model's own name for the entry. -/
  seq      : Nat
  deriving DecidableEq, Repr

/-! ### Striker Channel Table (chapters 5 and 6) -/

/-- An in-flight stroke (R85). -/
structure Stroke where
  cue         : CueRef
  onset       : Int
  grantPt     : Int
  grantDt     : DevTime
  lead        : Nat
  width       : Nat
  carried     : Nat
  restrikeOk  : Bool
  /-- Attempt 2. -/
  second      : Bool
  rerouted    : Bool
  fireDelay   : Nat
  windowOpen  : DevTime
  windowClose : DevTime
  /-- DT of the pulse end: when it falls due, and once the pulse has ended, when it ended. -/
  pulseEnd    : DevTime
  contact     : Option DevTime
  resolved    : Bool
  deriving DecidableEq, Repr

/-- An engage in progress (R108). -/
structure EngageRun where
  cue     : Option CueRef
  grantDt : DevTime
  endDt   : DevTime
  deriving DecidableEq, Repr

/-- A channel's dynamic state: R82 for STRIKE, R108 for HOLD. -/
structure Channel where
  state       : ChanState
  heat        : Nat
  trim        : Int
  misses      : Nat
  strays      : Nat
  hits        : Nat
  stroke      : Option Stroke
  /-- DT of the recovery end, in RECOVER (R90, R93). -/
  recoveryEnd : DevTime
  holdWanted  : Bool
  engage      : Option EngageRun
  /-- A standing re-engage request (R62, R114). -/
  standing    : Bool
  /-- DT at which HELD was entered, the start of its PWM periods (R111). -/
  heldSince   : DevTime
  /-- DT of the next heat event (R102). -/
  heatDue     : DevTime
  deriving DecidableEq, Repr

/-! ### Sense Input Unit and Coil Supply Monitor (chapter 7) -/

/-- A qualification (R126): raw-edge DT, hold start, and the DT of the bounce while the line is back at the
settled level. The candidate level is the level opposite the settled one. -/
structure Qual where
  rawDt     : DevTime
  holdStart : DevTime
  bounce    : Option DevTime
  deriving DecidableEq, Repr

/-- An input filter (R126). -/
structure Filter where
  settled : Bool
  qual    : Option Qual
  deriving DecidableEq, Repr

/-- The quiet qualifier (R130). -/
inductive QuietQual where
  | opened
  | qualifying (since : DevTime)
  | taken
  deriving DecidableEq, Repr

/-- The SIU's state. `stopA`, `stopB` and `dflt` are the raw levels of the latest sample (R125). -/
structure Siu where
  sns      : Vector Filter 64
  synci    : Filter
  cuei     : Filter
  home     : Filter
  stopA    : Bool
  stopB    : Bool
  quiet    : QuietQual
  dflt     : Bool
  /-- The assertion of DFLT that the latest sample shows has been taken (R133). -/
  dfltSeen : Bool
  deriving DecidableEq, Repr

/-- The CSM's state (R136, R138) and the voltage on VSENSE in µV at its latest sample. -/
structure Csm where
  vsense  : Nat
  reading : Byte
  level   : SupplyLevel
  deriving DecidableEq, Repr

/-! ### Rotor Drive (chapter 6) -/

/-- The ROT's state (R118). -/
structure Rotor where
  state   : RotorState
  rate    : Nat
  target  : Nat
  phase   : BitVec 2
  cmd     : Option RotorCmd
  /-- The pending ROTOR cue, whose result is still owed. -/
  owed    : Option CueLoc
  /-- The home search: armed with its step count, or disarmed. -/
  search  : Option Nat
  /-- DT of the next scheduled step. -/
  nextStep : Option DevTime
  /-- DT of the next rate event (R119). -/
  rateDue : DevTime
  deriving DecidableEq, Repr

/-! ### Performance control logic (chapter 8) -/

/-- The latched global configuration, every field in its range (Table 10-7, R52, R81, R118, R137). -/
structure GlobalConfig where
  syncMode      : SyncMode
  rehearsal     : Bool
  initialPeriod : Nat
  lookAhead     : Nat
  slotCount     : Nat
  missLimit     : Nat
  skew          : Nat
  earlyTol      : Nat
  lateTol       : Nat
  restrikeLimit : Nat
  contactFilter : Nat
  warmVelocity  : Nat
  sagBoost      : Nat
  lagSlope      : Nat
  restrikeBoost : Nat
  sagOn         : Nat
  sagOff        : Nat
  brownOn       : Nat
  brownOff      : Nat
  homeFalling   : Bool
  reverse       : Bool
  stepsPerRev   : Nat
  acceleration  : Nat
  parkRate      : Nat
  deriving DecidableEq, Repr

/-- A latched channel record, every field in its range (Table 10-8, R81, R108). -/
structure ChannelConfig where
  cls          : ChanClass
  sensePresent : Bool
  senseFalling : Bool
  cutOff       : Bool
  learnTrim    : Bool
  pinned       : Bool
  partner      : Option ChanId
  gain         : Nat
  cooling      : Nat
  wMax         : Nat
  initialTrim  : Int
  recovery     : Nat
  mapAddr      : Addr
  warm         : Nat
  hot          : Nat
  resume       : Nat
  holdDuty     : Nat
  engageWidth  : Nat
  engageLead   : Nat
  releaseLead  : Nat
  deriving DecidableEq, Repr

/-- The configuration latch when it is present (R141). -/
structure Latch where
  global     : GlobalConfig
  chans      : Vector ChannelConfig 64
  startBlock : Addr
  deriving DecidableEq, Repr

/-- The performance control logic's state (R141). -/
structure Perf where
  state    : PerfState
  endCause : EndCause
  /-- The remembered prior state, present only in PAUSED. -/
  prior    : Option PerfState
  /-- DT at which PAUSE was taken, used while PAUSED (R76). -/
  pausedAt : DevTime
  latch    : Option Latch
  lock     : Bool
  /-- LOADING's staging copy: the lines read so far, in the order of R144; empty outside LOADING. -/
  staged   : List (List Byte)
  deriving DecidableEq, Repr

/-! ### Cue Memory Port and Status Writer (chapters 9 and 10) -/

/-- CONTROL, ATTN_FLAGS and ATTN_ENABLE (Table 10-13). STATUS is computed. -/
structure Regs where
  code    : Byte
  outcome : CmdOutcome
  flags   : BitVec 9
  enable  : BitVec 9
  deriving DecidableEq, Repr

/-- The SPI port: the bytes the last transaction shifted out on MISO, the model's count of free MISO bytes used so
far (log entry 1), and the register whose group comes next if a REG_WRITE goes on (R170). -/
structure Port where
  miso    : List Byte
  used    : Nat
  nextReg : Option (BitVec 2)
  deriving DecidableEq, Repr

/-- The schedules of the housekeeping event (R1) and the report event (R164), as the DT of the next. -/
structure Sched where
  houseDue  : DevTime
  reportDue : DevTime
  deriving DecidableEq, Repr

/-- The whole part, and the queue of commands waiting. -/
structure State where
  mem     : Memory
  scu     : Scu
  reader  : Reader
  /-- The open block table (R36). -/
  passes  : List Pass
  /-- The next number for an open block table entry, the model's own. -/
  passSeq : Nat
  /-- The fire queue, in the order of R64. -/
  fq      : List FqEntry
  /-- The next joining number of the fire queue, the model's own. -/
  fqSeq   : Nat
  /-- Drive slots in use (R71). -/
  slots   : Nat
  chans   : Vector Channel 64
  /-- The active map store (R48). -/
  maps    : Vector (Option VelMap) 64
  /-- The map staging buffer, 64 bytes (R46). -/
  staging : List Byte
  siu     : Siu
  csm     : Csm
  rot     : Rotor
  perf    : Perf
  regs    : Regs
  port    : Port
  sched   : Sched
  /-- nRST is held low: the part is in pin reset (R176). -/
  nrstLow : Bool
  /-- The commands waiting, first in, first out. -/
  pending : List Instr
  deriving DecidableEq, Repr

/-! ### The state after a power-on reset -/

/-- The status area as a power-on reset leaves it, in a cue memory that reads 0x00 everywhere else: the identity
line (R161) and P = 1,600 in snapshot line B (R163). What cue memory outside the status area holds after
a power-on reset is undefined (R157); reading it as 0x00 is a DESIGN CHOICE (log entry 3), and so is 0x00 in bytes 7 to 15 of the
identity line (log entry 43). -/
def Memory.atPowerOn : Memory :=
  [(0x00, 0x4E), (0x01, 0x4F), (0x02, 0x08), (0x03, 0x19), (0x04, 0x01), (0x05, 0x40), (0x06, 0x40),
   (0x2A, 0x40), (0x2B, 0x06)]

/-- The SCU after a power-on reset (Table 1-3). -/
def Scu.atPowerOn : Scu where
  dt := 0
  pt := 0
  tick := 0
  cond := .unscheduled
  period := 1600
  tempo := { base := 1600, ramp := none }
  agenda := []
  holdExpiry := none
  sync := .none
  lossElapsed := none
  prevPulse := none
  resumed := false
  synco := none

/-- The CRD after every reset (Table 2-6). -/
def Reader.atReset : Reader where
  state := .stopped
  tick := 0
  block := 0
  slot := 0
  count := 0
  pass := none
  pending := .none
  stack := []
  starved := false

/-- A channel after a power-on reset (R82, R108); its first heat event is at 10,000 µs (R102). -/
def Channel.atPowerOn : Channel where
  state := .off
  heat := 0
  trim := 0
  misses := 0
  strays := 0
  hits := 0
  stroke := none
  recoveryEnd := 0
  holdWanted := false
  engage := none
  standing := false
  heldSince := 0
  heatDue := 10000

/-- The rotor after a power-on reset (R118); its first rate event is at 10,000 µs (R119). -/
def Rotor.atPowerOn : Rotor where
  state := .stopped
  rate := 0
  target := 0
  phase := 0
  cmd := none
  owed := none
  search := none
  nextStep := none
  rateDue := 10000

/-- The performance control logic after a power-on or pin reset (R141). -/
def Perf.atPowerOn : Perf where
  state := .idle
  endCause := .none
  prior := none
  pausedAt := 0
  latch := none
  lock := false
  staged := []

/-- The machine right after a power-on reset, with every input at its inactive level (STOPB is inactive high)
and the coil supply at full scale: the levels are the instrument's, not the part's (log entry 4). -/
def State.reset : State where
  mem := Memory.atPowerOn
  scu := Scu.atPowerOn
  reader := Reader.atReset
  passes := []
  passSeq := 0
  fq := []
  fqSeq := 0
  slots := 0
  chans := Vector.replicate 64 Channel.atPowerOn
  maps := Vector.replicate 64 none
  staging := List.replicate 64 0
  siu := { sns := Vector.replicate 64 { settled := false, qual := none }
           synci := { settled := false, qual := none }
           cuei := { settled := false, qual := none }
           home := { settled := false, qual := none }
           stopA := false, stopB := true, quiet := .opened, dflt := false, dfltSeen := false }
  csm := { vsense := 2500000, reading := 0, level := .normal }
  rot := Rotor.atPowerOn
  perf := Perf.atPowerOn
  regs := { code := 0, outcome := .none, flags := 0, enable := 0 }
  port := { miso := [], used := 0, nextReg := none }
  sched := { houseDue := 1000, reportDue := 100000 }
  nrstLow := false
  pending := []

end Sys2Proof.Machine
end

