-- ==== Sys2Proof/Machine/Operands.lean ====
section
/-! DEFINITION. Field encodings of chapter 10: little-endian numbers, codes, cues, block headers, the global
configuration, channel records, map records with their checks, and the bytes of a result area. -/
namespace Sys2Proof.Machine
open Sys2Proof

/-! ### Numbers in bytes (R175) -/

/-- "Clamped into lo..hi" (00_scope.md, Ranges). -/
def clampNat (lo hi x : Nat) : Nat := max lo (min hi x)

/-- "Clamped into lo..hi" for signed values. -/
def clampInt (lo hi x : Int) : Int := max lo (min hi x)

/-- The `n` low bytes of `v`, little-endian. -/
def leBytes : Nat → Nat → List Byte
  | 0, _ => []
  | n + 1, v => BitVec.ofNat 8 v :: leBytes n (v / 256)

/-- The number that bytes spell, little-endian. -/
def leNat : List Byte → Nat
  | [] => 0
  | b :: bs => b.toNat + 256 * leNat bs

/-- A signed value as two's complement in two bytes. -/
def leSigned16 (x : Int) : List Byte := leBytes 2 (BitVec.ofInt 16 x).toNat

/-- The byte at an offset of a record. -/
def byteAt (r : List Byte) (i : Nat) : Byte := r.getD i 0

def u8 (r : List Byte) (i : Nat) : Nat := (byteAt r i).toNat
def u16 (r : List Byte) (i : Nat) : Nat := leNat [byteAt r i, byteAt r (i + 1)]
def u24 (r : List Byte) (i : Nat) : Nat := leNat [byteAt r i, byteAt r (i + 1), byteAt r (i + 2)]

/-- One bit of the byte at an offset. -/
def bitAt (r : List Byte) (i b : Nat) : Bool := (byteAt r i).getLsbD b

/-- A 16-bit address field. -/
def addrAt (r : List Byte) (i : Nat) : Addr := BitVec.ofNat 16 (u16 r i)

/-- The signed 12-bit micro-offset field, in µs (Table 10-5). -/
def microAt (r : List Byte) (i : Nat) : Int := (BitVec.ofNat 12 (u16 r i)).toInt

/-! ### Codes (Table 10-14, Table 9-1, Table 10-6, Table 10-12) -/

def PerfState.code : PerfState → Nat
  | .idle => 0 | .loading => 1 | .running => 2 | .holding => 3
  | .paused => 4 | .draining => 5 | .ended => 6 | .frozen => 7

def EndCause.code : EndCause → Nat
  | .none => 0 | .complete => 1 | .stopped => 2 | .chainFault => 3
  | .configError => 4 | .quiet => 5 | .driveFault => 6

def ReaderState.code : ReaderState → Nat
  | .stopped => 0 | .reading => 1 | .horizon => 2 | .stalled => 3
  | .linkWait => 4 | .held => 5 | .finished => 6 | .faulted => 7

def SupplyLevel.code : SupplyLevel → Nat
  | .normal => 0 | .sag => 1 | .brown => 2

def SyncState.code : SyncState → Nat
  | .none => 0 | .acquire => 1 | .locked => 2 | .lost => 3

def RotorState.code : RotorState → Nat
  | .stopped => 0 | .running => 1 | .parking => 2 | .parked => 3 | .homeFault => 4

def ChanState.code : ChanState → Nat
  | .off => 0 | .idle => 1 | .drive => 2 | .flight => 3 | .recover => 4
  | .cooldown => 5 | .faulted => 6 | .released => 7 | .engage => 8 | .held => 9

def CmdOutcome.code : CmdOutcome → Nat
  | .none => 0 | .accepted => 1 | .refusedState => 2 | .refusedArg => 3 | .refusedLock => 4

def CueOutcome.code : CueOutcome → Nat
  | .none => 0 | .hit => 1 | .played => 2 | .miss => 3 | .dropped => 4 | .cancelled => 5
  | .quieted => 6 | .refused => 7 | .applied => 8 | .superseded => 9 | .releasedHold => 10
  | .latched => 11 | .isProtected => 12 | .badMap => 13 | .homeFault => 14 | .done => 15
  | .engaged => 16 | .released => 17

def DropCause.code : DropCause → Nat
  | .none => 0 | .busy => 1 | .crowded => 2 | .hot => 3 | .faulted => 4 | .supply => 5

def ReleaseSource.code : ReleaseSource → Nat
  | .none => 0 | .cue => 1 | .cont => 2 | .timeout => 3

def MapDetail.code : MapDetail → Nat
  | .address => 1 | .count => 2 | .velocity => 3 | .width => 4 | .flight => 5

def FaultKind.code : FaultKind → Nat
  | .chain => 1 | .config => 2 | .drive => 3

def FaultDetail.code : FaultDetail → Nat
  | .badBlockCount => 1 | .badLinkAddress => 2 | .badLinkSignature => 3 | .badLinkKind => 4
  | .badCueKind => 5 | .loopDepthFull => 6 | .driveLine => 7 | .cfgSyncMode => 8
  | .cfgSupplyThresholds => 9 | .cfgClass => 10 | .cfgPartner => 11 | .cfgHeatThresholds => 12
  | .cfgMap d => 12 + d.code
  | .cfgStartAddress => 18 | .cfgStartSignature => 19 | .cfgStartCount => 20

/-- The kind code of a cue (Table 2-3). -/
def CueBody.kindCode : CueBody → Nat
  | .strike .. => 1 | .hold .. => 2 | .tempo .. => 3 | .rotor .. => 4
  | .mark .. => 5 | .holdpoint .. => 6 | .map .. => 7 | .repeatJump .. => 8

/-! ### Cues (Table 10-4, Table 10-5, Table 2-3) -/

/-- A STRIKE velocity as read: 0 as 1, above 127 as 127. -/
def readVelocity (v : Nat) : Nat := clampNat 1 127 v

/-- A ROTOR command: 0 is read as 1 and larger values as the maximum; any other mode code refuses the cue. -/
def readRotor (mode value : Nat) : Option RotorCmd :=
  match mode with
  | 0 => some .off
  | 1 => some (.fixed (clampNat 1 2000 value))
  | 2 => some (.beat (clampNat 1 800 value))
  | 3 => some .park
  | _ => none

/-- A HOLD operation: 1 ENGAGE, 2 RELEASE; any other code refuses the cue. -/
def readHoldOp (op : Nat) : Option HoldOp :=
  match op with
  | 1 => some .engage
  | 2 => some .release
  | _ => none

/-- The kind and parameters of a cue line; none for a kind code that is none of the eight (R26). -/
def readCueBody (r : List Byte) : Option CueBody :=
  match u8 r 0 with
  | 1 => some (.strike (byteAt r 1) (readVelocity (u8 r 2)) (microAt r 3) (bitAt r 5 0))
  | 2 => some (.hold (byteAt r 1) (readHoldOp (u8 r 2)) (microAt r 3))
  | 3 => some (.tempo (u24 r 1) (u16 r 4))
  | 4 => some (.rotor (readRotor (u8 r 1) (u16 r 2)))
  | 5 => some (.mark (bitAt r 1 0))
  | 6 => some (.holdpoint (bitAt r 1 0) (bitAt r 1 1) (u8 r 2) (u8 r 3))
  | 7 => some (.map (byteAt r 1) (addrAt r 2) (bitAt r 4 0))
  | 8 => some (.repeatJump (addrAt r 1) (max 1 (u8 r 3)))
  | _ => none

/-- A cue line as the pending cue register takes it (R26). -/
def readCue (r : List Byte) : Option Cue :=
  (readCueBody r).map fun b => { body := b, delta := BitVec.ofNat 16 (u16 r 6) }

/-- The channel a byte names, none above 63. -/
def chanOfByte (b : Byte) : Option ChanId :=
  if h : b.toNat < 64 then some ⟨b.toNat, h⟩ else none

/-! ### Blocks (Table 10-3, R23) -/

/-- A block's link as its header line spells it. -/
inductive Link where
  | endLink
  | wait
  | next (target : Addr)
  | bad
  deriving DecidableEq, Repr

def readLinkWord (header : List Byte) : Link :=
  match u8 header 4 with
  | 1 => .endLink
  | 2 => .wait
  | 3 => .next (addrAt header 6)
  | _ => .bad

/-- A valid block address: a multiple of 256 within 0x1000..0xFF00 (R23). -/
def validBlockAddr (a : Addr) : Bool :=
  a.toNat % 256 == 0 && decide (0x1000 ≤ a.toNat) && decide (a.toNat ≤ 0xFF00)

/-- The signature of a block header (Table 2-2). -/
def blockSignature : Nat := 0x5A43

/-! ### Map records (R46, R47, Table 10-9) -/

/-- A valid map record address (R46). -/
def validMapAddr (a : Addr) : Bool :=
  a.toNat % 64 == 0 &&
    ((decide (0x0740 ≤ a.toNat) && decide (a.toNat ≤ 0x0FC0)) ||
     (decide (0x1000 ≤ a.toNat) && decide (a.toNat ≤ 0xFFC0)))

/-- Knot i of a staged record. -/
def readKnot (r : List Byte) (i : Nat) : Knot where
  velocity := u8 r (4 + 6 * i)
  width := u16 r (6 + 6 * i)
  flight := u16 r (8 + 6 * i)

/-- Knots 0 to n - 1 of a staged record. -/
def readKnots (r : List Byte) (n : Nat) : List Knot := (List.range n).map (readKnot r)

/-- The knot checks of R47 from knot `i` on, with the velocity of the knot before (0 before knot 0): the first
that fails, with its knot. -/
def checkKnots (i before : Nat) : List Knot → Option (MapDetail × Nat)
  | [] => none
  | k :: ks =>
    if k.velocity ≤ before ∨ 127 < k.velocity then some (.velocity, i)
    else if k.width < 100 ∨ 25000 < k.width then some (.width, i)
    else if k.flight < 200 ∨ 40000 < k.flight then some (.flight, i)
    else checkKnots (i + 1) k.velocity ks

/-- The checks of R47 on a record at an address, in their order: the map, or the first failure with its knot
index. -/
def validateMap (a : Addr) (record : List Byte) : Except (MapDetail × Nat) VelMap :=
  if validMapAddr a = false then .error (.address, 0)
  else if u8 record 0 < 2 ∨ 8 < u8 record 0 then .error (.count, 0)
  else
    match checkKnots 0 0 (readKnots record (u8 record 0)) with
    | some e => .error e
    | none => .ok { knots := readKnots record (u8 record 0) }

/-! ### The global configuration (Table 10-7, with the treatments of R5, R7, R52, R71, R75, R81, R118) -/

/-- The sync mode code; none for a code outside its list (CFG_SYNC_MODE). -/
def readSyncMode (c : Nat) : Option SyncMode :=
  match c with
  | 0 => some .free
  | 1 => some .lead
  | 2 => some .follow
  | _ => none

/-- "Every value that becomes a period is clamped into 1,600..1,048,575 su" (R5). -/
def clampPeriod (p : Nat) : Nat := clampNat 1600 1048575 p

/-- The 64 bytes at 0x0100 as latched, each field in its range. -/
def readGlobal (r : List Byte) : GlobalConfig where
  syncMode := (readSyncMode (u8 r 0x02)).getD .free
  rehearsal := bitAt r 0x03 0
  initialPeriod := clampPeriod (u24 r 0x04)
  lookAhead := clampNat 50 250 (u8 r 0x07)
  slotCount := clampNat 1 16 (u8 r 0x08)
  missLimit := min 15 (u8 r 0x09)
  skew := min 8000 (u16 r 0x0A)
  earlyTol := min 20000 (u16 r 0x0C)
  lateTol := min 20000 (u16 r 0x0E)
  restrikeLimit := min 60000 (u16 r 0x10)
  contactFilter := min 2000 (u16 r 0x12)
  warmVelocity := clampNat 1 127 (u8 r 0x14)
  sagBoost := clampNat 64 127 (u8 r 0x15)
  lagSlope := min 4095 (u16 r 0x16)
  restrikeBoost := clampNat 64 255 (u8 r 0x18)
  sagOn := u8 r 0x19
  sagOff := u8 r 0x1A
  brownOn := u8 r 0x1B
  brownOff := u8 r 0x1C
  homeFalling := bitAt r 0x1D 0
  reverse := bitAt r 0x1D 1
  stepsPerRev := clampNat 48 400 (u16 r 0x1E)
  acceleration := clampNat 1 2000 (u16 r 0x20)
  parkRate := clampNat 1 2000 (u16 r 0x22)

/-- The relations of the supply thresholds (R137). -/
def supplyThresholdsOk (g : GlobalConfig) : Bool :=
  decide (g.sagOn < g.sagOff) && decide (g.brownOn < g.brownOff) && decide (g.brownOff ≤ g.sagOn)

/-! ### Channel records (Table 10-8, R81, R108, R175) -/

/-- The class code of a channel record; none for code 3 (CFG_CLASS). -/
def readClass (r : List Byte) : Option ChanClass :=
  match u8 r 0 % 4 with
  | 0 => some .unused
  | 1 => some .strike
  | 2 => some .hold
  | _ => none

/-- The 16 bytes of a channel record as latched, each field in its range. The STRIKE and HOLD fields that share
an offset are both read; the class says which are used. -/
def readChannel (r : List Byte) : ChannelConfig where
  cls := (readClass r).getD .unused
  sensePresent := bitAt r 0 2
  senseFalling := bitAt r 0 3
  cutOff := bitAt r 0 4
  learnTrim := bitAt r 0 5
  pinned := bitAt r 0 6
  partner := if bitAt r 1 6 then some (Fin.ofNat 64 (u8 r 1)) else none
  gain := u8 r 2
  cooling := max 1 (u8 r 3)
  wMax := clampNat 100 25000 (u8 r 4 * 100)
  initialTrim := clampInt (-2000) 2000 ((byteAt r 5).toInt * 16)
  recovery := min 100000 (u16 r 6 * 2)
  mapAddr := addrAt r 8
  warm := u16 r 10
  hot := u16 r 12
  resume := u16 r 14
  holdDuty := u8 r 1
  engageWidth := clampNat 100 (clampNat 100 25000 (u8 r 4 * 100)) (clampNat 100 25000 (u8 r 5 * 100))
  engageLead := min 40000 (u16 r 8)
  releaseLead := min 40000 (u16 r 6)

/-- What stands in the place of a global configuration while none is latched. No rule reads it then: nothing is
planned, granted, filtered by time or stepped before a LOADING succeeds (R52, R127, R157). -/
def GlobalConfig.unlatched : GlobalConfig := readGlobal []

/-- What stands in the place of a channel record while none is latched: class UNUSED. -/
def ChannelConfig.unlatched : ChannelConfig := readChannel []

/-! ### Result areas (Table 10-6, R95, R160) -/

/-- PT in µs: PT divided by 16, truncated (R2). -/
def ptMicros (pt : PerfTime) : Nat := pt.toNat / 16

/-- A STRIKE result. -/
structure StrikeResult where
  outcome   : CueOutcome
  cause     : DropCause
  second    : Bool
  rerouted  : Bool
  rehearsed : Bool
  fireDelay : Nat
  lateness  : Int
  flight    : Nat
  deriving DecidableEq, Repr

def StrikeResult.bytes (r : StrikeResult) : List Byte :=
  [BitVec.ofNat 8 r.outcome.code,
   BitVec.ofNat 8 (r.cause.code + (if r.second then 8 else 0) + (if r.rerouted then 16 else 0)
     + (if r.rehearsed then 32 else 0))]
  ++ leBytes 2 r.fireDelay ++ leSigned16 r.lateness ++ leBytes 2 r.flight

/-- A HOLD result: drop cause and resolution PT. -/
def holdResult (o : CueOutcome) (c : DropCause) (pt : PerfTime) : List Byte :=
  [BitVec.ofNat 8 o.code, BitVec.ofNat 8 c.code] ++ leBytes 6 (ptMicros pt)

/-- A TEMPO result: period applied. -/
def tempoResult (o : CueOutcome) (period : Nat) : List Byte :=
  [BitVec.ofNat 8 o.code, 0] ++ leBytes 3 period ++ [0, 0, 0]

/-- A ROTOR result: resolution PT. -/
def rotorResult (o : CueOutcome) (pt : PerfTime) : List Byte :=
  [BitVec.ofNat 8 o.code, 0] ++ leBytes 6 (ptMicros pt)

/-- A MARK result: PT, low 32 bits of µs, and DT, low 24 bits. -/
def markResult (o : CueOutcome) (pt dt : Nat) : List Byte :=
  [BitVec.ofNat 8 o.code] ++ leBytes 4 pt ++ leBytes 3 dt

/-- A HOLDPOINT result: release source and release PT in µs. -/
def holdpointResult (o : CueOutcome) (src : ReleaseSource) (micros : Nat) : List Byte :=
  [BitVec.ofNat 8 o.code, BitVec.ofNat 8 src.code] ++ leBytes 6 micros

/-- A MAP result: map check detail and knot index, none and 0 but with BAD_MAP. -/
def mapResult (o : CueOutcome) (e : Option (MapDetail × Nat)) : List Byte :=
  match e with
  | none => [BitVec.ofNat 8 o.code, 0, 0, 0, 0, 0, 0, 0]
  | some (d, k) => [BitVec.ofNat 8 o.code, BitVec.ofNat 8 d.code, BitVec.ofNat 8 k, 0, 0, 0, 0, 0]

/-- The result of a refused cue of any kind but STRIKE: the outcome and no other field (R160). -/
def refusedResult : List Byte := [BitVec.ofNat 8 CueOutcome.refused.code, 0, 0, 0, 0, 0, 0, 0]

end Sys2Proof.Machine
end

