-- ==== Sys2Proof/Machine/Ops.lean ====
section
/-! DEFINITION. The shared operations over cue memory, the clocks, the channels and the open block table. -/
namespace Sys2Proof.Machine
open Sys2Proof

/-! ### Updates of one field of State -/

def State.setMem (s : State) (x : Memory) : State := { s with mem := x }
def State.setScu (s : State) (x : Scu) : State := { s with scu := x }
def State.setReader (s : State) (x : Reader) : State := { s with reader := x }
def State.setPasses (s : State) (x : List Pass) : State := { s with passes := x }
def State.setPassSeq (s : State) (x : Nat) : State := { s with passSeq := x }
def State.setFq (s : State) (x : List FqEntry) : State := { s with fq := x }
def State.setFqSeq (s : State) (x : Nat) : State := { s with fqSeq := x }
def State.setSlots (s : State) (x : Nat) : State := { s with slots := x }
def State.setChans (s : State) (x : Vector Channel 64) : State := { s with chans := x }
def State.setMaps (s : State) (x : Vector (Option VelMap) 64) : State := { s with maps := x }
def State.setStaging (s : State) (x : List Byte) : State := { s with staging := x }
def State.setSiu (s : State) (x : Siu) : State := { s with siu := x }
def State.setCsm (s : State) (x : Csm) : State := { s with csm := x }
def State.setRot (s : State) (x : Rotor) : State := { s with rot := x }
def State.setPerf (s : State) (x : Perf) : State := { s with perf := x }
def State.setRegs (s : State) (x : Regs) : State := { s with regs := x }
def State.setPort (s : State) (x : Port) : State := { s with port := x }
def State.setSched (s : State) (x : Sched) : State := { s with sched := x }
def State.setNrstLow (s : State) (x : Bool) : State := { s with nrstLow := x }

/-! ### Cue memory -/

/-- The byte at an address. An unlisted address reads 0x00 (log entry 3). -/
def Memory.read (m : Memory) (a : Nat) : Byte :=
  match m with
  | [] => 0
  | (k, v) :: r => if k = a then v else Memory.read r a

/-- Write a byte, keeping the canonical form: a written 0x00 leaves the address unlisted. -/
def Memory.write (m : Memory) (a : Nat) (v : Byte) : Memory :=
  match m with
  | [] => if v = 0 then [] else [(a, v)]
  | (k, w) :: r =>
    if a < k then (if v = 0 then (k, w) :: r else (a, v) :: (k, w) :: r)
    else if a = k then (if v = 0 then r else (a, v) :: r)
    else (k, w) :: Memory.write r a v

/-- Addresses from `lo` on, strictly rising, below 0x10000, and no listed 0x00. -/
def Memory.wfFrom (lo : Nat) (m : Memory) : Bool :=
  match m with
  | [] => true
  | (k, v) :: r => decide (lo ≤ k) && decide (k < 0x10000) && (v != 0) && Memory.wfFrom (k + 1) r

/-- The canonical form of cue memory. -/
def Memory.wf (m : Memory) : Bool := Memory.wfFrom 0 m

/-- `n` bytes from an address upward. -/
def Memory.readBytes (m : Memory) (a : Nat) : Nat → List Byte
  | 0 => []
  | n + 1 => Memory.read m a :: Memory.readBytes m (a + 1) n

/-- Write bytes from an address upward; a byte beyond the end of cue memory is not written. -/
def Memory.writeBytes (m : Memory) (a : Nat) : List Byte → Memory
  | [] => m
  | b :: bs => Memory.writeBytes (if a < 0x10000 then Memory.write m a b else m) (a + 1) bs

/-- A line of 16 bytes. -/
def Memory.line (m : Memory) (a : Nat) : List Byte := Memory.readBytes m a 16

/-- Write bytes of cue memory from an address upward, as one line operation of the part (R173). -/
def State.poke (s : State) (a : Nat) (bs : List Byte) : State := s.setMem (Memory.writeBytes s.mem a bs)

/-! ### Time and ticks (R1 to R4) -/

/-- A device time is reached or passed: the signed difference modulo 2^32 is not negative (R1). -/
def reached (now t : DevTime) : Bool := !(now - t).msb

/-- Tick `a` is `b` or earlier, by the signed difference modulo 2^32 (R4). -/
def tickUpTo (a b : Tick) : Bool := !(b - a).msb

/-- PT as an exact number of su. -/
def State.now (s : State) : Int := (s.scu.pt.toNat : Int)

/-- The PT equivalent of a device time (R3). -/
def State.ptOfDt (s : State) (d : DevTime) : Int := s.now + 16 * (d - s.scu.dt).toInt

/-- The DT equivalent of a performance time, truncated toward zero, modulo 2^32 (R3). -/
def State.dtOfPt (s : State) (t : Int) : DevTime := s.scu.dt + BitVec.ofInt 32 (Int.tdiv (t - s.now) 16)

/-- The performance states in which PT advances (R2). -/
def PerfState.advances : PerfState → Bool
  | .running => true
  | .holding => true
  | .draining => true
  | .idle => false
  | .loading => false
  | .paused => false
  | .ended => false
  | .frozen => false

/-- The performance states in which tick boundaries and sync pulses are taken and the loss timer runs (R6, R17,
R18). -/
def PerfState.scores : PerfState → Bool
  | .running => true
  | .draining => true
  | .holding => false
  | .idle => false
  | .loading => false
  | .paused => false
  | .ended => false
  | .frozen => false

/-! ### The latched configuration -/

def State.global (s : State) : GlobalConfig :=
  match s.perf.latch with
  | some l => l.global
  | none => GlobalConfig.unlatched

def State.ccfg (s : State) (n : ChanId) : ChannelConfig :=
  match s.perf.latch with
  | some l => l.chans[n]
  | none => ChannelConfig.unlatched

/-- Rehearsal is latched (R107). -/
def State.rehearsal (s : State) : Bool := s.perf.latch.isSome && s.global.rehearsal

/-! ### Channels -/

def allChans : List ChanId := List.finRange 64

def State.chan (s : State) (n : ChanId) : Channel := s.chans[n]

def State.setChan (s : State) (n : ChanId) (c : Channel) : State := s.setChans (s.chans.set n c)

def State.setChanState (s : State) (n : ChanId) (x : ChanState) : State :=
  s.setChan n { s.chan n with state := x }

/-- Do something for every channel, channel 0 first. -/
def State.forChans (f : ChanId → State → State) (s : State) : State :=
  allChans.foldl (fun s n => f n s) s

/-! ### Results and the open block table (R36 to R38, R158) -/

/-- The address of a cue's line (Table 10-4): slot i is line i + 1 of its block. -/
def cueAddr (l : CueLoc) : Nat := l.block.toNat + 16 * (l.slot + 1)

/-- Write a cue's result area, the last 8 bytes of its line (R158). -/
def State.writeResult (s : State) (l : CueLoc) (result : List Byte) : State :=
  s.poke (cueAddr l + 8) result

/-- The completion count of a block, increased by one, 255 becoming 0 (R38). -/
def State.countCompletion (s : State) (block : Addr) : State :=
  s.poke (block.toNat + 3) [Memory.read s.mem (block.toNat + 3) + 1]

/-- Close an open block table entry that has reading-done set and an outstanding count of 0 (R38). -/
def State.closePass (s : State) (p : Nat) : State :=
  match s.passes.find? (fun e => e.id == p) with
  | some e =>
    if e.readingDone && e.outstanding == 0 then
      (s.countCompletion e.block).setPasses (s.passes.filter (fun e => e.id != p))
    else s
  | none => s

/-- Change one open block table entry. -/
def State.mapPass (s : State) (p : Nat) (f : Pass → Pass) : State :=
  s.setPasses (s.passes.map fun e => if e.id == p then f e else e)

/-- An item that refers to a pass comes into being (R36). -/
def State.addItem (s : State) (p : Nat) : State :=
  s.mapPass p fun e => { e with outstanding := e.outstanding + 1 }

/-- An item that refers to a pass ends: the count falls by one and the pass closes if it was the last (R36,
R38). -/
def State.endItem (s : State) (p : Nat) : State :=
  (s.mapPass p fun e => { e with outstanding := e.outstanding - 1 }).closePass p

/-- A pass is marked reading-done, and closes if nothing is outstanding (R37, R38). -/
def State.markDone (s : State) (p : Nat) : State :=
  (s.mapPass p fun e => { e with readingDone := true }).closePass p

/-- Write an item's result and then report its end (R158). -/
def State.resolve (s : State) (c : CueRef) (result : List Byte) : State :=
  (s.writeResult c.loc result).endItem c.pass

/-- The same for an item that may come from no cue. -/
def State.resolve? (s : State) (c : Option CueRef) (result : List Byte) : State :=
  match c with
  | some c => s.resolve c result
  | none => s

end Sys2Proof.Machine
end

