-- ==== Sys2Proof/Machine/Flags.lean ====
section
/-! DEFINITION. The attention flags, the STATUS and CONTROL registers, the snapshot lines, the channel report
table, the fault record, and what every step does with them when it ends. -/
namespace Sys2Proof.Machine
open Sys2Proof

/-! ### Attention (R168, R169, Table 10-13) -/

def AttnFlag.bit : AttnFlag → Nat
  | .ended => 0 | .fault => 1 | .frozen => 2 | .mark => 3 | .hold => 4
  | .channel => 5 | .supply => 6 | .sync => 7 | .starved => 8

/-- Set an attention flag (R168). -/
def State.setFlag (s : State) (f : AttnFlag) : State :=
  s.setRegs { s.regs with flags := s.regs.flags ||| (1#9 <<< f.bit) }

/-- An attention flag is set. -/
def State.flag (s : State) (f : AttnFlag) : Bool := s.regs.flags.getLsbD f.bit

/-- The ATTN line is asserted while any flag set is also enabled (R169). -/
def State.attnAsserted (s : State) : Bool := (s.regs.flags &&& s.regs.enable) != 0

/-! ### Protection inputs as asserted or not (R130, R133) -/

def Siu.stopAAsserted (x : Siu) : Bool := x.stopA
def Siu.stopBAsserted (x : Siu) : Bool := !x.stopB
def Siu.bothStops (x : Siu) : Bool := x.stopAAsserted && x.stopBAsserted

/-! ### STATUS and the register file (R174, Table 10-13) -/

/-- The fault record is HELD: its state byte at 0x0070 reads 1 (Table 10-12). -/
def State.faultHeld (s : State) : Bool := Memory.read s.mem 0x70 == 1

def State.statusReg (s : State) : BitVec 16 :=
  BitVec.ofNat 16
    (s.perf.state.code
      + (if s.siu.stopAAsserted then 0x10 else 0)
      + (if s.siu.stopBAsserted then 0x20 else 0)
      + (if s.siu.dflt then 0x40 else 0)
      + (if s.attnAsserted then 0x80 else 0)
      + (if s.perf.latch.isSome then 0x100 else 0)
      + (if s.perf.lock then 0x200 else 0)
      + (if s.faultHeld then 0x400 else 0))

/-- What a read of a register returns, by index (R174). Bits 9 to 15 of ATTN_FLAGS and ATTN_ENABLE read 0. -/
def State.regRead (s : State) (index : Nat) : BitVec 16 :=
  match index with
  | 0 => s.statusReg
  | 1 => BitVec.ofNat 16 (s.regs.code.toNat + 256 * s.regs.outcome.code)
  | 2 => s.regs.flags.setWidth 16
  | _ => s.regs.enable.setWidth 16

/-! ### Snapshot lines (R162, R163, Table 10-10) -/

/-- Snapshot line A. The config-locked byte of Table 10-10 is 1 when the lock is set (DESIGN CHOICE, log entry 40). -/
def State.lineA (s : State) : List Byte :=
  [BitVec.ofNat 8 s.perf.state.code, BitVec.ofNat 8 s.perf.endCause.code, BitVec.ofNat 8 s.csm.level.code,
   BitVec.ofNat 8 s.scu.sync.code, BitVec.ofNat 8 s.rot.state.code, (if s.perf.lock then 1 else 0),
   BitVec.ofNat 8 s.reader.state.code, 0, 0, 0, 0, 0, 0, 0, 0, 0]

/-- Snapshot line B. -/
def State.lineB (s : State) : List Byte :=
  leBytes 4 s.scu.tick.toNat ++ leBytes 6 (ptMicros s.scu.pt) ++ leBytes 3 s.scu.period ++ [0, 0, 0]

/-- Snapshot line C. -/
def State.lineC (s : State) : List Byte :=
  [BitVec.ofNat 8 s.fq.length, BitVec.ofNat 8 s.passes.length, BitVec.ofNat 8 s.scu.agenda.length,
   BitVec.ofNat 8 s.reader.stack.length]
  ++ leBytes 2 s.reader.block.toNat ++ leBytes 4 s.reader.tick.toNat ++ [0, 0, 0, 0, 0, 0]

def State.writeLineA (s : State) : State := s.poke 0x10 s.lineA
def State.writeLineB (s : State) : State := s.poke 0x20 s.lineB
def State.writeLineC (s : State) : State := s.poke 0x30 s.lineC

/-! ### Channel report table (R164, Table 10-11) -/

/-- A channel's report entry. -/
def Channel.report (c : Channel) : List Byte :=
  [BitVec.ofNat 8 (c.state.code + 16 * c.misses), BitVec.ofNat 8 c.strays]
  ++ leBytes 2 c.heat ++ leSigned16 c.trim ++ leBytes 2 c.hits

/-- The even channel of report line k, channels 2k and 2k + 1. -/
def evenChan (k : Fin 32) : ChanId := ⟨2 * k.val, by omega⟩
/-- The odd channel of report line k. -/
def oddChan (k : Fin 32) : ChanId := ⟨2 * k.val + 1, by omega⟩

def allReportLines : List (Fin 32) := List.finRange 32

/-- Write report line k, both channels' fields as they stand. -/
def State.writeReport (s : State) (k : Fin 32) : State :=
  s.poke (0x540 + 16 * k.val) ((s.chan (evenChan k)).report ++ (s.chan (oddChan k)).report)

/-- The report line that holds a channel's entry. -/
def lineOf (n : ChanId) : Fin 32 := ⟨n.val / 2, by omega⟩

/-- The fields whose change causes a report write; heat alone does not (R164). -/
def Channel.sameReport (a b : Channel) : Bool :=
  a.state == b.state && a.trim == b.trim && a.misses == b.misses && a.strays == b.strays && a.hits == b.hits

/-- The bytes that cue memory lists from an address up to another, below it. -/
def Memory.listed (m : Memory) (lo hi : Nat) : Memory :=
  m.filter fun c => decide (lo ≤ c.1) && decide (c.1 < hi)

/-- The table's line k holds the same bytes in both states. -/
def sameReportLine (before s : State) (k : Fin 32) : Bool :=
  let a := 0x540 + 16 * k.val
  Memory.listed s.mem a (a + 16) == Memory.listed before.mem a (a + 16)

/-- Write report line k if either channel's reported fields differ from what they were, and also if the step has written the line
itself: then a field has changed since that write or changed back to what it was (R164). -/
def State.refreshReport (before s : State) (k : Fin 32) : State :=
  if (before.chan (evenChan k)).sameReport (s.chan (evenChan k)) &&
      (before.chan (oddChan k)).sameReport (s.chan (oddChan k)) && sameReportLine before s k then s
  else s.writeReport k

/-! ### The end of a step -/

/-- Write snapshot lines A and C and the channel reports where a step has changed what they show: "where several
changes fall together, one write may carry all of them" (R163, R164). A grant writes its channel's line itself
(State.granted), so a channel that a step grants and that leaves full drive again within the step (a RELEASE that arrives
with the ENGAGE) ends with its last state in the table. -/
def publish (before s : State) : State :=
  let s := if s.lineA == before.lineA then s else s.writeLineA
  let s := if s.lineC == before.lineC then s else s.writeLineC
  allReportLines.foldl (State.refreshReport before) s

/-! ### The fault record (R166, Table 9-4, Table 10-12) -/

/-- What a fault hands to the Status Writer; PT and DT are taken as they stand. -/
structure FaultInfo where
  kind       : FaultKind
  block      : Addr
  slot       : Nat
  kindByte   : Nat
  readerTick : Tick
  depth      : Nat
  detail     : FaultDetail
  deriving DecidableEq, Repr

/-- The four lines of the record, HELD with overlap clear. -/
def State.faultRecord (s : State) (f : FaultInfo) : List Byte :=
  (leBytes 2 f.block.toNat ++ [BitVec.ofNat 8 f.slot, BitVec.ofNat 8 f.kindByte, BitVec.ofNat 8 f.depth, 0, 0, 0]
    ++ leBytes 4 f.readerTick.toNat ++ [0, 0, 0, 0])
  ++ (leBytes 6 (ptMicros s.scu.pt) ++ [0, 0] ++ leBytes 4 s.scu.dt.toNat ++ [0, 0, 0, 0])
  ++ [0, 0, 0, 0, 0, 0, 0, 0, 0, 0, 0, 0, 0, 0, 0, 0]
  ++ [1, 0, BitVec.ofNat 8 f.kind.code, BitVec.ofNat 8 f.detail.code, 0, 0, 0, 0, 0, 0, 0, 0, 0, 0, 0, 0]

/-- Hand a fault to the Status Writer: an EMPTY record is written, a HELD one has its overlap flag set, and FAULT
is set in both cases (R166). The overlap byte of Table 10-12 is 1 when set (DESIGN CHOICE, log entry 39). -/
def State.handFault (s : State) (f : FaultInfo) : State :=
  (if s.faultHeld then s.poke 0x71 [1] else s.poke 0x40 (s.faultRecord f)).setFlag .fault

/-! ### Performance state changes that set a flag (R141) -/

/-- Enter ENDED, which sets the ENDED flag. -/
def State.enterEnded (s : State) : State :=
  (s.setPerf { s.perf with state := .ended, prior := none }).setFlag .ended

/-- End the reading of the chain: RUNNING goes to DRAINING with a cause (R25, R41, R153). -/
def State.enterDraining (s : State) (c : EndCause) : State :=
  s.setPerf { s.perf with state := .draining, endCause := c }

/-! ### How a step answers -/

/-- What a step of the machine answers. -/
abbrev Answer := Host.Outcome State Fault Refusal

/-- An event that happens inside the part: it is taken when it is due and the part is not held in reset;
otherwise it does not happen (log entry 5). -/
def onEvent (due : Bool) (f : State → State) (s : State) : Answer :=
  if !s.nrstLow && due then .next (publish s (f s)) else .next s

end Sys2Proof.Machine
end

