-- ==== Sys2Proof/Machine/Planner.lean ====
section
/-! DEFINITION. Stroke planning (chapter 3): interpolation, the planned values of a stroke, the widths at grant,
and MAP cues. -/
namespace Sys2Proof.Machine
open Sys2Proof

/-- Between knots a and b at velocity v, one quantity of the map, the quotient truncated toward zero (R54). -/
def interpolate (va vb v : Nat) (qa qb : Nat) : Int :=
  (qa : Int) + Int.tdiv (((qb : Int) - qa) * ((v : Int) - va)) ((vb : Int) - va)

/-- Width and flight at velocity v, from knot a on: v is above a's velocity or a is knot 0 (R54). -/
def lookupFrom (a : Knot) (v : Nat) : List Knot → Nat × Nat
  | [] => (a.width, a.flight)
  | b :: ks =>
    if v ≤ a.velocity then (a.width, a.flight)
    else if v < b.velocity then
      ((interpolate a.velocity b.velocity v a.width b.width).toNat,
       (interpolate a.velocity b.velocity v a.flight b.flight).toNat)
    else lookupFrom b v ks

/-- Interpolate a map at a velocity (R54). A map always has a knot 0 (R47). -/
def VelMap.lookup (m : VelMap) (v : Nat) : Nat × Nat :=
  match m.knots with
  | [] => (0, 0)
  | k :: ks => lookupFrom k v ks

/-- A channel's active map, with no knots where the entry is empty: no STRIKE cue or reroute reaches such a
channel (R48). -/
def State.activeMap (s : State) (n : ChanId) : VelMap := (s.maps[n]).getD { knots := [] }

/-- The planned velocity (R53). -/
def plannedVelocity (v heat warm warmVelocity : Nat) : Nat :=
  if warm ≤ heat then min v warmVelocity else v

/-- The heat lag in µs (R56). -/
def heatLag (heat lagSlope : Nat) : Nat := heat * lagSlope / 65536

/-- The planned lead (R56). -/
def plannedLead (flight : Nat) (trim : Int) (lag : Nat) : Nat :=
  (clampInt 200 40000 ((flight : Int) + trim + lag)).toNat

/-- What planning gives a stroke (R53 to R57). -/
structure Plan where
  velocity : Nat
  width    : Nat
  lead     : Nat
  fireTime : Int
  deriving DecidableEq, Repr

/-- Plan a STRIKE cue for a channel at its velocity and projected onset (R53 to R57). -/
def State.planStrike (s : State) (n : ChanId) (velocity : Nat) (onset : Int) : Plan :=
  let c := s.chan n
  let k := s.ccfg n
  let v := plannedVelocity velocity c.heat k.warm s.global.warmVelocity
  let wf := (s.activeMap n).lookup v
  let lead := plannedLead wf.2 c.trim (heatLag c.heat s.global.lagSlope)
  { velocity := v, width := clampNat 100 k.wMax wf.1, lead := lead, fireTime := onset - 16 * (lead : Int) }

/-- The reroute width on a partner, from its own map and W_max (R58). -/
def State.rerouteWidth (s : State) (partner : ChanId) (velocity : Nat) : Nat :=
  clampNat 100 (s.ccfg partner).wMax ((s.activeMap partner).lookup velocity).1

/-- The base width of a restrike (R60). -/
def State.restrikeWidth (s : State) (n : ChanId) (carried : Nat) : Nat :=
  clampNat 100 (s.ccfg n).wMax (carried * s.global.restrikeBoost / 64)

/-- The pulse width at a grant: in SAG the boosted base width, otherwise the base width (R59). -/
def State.pulseWidth (s : State) (n : ChanId) (base : Nat) : Nat :=
  match s.csm.level with
  | .sag => clampNat 100 (s.ccfg n).wMax (base * s.global.sagBoost / 64)
  | .normal => base
  | .brown => base

/-! ### MAP cues (R46 to R50) -/

/-- Read a map record into the staging buffer, if its address is valid (R46, R47). -/
def State.stageMap (s : State) (a : Addr) : State :=
  if validMapAddr a then s.setStaging (Memory.readBytes s.mem a.toNat 64) else s

/-- Replace a channel's active map, resetting its trim where the cue asks for it (R50). -/
def State.latchMap (s : State) (n : ChanId) (m : VelMap) (resetTrim : Bool) : State :=
  let s := s.setMaps (s.maps.set n (some m))
  if resetTrim then s.setChan n { s.chan n with trim := (s.ccfg n).initialTrim } else s

/-- Resolve a MAP cue on a STRIKE channel (R49, R50). -/
def State.resolveMap (s : State) (l : CueLoc) (n : ChanId) (a : Addr) (resetTrim : Bool) : State :=
  if (s.ccfg n).pinned then s.writeResult l (mapResult .isProtected none)
  else
    let t := s.stageMap a
    match validateMap a t.staging with
    | .ok m => (t.latchMap n m resetTrim).writeResult l (mapResult .latched none)
    | .error e => t.writeResult l (mapResult .badMap (some e))

end Sys2Proof.Machine
end

