-- ==== Sys2Proof/Machine/FireQueue.lean ====
section
/-! DEFINITION. The fire queue and the drive arbiter (chapter 4): order, joining, slot wait, the grant test, the
forming of strokes and engages at a grant, and drops. -/
namespace Sys2Proof.Machine
open Sys2Proof

/-! ### Entries and their order (R63, R64) -/

/-- The channel key of the order: ROTOR and MARK entries stand as channel 64. -/
def Work.chanKey : Work → Nat
  | .strike w => w.chan.val
  | .restrike w => w.chan.val
  | .engage _ n => n.val
  | .release _ n => n.val
  | .rotor .. => 64
  | .mark .. => 64

/-- The cue an entry was placed from; none for an internal ENGAGE. -/
def Work.cue : Work → Option CueRef
  | .strike w => some w.cue
  | .restrike w => some w.cue
  | .engage c _ => c
  | .release c _ => some c
  | .rotor c _ => some c
  | .mark c _ => some c

/-- Entry `a` comes before entry `b` by fire time, then onset, then channel (R64). -/
def FqEntry.before (a b : FqEntry) : Bool :=
  decide (a.fireTime < b.fireTime) ||
  (a.fireTime == b.fireTime && (decide (a.onset < b.onset) ||
    (a.onset == b.onset && decide (a.work.chanKey < b.work.chanKey))))

/-- Place a joining entry after every entry it does not come before (R64). -/
def fqInsert (e : FqEntry) : List FqEntry → List FqEntry
  | [] => [e]
  | x :: xs => if e.before x then e :: x :: xs else x :: fqInsert e xs

/-- The fire queue holds fewer than 96 entries (R62). -/
def State.fqRoom (s : State) : Bool := decide (s.fq.length < 96)

/-- An entry joins: its fire time is at least the present PT (R31, R65), and it counts against its pass (R36). -/
def State.fqJoin (s : State) (w : Work) (onset fireTime : Int) : State :=
  let e : FqEntry := { work := w, onset := onset, fireTime := max fireTime s.now, wait := none, seq := s.fqSeq }
  let t := (s.setFq (fqInsert e s.fq)).setFqSeq (s.fqSeq + 1)
  match w.cue with
  | some c => t.addItem c.pass
  | none => t

/-- An entry leaves the fire queue. -/
def State.fqRemove (s : State) (e : FqEntry) : State := s.setFq (s.fq.filter (fun x => x.seq != e.seq))

/-- The entry of that joining number as it now stands in the queue. -/
def State.fqFind (s : State) (seq : Nat) : Option FqEntry := s.fq.find? (fun x => x.seq == seq)

/-! ### Results of strokes (R95) -/

/-- The result of a stroke or of an entry for one, with the REHEARSED mark where rehearsal is latched. -/
def State.strikeResult (s : State) (o : CueOutcome) (c : DropCause) (second rerouted : Bool)
    (fireDelay : Nat) (lateness : Int) (flight : Nat) : List Byte :=
  StrikeResult.bytes
    { outcome := o, cause := c, second := second, rerouted := rerouted, rehearsed := s.rehearsal,
      fireDelay := fireDelay, lateness := lateness, flight := flight }

/-- The result area of an entry that ends in the queue, with an outcome and a drop cause: strokes carry the attempt
given and the rerouted mark, other kinds the fields of R160. -/
def State.entryResult (s : State) (w : Work) (o : CueOutcome) (c : DropCause) (second : Bool) : List Byte :=
  match w with
  | .strike _ => s.strikeResult o c false false 0 0 0
  | .restrike r => s.strikeResult o c second r.rerouted 0 0 0
  | .engage .. => holdResult o c s.scu.pt
  | .release .. => holdResult o c s.scu.pt
  | .rotor .. => rotorResult o s.scu.pt
  | .mark .. => markResult o 0 0

/-- An entry leaves the queue, its result is written and its end reported; an internal ENGAGE leaves with neither
(R75, R79, R80). -/
def State.fqResolve (s : State) (e : FqEntry) (o : CueOutcome) (c : DropCause) (second : Bool) : State :=
  (s.fqRemove e).resolve? e.work.cue (s.entryResult e.work o c second)

/-! ### Drive slots (R71, R72) -/

/-- The effective slot count (R71). -/
def effectiveSlots (level : SupplyLevel) (count : Nat) : Nat :=
  match level with
  | .normal => count
  | .sag => max 1 (count / 2)
  | .brown => 0

/-- The channel an entry can be granted on, as the channels stand (R72). -/
def State.firingChannel (s : State) (w : Work) : Option ChanId :=
  match w with
  | .strike w =>
    if (s.chan w.chan).state = .idle then some w.chan
    else
      match (s.ccfg w.chan).partner with
      | some p => if (s.chan p).state = .idle then some p else none
      | none => none
  | .restrike w => if (s.chan w.chan).state = .idle then some w.chan else none
  | .engage _ n => if (s.chan n).state = .released then some n else none
  | .release .. => none
  | .rotor .. => none
  | .mark .. => none

/-! ### The grant (R74, R84, R85, R89, R110) -/

/-- The fire delay: grant PT minus the reference time, in µs, truncated, saturating at 65,535 (R84). -/
def fireDelay (grantPt reference : Int) : Nat := min 65535 (Int.tdiv (grantPt - reference) 16).toNat

/-- The in-flight stroke formed at a grant from what its entry gives (R84, R85, R89). -/
def State.formStroke (s : State) (cue : CueRef) (onset reference : Int) (lead width carried : Nat)
    (restrikeOk second rerouted : Bool) : Stroke where
  cue := cue
  onset := onset
  grantPt := s.now
  grantDt := s.scu.dt
  lead := lead
  width := width
  carried := carried
  restrikeOk := restrikeOk
  second := second
  rerouted := rerouted
  fireDelay := fireDelay s.now reference
  windowOpen := s.scu.dt + BitVec.ofNat 32 lead - BitVec.ofNat 32 s.global.earlyTol
  windowClose := s.scu.dt + BitVec.ofNat 32 lead + BitVec.ofNat 32 s.global.lateTol
  pulseEnd := s.scu.dt + BitVec.ofNat 32 width
  contact := none
  resolved := false

/-- The stroke of a STRIKE entry granted on channel `n`, rerouted if that is not its own channel (R58, R59,
R84). -/
def State.strikeStroke (s : State) (e : FqEntry) (w : StrikeWork) (n : ChanId) : Stroke :=
  let rerouted := decide (n ≠ w.chan)
  let base := if rerouted then s.rerouteWidth n w.velocity else w.width
  s.formStroke w.cue e.onset (e.onset - 16 * (w.lead : Int)) w.lead (s.pulseWidth n base) base
    w.restrikeOk false rerouted

/-- The stroke of a RESTRIKE entry granted on its channel (R60, R98). -/
def State.restrikeStroke (s : State) (e : FqEntry) (w : RestrikeWork) (n : ChanId) : Stroke :=
  s.formStroke w.cue e.onset e.fireTime w.lead (s.pulseWidth n (s.restrikeWidth n w.width)) w.width
    false true w.rerouted

/-- Waiting ENGAGE entries for a channel that has left RELEASED resolve ENGAGED (R70, R109). -/
def State.resolveEngages (s : State) (n : ChanId) : State :=
  (s.fq.filter fun e => e.wait.isSome && (match e.work with | .engage _ m => m == n | _ => false)).foldl
    (fun s e => s.fqResolve e .engaged .none false) s

/-- A channel takes a state at a grant, and its report line is written, heat as it stands (R74, R164). -/
def State.granted (s : State) (n : ChanId) (c : Channel) : State := (s.setChan n c).writeReport (lineOf n)

/-- Hand a waiting entry to the channel that fires (R74). -/
def State.grant (s : State) (e : FqEntry) (n : ChanId) : State :=
  let t := (s.fqRemove e).setSlots (s.slots + 1)
  match e.work with
  | .strike w => t.granted n { t.chan n with state := .drive, stroke := some (s.strikeStroke e w n) }
  | .restrike w => t.granted n { t.chan n with state := .drive, stroke := some (s.restrikeStroke e w n) }
  | .engage c _ =>
    (t.granted n
      { t.chan n with
        state := .engage
        engage := some { cue := c, grantDt := s.scu.dt
                         endDt := s.scu.dt + BitVec.ofNat 32 (s.ccfg n).engageWidth } }).resolveEngages n
  | .release .. => t
  | .rotor .. => t
  | .mark .. => t

/-- One waiting entry's turn in a grant test (R73). -/
def State.grantTurn (s : State) (seq : Nat) : State :=
  match s.fqFind seq with
  | some e =>
    if s.slots < effectiveSlots s.csm.level s.global.slotCount then
      match s.firingChannel e.work with
      | some n => s.grant e n
      | none => s
    else s
  | none => s

/-- An entry in slot wait. -/
def FqEntry.waiting (e : FqEntry) : Bool := e.wait.isSome

/-- The grant test: the waiting entries in grant order, each granted if it can be while slots remain (R73). In
PAUSED none is taken (R76). -/
def State.grantTest (s : State) : State :=
  if s.perf.state = .paused then s
  else ((s.fq.filter FqEntry.waiting).map FqEntry.seq).foldl State.grantTurn s

/-- A pulse ends: the slot is freed, and a grant test is taken (R71, R73). -/
def State.freeSlot (s : State) : State := (s.setSlots (s.slots - 1)).grantTest

/-! ### Skew expiry and supply drops (R75, R77) -/

/-- The drop cause of an entry still waiting at its skew expiry (R75). -/
def State.skewCause (s : State) (w : Work) : DropCause :=
  if (s.firingChannel w).isSome then .crowded
  else
    match w with
    | .strike w => chanCause (s.chan w.chan).state
    | .restrike w => chanCause (s.chan w.chan).state
    | .engage .. => .crowded
    | .release .. => .none
    | .rotor .. => .none
    | .mark .. => .none
where
  /-- The cause a channel's condition gives. -/
  chanCause : ChanState → DropCause
    | .cooldown => .hot
    | .faulted => .faulted
    | .drive => .busy
    | .flight => .busy
    | .recover => .busy
    | .off => .busy
    | .idle => .crowded
    | .released => .busy
    | .engage => .busy
    | .held => .busy

/-- Drop a waiting entry at its skew expiry (R75). -/
def State.dropExpired (s : State) (e : FqEntry) : State :=
  s.fqResolve e .dropped (s.skewCause e.work) true

/-- A waiting entry whose skew expiry DT has reached. -/
def State.expired (s : State) (e : FqEntry) : Bool :=
  match e.wait with
  | some d => reached s.scu.dt (d + BitVec.ofNat 32 s.global.skew)
  | none => false

/-- A waiting entry has reached its skew expiry while slot wait is not suspended (R75, R76). -/
def skewExpiryDue (s : State) : Bool := s.perf.state.advances && s.fq.any s.expired

/-- Drop the first waiting entry, in grant order, that has reached its expiry (R75). -/
def State.skewExpiry (s : State) : State :=
  match s.fq.find? s.expired with
  | some e => s.dropExpired e
  | none => s

/-- SKEW_EXPIRY (R75). -/
def execSkewExpiry (s : State) : Answer := onEvent (skewExpiryDue s) State.skewExpiry s

/-- BROWN is taken: every entry in slot wait is dropped SUPPLY (R77), in queue order (log entry 42). -/
def State.dropWaiting (s : State) : State :=
  (s.fq.filter FqEntry.waiting).foldl (fun s e => s.fqResolve e .dropped .supply true) s

/-- An entry enters slot wait and is tested for a grant; with a skew tolerance of 0 it is dropped at once if it was
not granted (R70). -/
def State.enterWait (s : State) (e : FqEntry) : State :=
  let t := s.setFq (s.fq.map fun x => if x.seq == e.seq then { x with wait := some s.scu.dt } else x)
  let t := t.grantTest
  if t.global.skew = 0 then
    match t.fqFind e.seq with
    | some x => t.dropExpired x
    | none => t
  else t

/-! ### Cancelling and quieting (R79, R80) -/

/-- A MISS raises the consecutive-miss count, up to 15; a channel that is IDLE or COOLDOWN when the count reaches a
limit other than 0 faults at once (R94). -/
def State.countMiss (s : State) (n : ChanId) : State :=
  let m := min 15 ((s.chan n).misses + 1)
  let t := s.setChan n { s.chan n with misses := m }
  if s.global.missLimit ≠ 0 ∧ s.global.missLimit ≤ m
      ∧ ((s.chan n).state = .idle ∨ (s.chan n).state = .cooldown) then
    (t.setChanState n .faulted).setFlag .channel
  else t

/-- STOP resolves one entry by its kind (R79, R104). -/
def State.cancelEntry (s : State) (e : FqEntry) : State :=
  match e.work with
  | .restrike w => (s.fqResolve e .miss .none false).countMiss w.chan
  | .strike _ => s.fqResolve e .cancelled .none false
  | .engage .. => s.fqResolve e .cancelled .none false
  | .release .. => s.fqResolve e .cancelled .none false
  | .rotor .. => s.fqResolve e .cancelled .none false
  | .mark .. => s.fqResolve e .cancelled .none false

/-- STOP empties the fire queue (R79). The entries are resolved in queue order, so where two of them, from different passes, share one
cue's result area the later one's result stays (DESIGN CHOICE, log entry 42). -/
def State.cancelQueue (s : State) : State := s.fq.foldl State.cancelEntry s

/-- A quiet request or DFLT empties the fire queue (R80); a RESTRIKE's result carries attempt 2 (R95). The entries are resolved in
queue order, and the last result written to a shared result area stays (DESIGN CHOICE, log entry 42). -/
def State.quietQueue (s : State) : State :=
  s.fq.foldl (fun s e => s.fqResolve e .quieted .none true) s

end Sys2Proof.Machine
end

