-- ==== Sys2Proof/Machine/Strikers.lean ====
section
/-! DEFINITION. STRIKE channels (chapter 5): pulse ends, contacts, window settle, restrike, trim, recovery and
heat. -/
namespace Sys2Proof.Machine
open Sys2Proof

/-! ### Heat (R101, R102) -/

/-- Heat after `d` µs of full drive at gain G, saturating at 65,535 (R101). -/
def heatAfterPulse (heat d gain : Nat) : Nat := min 65535 (heat + d * gain / 256)

/-- Heat after a heat event's decay: ceil(H × D / 1024) is subtracted (R102). -/
def heatAfterDecay (heat cooling : Nat) : Nat := heat - (heat * cooling + 1023) / 1024

/-- The µs from one device time to a later one. -/
def driven (since till : DevTime) : Nat := (till - since).toNat

/-- Add the heat of a pulse of `d` µs; in rehearsal none is added (R101, R107, R117). -/
def State.addHeat (s : State) (n : ChanId) (d : Nat) : State :=
  if s.rehearsal then s
  else s.setChan n { s.chan n with heat := heatAfterPulse (s.chan n).heat d (s.ccfg n).gain }

/-! ### Recovery (R99) -/

/-- The miss limit is not 0 and the consecutive-miss count has reached it (R94, R99). -/
def State.dueToFault (s : State) (n : ChanId) : Bool :=
  s.global.missLimit != 0 && decide (s.global.missLimit ≤ (s.chan n).misses)

/-- The in-flight stroke leaves its channel and its end is reported (R85). -/
def State.strokeLeaves (s : State) (n : ChanId) : State :=
  match (s.chan n).stroke with
  | some k => (s.setChan n { s.chan n with stroke := none }).endItem k.cue.pass
  | none => s

/-- The recovery end: the stroke leaves, and the channel becomes FAULTED, COOLDOWN or IDLE (R99). -/
def State.recoveryDone (s : State) (n : ChanId) : State :=
  let s := s.strokeLeaves n
  if s.dueToFault n then (s.setChanState n .faulted).setFlag .channel
  else if (s.ccfg n).hot ≤ (s.chan n).heat then (s.setChanState n .cooldown).setFlag .channel
  else (s.setChanState n .idle).grantTest

/-- Enter RECOVER with the recovery counted from a DT; an end already passed is taken at once (R90, R93, R99). -/
def State.enterRecover (s : State) (n : ChanId) (start : DevTime) : State :=
  let e := start + BitVec.ofNat 32 (s.ccfg n).recovery
  let t := s.setChan n { s.chan n with state := .recover, recoveryEnd := e }
  if reached t.scu.dt e then t.recoveryDone n else t

def recoveryEndDue (n : ChanId) (s : State) : Bool :=
  (s.chan n).state == .recover && reached s.scu.dt (s.chan n).recoveryEnd

/-- RECOVERY_END (R99). -/
def execRecoveryEnd (n : ChanId) (s : State) : Answer :=
  onEvent (recoveryEndDue n s) (fun s => s.recoveryDone n) s

/-! ### The end of a pulse (R86 to R88) -/

/-- The later of two device times (00_scope.md, Time units). -/
def laterDt (a b : DevTime) : DevTime := if reached a b then a else b

/-- The lateness field: a difference in su divided by 16, truncated, saturated (R90). -/
def lateness (diff : Int) : Int := clampInt (-32767) 32767 (Int.tdiv diff 16)

/-- Mark the in-flight stroke resolved. -/
def State.markResolved (s : State) (n : ChanId) (k : Stroke) : State :=
  s.setChan n { s.chan n with stroke := some { k with resolved := true } }

/-- A stroke without sense present resolves PLAYED at its pulse end (R94). -/
def State.resolvePlayed (s : State) (n : ChanId) (k : Stroke) : State :=
  (s.markResolved n k).writeResult k.cue.loc
    (s.strikeResult .played .none k.second k.rerouted k.fireDelay
      (lateness (k.grantPt + 16 * (k.lead : Int) - k.onset)) 0)

/-- Where a channel goes when its pulse has ended (R86 step 4). -/
def State.afterPulse (s : State) (n : ChanId) : State :=
  match (s.chan n).stroke with
  | none => s.setChanState n .flight
  | some k =>
    if (s.ccfg n).sensePresent = false ∧ k.resolved = false then
      (s.resolvePlayed n k).enterRecover n k.pulseEnd
    else
      match k.contact with
      | some raw => s.enterRecover n raw
      | none => if k.resolved then s.enterRecover n k.pulseEnd else s.setChanState n .flight

/-- Steps 1 to 3 of R86 for a pulse that ends at a DT: output off, slot freed, heat added. -/
def State.pulseOff (s : State) (n : ChanId) (at_ : DevTime) : State :=
  match (s.chan n).stroke with
  | some k =>
    let s := s.setChan n { s.chan n with stroke := some { k with pulseEnd := at_ } }
    s.freeSlot.addHeat n (driven k.grantDt at_)
  | none => s.freeSlot

/-- The DT at which a channel's pulse is due to end. -/
def State.pulseDue (s : State) (n : ChanId) : DevTime :=
  match (s.chan n).stroke with
  | some k => k.pulseEnd
  | none => s.scu.dt

def pulseEndDue (n : ChanId) (s : State) : Bool :=
  (s.chan n).state == .drive && reached s.scu.dt (s.pulseDue n)

/-- The pulse end (R86). -/
def State.pulseEnds (s : State) (n : ChanId) : State := (s.pulseOff n (s.pulseDue n)).afterPulse n

/-- PULSE_END (R86). -/
def execPulseEnd (n : ChanId) (s : State) : Answer :=
  onEvent (pulseEndDue n s) (fun s => s.pulseEnds n) s

/-- BROWN truncates a STRIKE pulse in drive (R88). -/
def State.truncatePulse (s : State) (n : ChanId) : State :=
  if (s.chan n).state = .drive then (s.pulseOff n s.scu.dt).afterPulse n else s

/-! ### Contacts (R89 to R92, R107) -/

/-- A raw DT lies inside the stroke's window (R89). -/
def Stroke.inWindow (k : Stroke) (raw : DevTime) : Bool :=
  reached raw k.windowOpen && reached raw k.grantDt && reached k.windowClose raw

/-- The learned trim (R91). -/
def learnedTrim (trim : Int) (flight lead : Nat) : Int :=
  clampInt (-2000) 2000 (trim + Int.tdiv ((flight : Int) - lead) 8)

/-- A hit teaches the channel's trim (R91). -/
def State.teaches (s : State) (n : ChanId) (k : Stroke) : Bool :=
  (s.ccfg n).learnTrim && !k.second && !k.rerouted && !s.rehearsal

/-- Steps 1 to 6 of a hit: the contact, the trim, the counts and the result (R90). -/
def State.recordHit (s : State) (n : ChanId) (k : Stroke) (raw : DevTime) : State :=
  let flight := driven k.grantDt raw
  let c := s.chan n
  let trim := if s.teaches n k then learnedTrim c.trim flight k.lead else c.trim
  let t := s.setChan n
    { c with trim := trim, misses := 0, hits := min 65535 (c.hits + 1)
             stroke := some { k with contact := some raw, resolved := true } }
  t.writeResult k.cue.loc
    (s.strikeResult .hit .none k.second k.rerouted k.fireDelay (lateness (s.ptOfDt raw - k.onset)) flight)

/-- A hit (R90), with the cut-off of R87. -/
def State.hit (s : State) (n : ChanId) (k : Stroke) (raw : DevTime) : State :=
  let t := s.recordHit n k raw
  match (s.chan n).state with
  | .drive =>
    if (s.ccfg n).cutOff then (t.pulseOff n t.scu.dt).enterRecover n (laterDt t.scu.dt raw) else t
  | .flight => t.enterRecover n (laterDt k.pulseEnd raw)
  | .off => t
  | .idle => t
  | .recover => t
  | .cooldown => t
  | .faulted => t
  | .released => t
  | .engage => t
  | .held => t

/-- A stray contact raises the stray count, saturating at 255 (R92). -/
def State.stray (s : State) (n : ChanId) : State :=
  s.setChan n { s.chan n with strays := min 255 ((s.chan n).strays + 1) }

/-- The contact is a hit of the unresolved in-flight stroke (R90). -/
def State.hitBy (s : State) (n : ChanId) (raw : DevTime) : Option Stroke :=
  match (s.chan n).stroke with
  | some k => if k.resolved = false ∧ k.inWindow raw then some k else none
  | none => none

/-- The SCT judges a contact delivered for a channel (R90, R92). It is not taken for a channel that is OFF, has no
sense present or is not STRIKE, nor in rehearsal (R107). -/
def State.contact (s : State) (n : ChanId) (raw : DevTime) : State :=
  if (s.ccfg n).cls = .strike ∧ (s.ccfg n).sensePresent = true ∧ (s.chan n).state ≠ .off
      ∧ s.rehearsal = false then
    match s.hitBy n raw with
    | some k => s.hit n k raw
    | none => s.stray n
  else s

/-- In rehearsal, the stroke whose contact is still to be synthesised (R107). -/
def State.toSynthesise (s : State) (n : ChanId) : Option Stroke :=
  if s.rehearsal = true ∧ (s.ccfg n).cls = .strike ∧ (s.ccfg n).sensePresent = true then
    match (s.chan n).stroke with
    | some k => if k.resolved = false then some k else none
    | none => none
  else none

/-- The raw DT of a synthesised contact: the grant DT plus the lead (R107). -/
def Stroke.synthDt (k : Stroke) : DevTime := k.grantDt + BitVec.ofNat 32 k.lead

def synthesisedContactDue (n : ChanId) (s : State) : Bool :=
  match s.toSynthesise n with
  | some k => reached s.scu.dt k.synthDt
  | none => false

/-- The synthesised contact is taken as a hit (R107). -/
def State.synthesise (s : State) (n : ChanId) : State :=
  match s.toSynthesise n with
  | some k => s.hit n k k.synthDt
  | none => s

/-- SYNTHESISED_CONTACT (R107). -/
def execSynthesisedContact (n : ChanId) (s : State) : Answer :=
  onEvent (synthesisedContactDue n s) (fun s => s.synthesise n) s

/-! ### Window settle and restrike (R93, R96, R97) -/

/-- The PT equivalent of the window close plus the recovery time, the RESTRIKE's aim (R78, R96). -/
def State.restrikeAim (s : State) (n : ChanId) (k : Stroke) : Int :=
  s.ptOfDt (k.windowClose + BitVec.ofNat 32 (s.ccfg n).recovery)

/-- The conditions for asking for a restrike (R96). -/
def State.mayRestrike (s : State) (n : ChanId) (k : Stroke) : Bool :=
  !k.second && k.restrikeOk && s.perf.endCause != .stopped && !s.rehearsal
    && decide (s.restrikeAim n k - k.onset ≤ 16 * (s.global.restrikeLimit : Int))

/-- Decide a stroke without contact: a RESTRIKE entry takes over its result, or it resolves MISS (R93, R96, R97). -/
def State.decideMiss (s : State) (n : ChanId) (k : Stroke) : State :=
  let t := s.markResolved n k
  if s.mayRestrike n k && s.fqRoom then
    t.fqJoin (.restrike { cue := k.cue, chan := n, width := k.carried, lead := k.lead, rerouted := k.rerouted })
      k.onset (s.restrikeAim n k)
  else
    (t.writeResult k.cue.loc (s.strikeResult .miss .none k.second k.rerouted k.fireDelay 0 0)).countMiss n

/-- The stroke a window settle decides: unresolved and without contact, on a channel with sense present. In
rehearsal no miss arises from a window (R93, R107). -/
def State.toSettle (s : State) (n : ChanId) : Option Stroke :=
  if (s.ccfg n).sensePresent = true ∧ s.rehearsal = false then
    match (s.chan n).stroke with
    | some k => if k.resolved = false ∧ k.contact = none then some k else none
    | none => none
  else none

/-- The DT of the window settle (R89). -/
def State.settleDt (s : State) (k : Stroke) : DevTime :=
  k.windowClose + BitVec.ofNat 32 s.global.contactFilter

def windowSettleDue (n : ChanId) (s : State) : Bool :=
  match s.toSettle n with
  | some k => reached s.scu.dt (s.settleDt k)
  | none => false

/-- The window settle (R93). -/
def State.settle (s : State) (n : ChanId) : State :=
  match s.toSettle n with
  | some k =>
    let t := s.decideMiss n k
    if (s.chan n).state = .flight then t.enterRecover n (laterDt k.pulseEnd k.windowClose) else t
  | none => s

/-- WINDOW_SETTLE (R93). -/
def execWindowSettle (n : ChanId) (s : State) : Answer :=
  onEvent (windowSettleDue n s) (fun s => s.settle n) s

/-! ### Quiet request and DFLT (R105) -/

/-- A quiet request or DFLT acts on one STRIKE channel (R105). -/
def State.quietStrike (s : State) (n : ChanId) : State :=
  let was := (s.chan n).state
  let s := if was = .drive then s.pulseOff n s.scu.dt else s
  let s :=
    match (s.chan n).stroke with
    | some k =>
      let t := if k.resolved then s
        else s.writeResult k.cue.loc (s.strikeResult .quieted .none k.second k.rerouted k.fireDelay 0 0)
      t.strokeLeaves n
    | none => s
  if was = .drive ∨ was = .flight then
    s.setChan n { s.chan n with state := .recover
                                recoveryEnd := s.scu.dt + BitVec.ofNat 32 (s.ccfg n).recovery }
  else s

end Sys2Proof.Machine
end

