-- ==== Sys2Proof/Machine/Holds.lean ====
section
/-! DEFINITION. HOLD channels (chapter 6): engage, hold, release, hold heat and re-engage; and the heat event of
every class. -/
namespace Sys2Proof.Machine
open Sys2Proof

/-! ### Re-engage (R62, R114) -/

/-- Place an internal ENGAGE entry at the present PT (R65, R114). -/
def State.placeReengage (s : State) (n : ChanId) : State := s.fqJoin (.engage none n) s.now s.now

def standingReengageDue (n : ChanId) (s : State) : Bool := (s.chan n).standing && s.fqRoom

/-- A request is placed, and no request of the channel stands any more (R62). -/
def State.placeStanding (s : State) (n : ChanId) : State :=
  (s.setChan n { s.chan n with standing := false }).placeReengage n

/-- Ask the fire queue for a re-engage: placed at once if there is room, otherwise the request stands (R62,
R114). A channel has at most one request (DESIGN CHOICE, log entry 34): asked again while a request of it stands, the
channel keeps the one, and where there is room by then the one entry placed serves both. -/
def State.requestReengage (s : State) (n : ChanId) : State :=
  if s.fqRoom then s.placeStanding n else s.setChan n { s.chan n with standing := true }

/-- STANDING_REENGAGE_PLACED (R62). -/
def execStandingReengagePlaced (n : ChanId) (s : State) : Answer :=
  onEvent (standingReengageDue n s) (fun s => s.placeStanding n) s

/-- A RELEASED HOLD channel with hold wanted set (R114). -/
def State.wantsReengage (s : State) (n : ChanId) : Bool :=
  (s.ccfg n).cls == .hold && (s.chan n).state == .released && (s.chan n).holdWanted

/-- The supply goes from BROWN to SAG: such a channel is re-engaged (R114, R115). -/
def State.reengageAfterBrown (n : ChanId) (s : State) : State :=
  if s.wantsReengage n then s.requestReengage n else s

/-! ### The end of an engage (R110, R112, R115, R116) -/

/-- The µs an engage has been driven up to a DT. -/
def EngageRun.driven (g : EngageRun) (till : DevTime) : Nat := Machine.driven g.grantDt till

/-- An engage in progress ends at a DT: the slot is freed, heat is added, the result is written for an engage from
a cue, and it leaves the channel with its end reported (R110 steps 1 to 4). -/
def State.engageOver (s : State) (n : ChanId) (at_ : DevTime) (o : CueOutcome) (c : DropCause) : State :=
  match (s.chan n).engage with
  | some g =>
    let s := s.freeSlot.addHeat n (g.driven at_)
    let s := s.setChan n { s.chan n with engage := none }
    s.resolve? g.cue (holdResult o c s.scu.pt)
  | none => s.freeSlot

/-- Cut an engage now: the channel becomes RELEASED (R112, R115, R116). -/
def State.cutEngage (s : State) (n : ChanId) (o : CueOutcome) (c : DropCause) : State :=
  (s.engageOver n s.scu.dt o c).setChanState n .released

/-- The DT of an engage's end. -/
def State.engageDue (s : State) (n : ChanId) : DevTime :=
  match (s.chan n).engage with
  | some g => g.endDt
  | none => s.scu.dt

def engageEndDue (n : ChanId) (s : State) : Bool :=
  (s.chan n).state == .engage && reached s.scu.dt (s.engageDue n)

/-- Where a channel goes at its engage end (R110 step 5). -/
def State.afterEngage (s : State) (n : ChanId) : State :=
  if (s.chan n).holdWanted = false then s.setChanState n .released
  else if (s.ccfg n).hot ≤ (s.chan n).heat then (s.setChanState n .cooldown).setFlag .channel
  else s.setChan n { s.chan n with state := .held, heldSince := s.scu.dt }

/-- The engage end (R110). -/
def State.engageEnds (s : State) (n : ChanId) : State :=
  (s.engageOver n (s.engageDue n) .engaged .none).afterEngage n

/-- ENGAGE_END (R110). -/
def execEngageEnd (n : ChanId) (s : State) : Answer :=
  onEvent (engageEndDue n s) (fun s => s.engageEnds n) s

/-! ### Release (R112, R115, R116) -/

/-- Clear hold wanted and withdraw a standing re-engage (R112, R114, R116). -/
def State.unwant (s : State) (n : ChanId) : State :=
  s.setChan n { s.chan n with holdWanted := false, standing := false }

/-- A RELEASE is carried out on a HOLD channel, in every supply level (R112). -/
def State.releaseHold (s : State) (n : ChanId) : State :=
  let s := s.unwant n
  match (s.chan n).state with
  | .held => s.setChanState n .released
  | .engage => s.cutEngage n .engaged .none
  | .released => s
  | .cooldown => s
  | .off => s
  | .idle => s
  | .drive => s
  | .flight => s
  | .recover => s
  | .faulted => s

/-- Force a HOLD channel's output off: an engage is cut with an outcome, a hold released (R115, R116). -/
def State.forceRelease (s : State) (n : ChanId) (o : CueOutcome) (c : DropCause) : State :=
  match (s.chan n).state with
  | .engage => s.cutEngage n o c
  | .held => s.setChanState n .released
  | .released => s
  | .cooldown => s
  | .off => s
  | .idle => s
  | .drive => s
  | .flight => s
  | .recover => s
  | .faulted => s

/-- BROWN acts on one HOLD channel, keeping hold wanted (R115). -/
def State.brownHold (n : ChanId) (s : State) : State :=
  if (s.ccfg n).cls = .hold then s.forceRelease n .dropped .supply else s

/-- STOP, a freeze or ENDED releases one HOLD channel (R116). -/
def State.endHold (o : CueOutcome) (n : ChanId) (s : State) : State :=
  if (s.ccfg n).cls = .hold then (s.unwant n).forceRelease n o .none else s

/-- The hold channels are released at STOP (CANCELLED), at a freeze (QUIETED) and at ENDED (R116). -/
def State.releaseHolds (s : State) (o : CueOutcome) : State := s.forChans (State.endHold o)

/-! ### Heat events (R102, R113) -/

/-- What 10,000 µs of hold add to the heat (R113 step 1). -/
def holdHeat (heat duty gain : Nat) : Nat := min 65535 (heat + 10000 * duty * gain / 65536)

/-- Set a channel's heat. -/
def State.setHeat (s : State) (n : ChanId) (h : Nat) : State := s.setChan n { s.chan n with heat := h }

/-- A HOLD channel's heat event (R113). -/
def State.holdHeatEvent (s : State) (n : ChanId) : State :=
  let k := s.ccfg n
  let c := s.chan n
  let warmed := if c.state = .held ∧ s.rehearsal = false then holdHeat c.heat k.holdDuty k.gain else c.heat
  let h := heatAfterDecay warmed k.cooling
  let s := s.setHeat n h
  if c.state = .held ∧ k.hot ≤ h then (s.setChanState n .cooldown).setFlag .channel
  else if c.state = .cooldown ∧ h ≤ k.resume then
    let s := s.setChanState n .released
    if (s.chan n).holdWanted then s.requestReengage n else s
  else s

/-- A STRIKE channel's heat event (R102). -/
def State.strikeHeatEvent (s : State) (n : ChanId) : State :=
  let h := heatAfterDecay (s.chan n).heat (s.ccfg n).cooling
  let c := s.chan n
  let s := s.setHeat n h
  if c.state = .cooldown ∧ h ≤ (s.ccfg n).resume then (s.setChanState n .idle).grantTest else s

/-- The heat event of a channel by its latched class (R102, R113). An UNUSED channel's heat decays by the cooling
of its record (log entry 6); with no configuration latched the heat is 0 and stays 0. -/
def State.heatEvent (s : State) (n : ChanId) : State :=
  match (s.ccfg n).cls with
  | .strike => s.strikeHeatEvent n
  | .hold => s.holdHeatEvent n
  | .unused => s.setHeat n (heatAfterDecay (s.chan n).heat (s.ccfg n).cooling)

def heatEventDue (n : ChanId) (s : State) : Bool := reached s.scu.dt (s.chan n).heatDue

/-- HEAT_EVENT (R102, R113). The schedule runs on DT through a reset too. -/
def execHeatEvent (n : ChanId) (s : State) : Answer :=
  if heatEventDue n s then
    let t := s.setChan n { s.chan n with heatDue := (s.chan n).heatDue + 10000 }
    if s.nrstLow then .next t else .next (publish s (t.heatEvent n))
  else .next s

/-! ### Arrivals (R66 to R70, R109) -/

/-- An ENGAGE entry arrives (R109): from a cue it sets hold wanted first; then the supply level and the channel
state decide. -/
def State.arriveEngage (s : State) (e : FqEntry) (cue : Option CueRef) (n : ChanId) : State :=
  let s := if cue.isSome then s.setChan n { s.chan n with holdWanted := true } else s
  if s.csm.level = .brown then s.fqResolve e .dropped .supply false
  else
    match (s.chan n).state with
    | .engage => s.fqResolve e .engaged .none false
    | .held => s.fqResolve e .engaged .none false
    | .cooldown => s.fqResolve e .dropped .hot false
    | .released => s.enterWait e
    | .off => s.enterWait e
    | .idle => s.enterWait e
    | .drive => s.enterWait e
    | .flight => s.enterWait e
    | .recover => s.enterWait e
    | .faulted => s.enterWait e

end Sys2Proof.Machine
end

