-- ==== Sys2Proof/Machine/Rotor.lean ====
section
/-! DEFINITION. The tremolo rotor (chapter 6.4): commands, rate events, steps, the park, and what the supply and
the protection inputs do to it. -/
namespace Sys2Proof.Machine
open Sys2Proof

/-- A BEAT command's target rate (R121). -/
def beatTarget (steps period : Nat) : Nat := min 2000 (steps * 16000000 / (192 * period))

/-- P takes a value; a rotor running under BEAT takes its target anew when P changes (R5, R121). -/
def State.setPeriod (s : State) (p : Nat) : State :=
  let t := s.setScu { s.scu with period := p }
  if p = s.scu.period then t
  else
    match s.rot.cmd with
    | some (.beat b) => if s.rot.state = .running then t.setRot { t.rot with target := beatTarget b p } else t
    | _ => t

/-- Write the result the rotor owes and owe it no longer (R120). -/
def State.rotorResolve (s : State) (o : CueOutcome) : State :=
  match s.rot.owed with
  | some l => (s.writeResult l (rotorResult o s.scu.pt)).setRot { s.rot with owed := none }
  | none => s

/-- Come to rest in a state with all phases off: rates 0, next step cancelled, search disarmed. -/
def State.rotorRest (s : State) (x : RotorState) : State :=
  s.setRot { s.rot with state := x, rate := 0, target := 0, search := none, nextStep := none }

/-- The search is armed at the first moment the present rate equals the park rate in PARKING (R122). -/
def State.rotorArm (s : State) : State :=
  if s.rot.state = .parking ∧ s.rot.rate = s.global.parkRate ∧ s.rot.search = none
      ∧ s.csm.level ≠ .brown then
    s.setRot { s.rot with search := some 0 }
  else s

/-- Test the command's completion, at the hand-over and at each rate event (R120, R122). -/
def State.rotorTest (s : State) : State :=
  match s.rot.cmd with
  | some (.fixed _) => if s.rot.rate = s.rot.target then s.rotorResolve .done else s
  | some (.beat _) => if s.rot.rate = s.rot.target then s.rotorResolve .done else s
  | some .off =>
    if s.rot.state = .running ∧ s.rot.rate = 0 then (s.rotorRest .stopped).rotorResolve .done else s
  | some .park => s.rotorArm
  | none => s

/-- Act on a PARK command, with or without a cue, from any state but PARKED: in rehearsal it is complete at once
(R120, R122). -/
def State.rotorPark (s : State) : State :=
  if s.rehearsal then
    ({ s.rotorRest .parked with rot := { (s.rotorRest .parked).rot with cmd := some .park } }).rotorResolve .done
  else
    (s.setRot { s.rot with cmd := some .park, state := .parking, target := s.global.parkRate,
                           search := none }).rotorTest

/-- A ROTOR entry is handed over: it replaces the command and supersedes a pending cue (R120). -/
def State.rotorCommand (s : State) (l : CueLoc) (cmd : RotorCmd) : State :=
  let s := s.rotorResolve .superseded
  let s := s.setRot { s.rot with owed := some l, cmd := some cmd, search := none }
  match cmd with
  | .fixed r => (s.setRot { s.rot with target := r, state := .running }).rotorTest
  | .beat b => (s.setRot { s.rot with target := beatTarget b s.scu.period, state := .running }).rotorTest
  | .off =>
    match s.rot.state with
    | .stopped => (s.rotorRest .stopped).rotorResolve .done
    | .parked => (s.rotorRest .stopped).rotorResolve .done
    | .homeFault => (s.rotorRest .stopped).rotorResolve .done
    | .running => (s.setRot { s.rot with target := 0, state := .running }).rotorTest
    | .parking => (s.setRot { s.rot with target := 0, state := .running }).rotorTest
  | .park =>
    match s.rot.state with
    | .parked => s.rotorResolve .done
    | .stopped => s.rotorPark
    | .running => s.rotorPark
    | .parking => s.rotorPark
    | .homeFault => s.rotorPark

/-- The home search's step limit (R122). -/
def homeLimit (stepsPerRev : Nat) : Nat := stepsPerRev + stepsPerRev / 8

/-- The search has run its steps without a HOME edge (R122). -/
def State.rotorHomeFault (s : State) : State :=
  ((s.rotorRest .homeFault).rotorResolve .homeFault).setFlag .channel

/-- Take a step due at a DT: move the phase, count it while the search is armed, schedule the next (R119,
R122). -/
def State.rotorStepAt (s : State) (d : DevTime) : State :=
  let phase := if s.global.reverse then s.rot.phase - 1 else s.rot.phase + 1
  let search := s.rot.search.map (· + 1)
  let next := if s.rot.rate = 0 then none else some (d + BitVec.ofNat 32 (1000000 / s.rot.rate))
  let s := s.setRot { s.rot with phase := phase, search := search, nextStep := next }
  match search with
  | some c => if homeLimit s.global.stepsPerRev ≤ c then s.rotorHomeFault else s
  | none => s

/-- The rate a rate event gives: toward the target by at most the acceleration (R119). -/
def rateToward (rate target accel : Nat) : Nat :=
  if rate < target then min target (rate + accel)
  else max target (rate - accel)

/-- The present rate takes a value at a rate event (R119). -/
def State.rotorSetRate (s : State) (r : Nat) : State :=
  let t := s.setRot { s.rot with rate := r }
  if s.rot.rate = 0 ∧ 0 < r then t.rotorStepAt s.scu.dt
  else if r = 0 then t.setRot { t.rot with nextStep := none }
  else t

/-- The rate event of a rotor in RUNNING or PARKING: the change of rate outside BROWN (R119), and the test for completion,
made at each rate event (R120; log entry 31). -/
def State.rotorAccelerate (s : State) : State :=
  if s.rot.state = .running ∨ s.rot.state = .parking then
    if s.csm.level = .brown then s.rotorTest
    else (s.rotorSetRate (rateToward s.rot.rate s.rot.target s.global.acceleration)).rotorTest
  else s

def rateEventDue (s : State) : Bool := reached s.scu.dt s.rot.rateDue

/-- ROTOR_RATE_EVENT (R119). The schedule runs on DT through a reset too. -/
def execRotorRateEvent (s : State) : Answer :=
  if rateEventDue s then
    let t := s.setRot { s.rot with rateDue := s.rot.rateDue + 10000 }
    if s.nrstLow then .next t else .next (publish s t.rotorAccelerate)
  else .next s

def rotorStepDue (s : State) : Bool :=
  match s.rot.nextStep with
  | some d => reached s.scu.dt d
  | none => false

/-- A scheduled step (R119, R122). -/
def State.rotorStepTaken (s : State) : State :=
  match s.rot.nextStep with
  | some d => s.rotorStepAt d
  | none => s

/-- ROTOR_STEP (R119, R122). -/
def execRotorStep (s : State) : Answer := onEvent (rotorStepDue s) State.rotorStepTaken s

/-- A HOME edge taken while the search is armed (R122). -/
def State.rotorHome (s : State) : State :=
  if s.rot.search.isSome then (s.rotorRest .parked).rotorResolve .done else s

/-- BROWN is taken (R124). -/
def State.rotorBrown (s : State) : State :=
  let s := s.setRot { s.rot with rate := 0, search := none, nextStep := none }
  if s.rot.cmd = some .off ∧ s.rot.state = .running then s.rotorTest else s

/-- A quiet request or DFLT is taken (R124). -/
def State.rotorQuiet (s : State) : State :=
  let s := s.rotorResolve .quieted
  let s := s.rotorRest .stopped
  s.setRot { s.rot with cmd := none }

/-- The fire queue holds a ROTOR entry. -/
def FqEntry.isRotor (e : FqEntry) : Bool :=
  match e.work with
  | .rotor .. => true
  | .strike _ => false
  | .restrike _ => false
  | .engage .. => false
  | .release .. => false
  | .mark .. => false

/-- The conditions of a drain park (R123). -/
def drainParkDue (s : State) : Bool :=
  s.perf.state == .draining && !s.fq.any FqEntry.isRotor && s.rot.owed.isNone && s.rot.state == .running

/-- DRAIN_PARK: a PARK command with no cue (R123). -/
def execDrainPark (s : State) : Answer := onEvent (drainParkDue s) State.rotorPark s

/-- STOP's part in the rotor: a pending cue other than a PARK's is CANCELLED, and a rotor then in RUNNING begins
the drain park at once (R123). -/
def State.rotorStop (s : State) : State :=
  let s := if s.rot.cmd = some .park then s else s.rotorResolve .cancelled
  if s.rot.state = .running then s.rotorPark else s

end Sys2Proof.Machine
end

