-- ==== Sys2Proof/Machine/Arrivals.lean ====
section
/-! DEFINITION. Reaching the fire time (chapter 4.2): what each kind of fire queue entry does on arrival. -/
namespace Sys2Proof.Machine
open Sys2Proof

/-- A MARK is carried out: its result records PT and DT of this arrival (R67). For an onset that is no multiple of 16 su R67 also
calls them PT and DT "of its onset"; the model writes the PT of the arrival, the first step of PT at or past the onset, less
than 1 µs after it (DEDUCED, log entry 41). -/
def State.arriveMark (s : State) (e : FqEntry) (cue : CueRef) (raiseAttn : Bool) : State :=
  let t := (s.fqRemove e).resolve cue (markResult .done (ptMicros s.scu.pt) s.scu.dt.toNat)
  if raiseAttn then t.setFlag .mark else t

/-- A ROTOR entry is handed over, and its end is reported then (R68). -/
def State.arriveRotor (s : State) (e : FqEntry) (cue : CueRef) (cmd : RotorCmd) : State :=
  ((s.fqRemove e).rotorCommand cue.loc cmd).endItem cue.pass

/-- A RELEASE is carried out in every supply level (R69, R112). -/
def State.arriveRelease (s : State) (e : FqEntry) (cue : CueRef) (n : ChanId) : State :=
  ((s.fqRemove e).releaseHold n).resolve cue (holdResult .released .none s.scu.pt)

/-- A STRIKE or RESTRIKE arrives: dropped SUPPLY in BROWN, otherwise it enters slot wait (R66). -/
def State.arriveStroke (s : State) (e : FqEntry) : State :=
  if s.csm.level = .brown then s.fqResolve e .dropped .supply true else s.enterWait e

/-- One entry's arrival (R66). -/
def State.arrive (s : State) (e : FqEntry) : State :=
  match e.work with
  | .mark c r => s.arriveMark e c r
  | .rotor c cmd => s.arriveRotor e c cmd
  | .release c n => s.arriveRelease e c n
  | .engage c n => s.arriveEngage e c n
  | .strike _ => s.arriveStroke e
  | .restrike _ => s.arriveStroke e

/-- An entry whose fire time PT has reached and which has not yet arrived. -/
def State.isDue (s : State) (e : FqEntry) : Bool := e.wait.isNone && decide (e.fireTime ≤ s.now)

/-- An entry is due while PT advances (R66). -/
def fireTimeArrivalDue (s : State) : Bool := s.perf.state.advances && s.fq.any s.isDue

/-- One entry of an arrival, if it still stands in the queue. -/
def State.arriveTurn (s : State) (seq : Nat) : State :=
  match s.fqFind seq with
  | some e => s.arrive e
  | none => s

/-- The entries of the earliest fire time that is due arrive, one after another in queue order (R66). -/
def State.arriveAll (s : State) : State :=
  match s.fq.find? s.isDue with
  | some e =>
    ((s.fq.filter fun x => s.isDue x && x.fireTime == e.fireTime).map FqEntry.seq).foldl State.arriveTurn s
  | none => s

/-- FIRE_TIME_ARRIVAL (R66). -/
def execFireTimeArrival (s : State) : Answer := onEvent (fireTimeArrivalDue s) State.arriveAll s

end Sys2Proof.Machine
end

