-- ==== Sys2Proof/Machine/ScoreTime.lean ====
section
/-! DEFINITION. Score time (chapter 1): the tempo agenda, tick boundaries, projection, holdpoints, and the three
sync modes. -/
namespace Sys2Proof.Machine
open Sys2Proof

/-! ### Periods and the tempo agenda (R8, R9) -/

/-- A ramp governs ticks first to first + len - 1 (R8). -/
def Ramp.governs (r : Ramp) (j : Tick) : Bool :=
  tickUpTo r.first j && decide ((j - r.first).toInt < (r.len : Int))

/-- The period a ramp gives a tick it governs, truncated toward zero (R8, R9). -/
def Ramp.periodAt (r : Ramp) (j : Tick) : Nat :=
  ((r.start : Int) + Int.tdiv (((r.target : Int) - r.start) * ((j - r.first).toInt + 1)) r.len).toNat

/-- The period of tick j: the ramp's if one governs it, the base period otherwise (R8). -/
def Tempo.periodAt (t : Tempo) (j : Tick) : Nat :=
  match t.ramp with
  | some r => if r.governs j then r.periodAt j else t.base
  | none => t.base

/-- A ramp whose last tick has begun is discarded at the boundary before tick j (R8). -/
def Tempo.discard (t : Tempo) (j : Tick) : Tempo :=
  match t.ramp with
  | some r => if r.governs j then t else { t with ramp := none }
  | none => t

/-- A TEMPO entry is applied at the boundary before tick s (R9). -/
def Tempo.apply (t : Tempo) (s : Tick) (target n : Nat) : Tempo :=
  if n = 0 then { base := target, ramp := none }
  else { base := target, ramp := some { first := s, start := t.periodAt s, target := target, len := n } }

/-- The TEMPO entries at the head of the agenda with onset tick j or earlier, applied in order at tick j (R6, R8,
R11): the tempo then in force and the agenda left. -/
def Tempo.applyDue (t : Tempo) (j : Tick) : List AgendaEntry → Tempo × List AgendaEntry
  | [] => (t, [])
  | e :: es =>
    if tickUpTo e.onset j then
      match e.body with
      | .tempo target n => (t.apply j target n).applyDue j es
      | .holdpoint .. => (t, e :: es)
    else (t, e :: es)

/-! ### Projection (R11) -/

/-- The sum of the periods of `k` ticks from tick `j` on, as R8 and R9 give them from a tempo and an agenda. -/
def sumPeriods (t : Tempo) (agenda : List AgendaEntry) (j : Tick) : Nat → Int
  | 0 => 0
  | k + 1 =>
    let r := (t.discard j).applyDue j agenda
    (r.1.periodAt j : Int) + sumPeriods r.1 r.2 (j + 1) k

/-- The sum of the periods of `k` future ticks from `j` on: in FOLLOW each is the present P (R11). -/
def State.future (s : State) (j : Tick) (k : Nat) : Int :=
  match s.global.syncMode with
  | .follow => (s.scu.period : Int) * k
  | .free => sumPeriods s.scu.tempo s.scu.agenda j k
  | .lead => sumPeriods s.scu.tempo s.scu.agenda j k

/-- The projected start of tick `n`; none while the current tick is unscheduled (R11). -/
def State.project (s : State) (n : Tick) : Option Int :=
  let ahead : Nat := if tickUpTo s.scu.tick n then (n - s.scu.tick).toNat else 0
  match s.scu.cond with
  | .unscheduled => none
  | .scheduled start => some (start + s.future s.scu.tick ahead)
  | .begun start len =>
    match ahead with
    | 0 => some start
    | k + 1 => some (start + len + s.future (s.scu.tick + 1) k)

/-! ### STARVED (R40) -/

/-- Tick `n` has begun or a later tick is current (R40). -/
def State.tickReached (s : State) (n : Tick) : Bool :=
  if s.scu.tick = n then
    match s.scu.cond with
    | .begun .. => true
    | .scheduled _ => false
    | .unscheduled => false
  else tickUpTo n s.scu.tick

/-- In LINK_WAIT, STARVED is set once the score has reached the reader tick, at most once for each stay (R40). -/
def State.starvedTest (s : State) : State :=
  if s.reader.state = .linkWait ∧ s.reader.starved = false ∧ s.tickReached s.reader.tick then
    (s.setReader { s.reader with starved := true }).setFlag .starved
  else s

/-! ### Tick boundaries (R6, R9, R10, R12, R16) -/

/-- The PT of the boundary that is next: the start of a scheduled tick or the end of a begun one (R6). -/
def TickCond.boundary : TickCond → Option Int
  | .unscheduled => none
  | .scheduled start => some start
  | .begun start len => some (start + len)

/-- A TEMPO entry is dealt with at the boundary before tick x: applied in FREE and LEAD, superseded in FOLLOW, with
its result written and its end reported (R9, R10). -/
def State.tempoAtBoundary (s : State) (x : Tick) (e : AgendaEntry) (target n : Nat) : State :=
  match s.global.syncMode with
  | .follow => s.resolve e.cue (tempoResult .superseded s.scu.period)
  | .free =>
    (s.setScu { s.scu with tempo := s.scu.tempo.apply x target n }).resolve e.cue (tempoResult .applied target)
  | .lead =>
    (s.setScu { s.scu with tempo := s.scu.tempo.apply x target n }).resolve e.cue (tempoResult .applied target)

/-- A HOLDPOINT entry stops the boundary before tick x (R12). -/
def State.holdAt (s : State) (boundaryPt : Int) (timeout : Nat) : State :=
  let expiry := if timeout = 0 then none else some (boundaryPt + (timeout : Int) * 1600000)
  ((s.setScu { s.scu with cond := .unscheduled, holdExpiry := expiry }).setPerf
    { s.perf with state := .holding }).setFlag .hold

/-- Tick x begins (R6 steps 1 to 4, R16). -/
def State.beginTick (s : State) (x : Tick) (start : Int) : State :=
  let p :=
    match s.global.syncMode with
    | .follow => s.scu.period
    | .free => s.scu.tempo.periodAt x
    | .lead => s.scu.tempo.periodAt x
  let s := s.setPeriod p
  let synco :=
    if s.global.syncMode = .lead ∧ x.toNat % 192 = 0 then some (s.scu.dt + 1000) else s.scu.synco
  s.setScu { s.scu with cond := .begun start p, synco := synco }

/-- Deal with the head of the agenda for tick x in order, then begin the tick unless a holdpoint stops it (R6). -/
def State.agendaAt (s : State) (x : Tick) (start : Int) : List AgendaEntry → State
  | [] => (s.setScu { s.scu with agenda := [] }).beginTick x start
  | e :: es =>
    if tickUpTo e.onset x then
      match e.body with
      | .tempo target n =>
        ((s.setScu { s.scu with agenda := es }).tempoAtBoundary x e target n).agendaAt x start es
      | .holdpoint _ _ timeout _ => (s.setScu { s.scu with agenda := e :: es }).holdAt start timeout
    else (s.setScu { s.scu with agenda := e :: es }).beginTick x start

/-- Take the boundary at PT `start`, before the tick that is about to begin (R6). -/
def State.boundaryAt (s : State) (start : Int) : State :=
  let x := match s.scu.cond with
    | .begun .. => s.scu.tick + 1
    | .scheduled _ => s.scu.tick
    | .unscheduled => s.scu.tick
  let s := s.setScu { s.scu with tick := x, tempo := s.scu.tempo.discard x }
  (s.agendaAt x start s.scu.agenda).starvedTest

def tickBoundaryDue (s : State) : Bool :=
  match s.scu.cond.boundary with
  | some b => s.perf.state.scores && decide (b ≤ s.now)
  | none => false

/-- The tick boundary (R6). -/
def State.boundary (s : State) : State :=
  match s.scu.cond.boundary with
  | some b => s.boundaryAt b
  | none => s

/-- TICK_BOUNDARY (R6). -/
def execTickBoundary (s : State) : Answer := onEvent (tickBoundaryDue s) State.boundary s

/-- SYNCO's pulse has lasted 1,000 µs (R16). -/
def syncoPulseEndDue (s : State) : Bool :=
  match s.scu.synco with
  | some d => reached s.scu.dt d
  | none => false

/-- SYNCO is deasserted (R16). -/
def State.syncoOff (s : State) : State := s.setScu { s.scu with synco := none }

/-- SYNCO_PULSE_END (R16). -/
def execSyncoPulseEnd (s : State) : Answer := onEvent (syncoPulseEndDue s) State.syncoOff s

/-! ### Agenda entries that end without effect (R14) -/

/-- The result of an agenda entry resolved CANCELLED or QUIETED (R160). -/
def AgendaBody.endResult (b : AgendaBody) (o : CueOutcome) : List Byte :=
  match b with
  | .tempo .. => tempoResult o 0
  | .holdpoint .. => holdpointResult o .none 0

/-- Every agenda entry is resolved with an outcome and reported (R8, R14). -/
def State.agendaEnds (s : State) (o : CueOutcome) : State :=
  s.scu.agenda.foldl (fun s e => s.resolve e.cue (e.body.endResult o))
    (s.setScu { s.scu with agenda := [], holdExpiry := none })

/-! ### Sync (R17 to R19) -/

/-- The multiple of 192 nearest to the position X / L, the lower one halfway, with X = N × L + (t - start) (R18
steps 2 and 3). -/
def nearestBeat (x len : Int) : Int := 192 * (-((192 * len - 2 * x) / (384 * len)))

/-- The phase error E in su (R18 step 4). -/
def phaseError (n len sinceStart : Int) : Int :=
  let x := n * len + sinceStart
  (n - nearestBeat x len) * len + sinceStart

/-- The correction (R18 step 5). -/
def correction (e : Int) (p : Nat) : Int := clampInt (-((p / 32 : Nat) : Int)) ((p / 32 : Nat) : Int) (e / 768)

/-- The period regulation gives from the measured beat and the error (R18 step 6). -/
def regulated (measured e : Int) (p : Nat) : Nat := (clampInt 1600 1048575 (measured / 192 + correction e p)).toNat

/-- Regulation at a pulse taken at PT t, in LOCKED or on regain (R18). -/
def State.regulate (s : State) (t : Int) : State :=
  let m := t - s.scu.prevPulse.getD t
  match s.scu.cond with
  | .begun start len =>
    s.setPeriod (regulated m (phaseError s.scu.tick.toNat len (t - start)) s.scu.period)
  | .scheduled start =>
    s.setPeriod (regulated m (phaseError s.scu.tick.toNat s.scu.period (t - start)) s.scu.period)
  | .unscheduled => s

/-- The pulse time is recorded as the previous pulse time, and the mark of RESUME goes (R17). -/
def State.recordPulse (s : State) (t : Int) : State :=
  s.setScu { s.scu with prevPulse := some t, resumed := false }

/-- The loss timer restarts (R18). -/
def State.restartLoss (s : State) : State := s.setScu { s.scu with lossElapsed := some 0 }

/-- Schedule the current tick one beat of count-in after a pulse at t (R7, R13, R17). -/
def State.countIn (s : State) (t : Int) : State :=
  s.setScu { s.scu with cond := .scheduled (t + 192 * (s.scu.period : Int)) }

/-- The interval is within ±25% of one beat (R19). -/
def goodInterval (m : Int) (p : Nat) : Bool :=
  decide (3 * 192 * (p : Int) ≤ 4 * m) && decide (4 * m ≤ 5 * 192 * (p : Int))

/-- Take a pulse at PT t by the first matching row of R17. -/
def State.takePulse (s : State) (t : Int) : State :=
  match s.scu.sync with
  | .acquire =>
    let s := (s.countIn t).recordPulse t
    s.restartLoss.setScu { s.restartLoss.scu with sync := .locked }
  | .locked =>
    if s.scu.cond = .unscheduled then ((s.countIn t).recordPulse t).restartLoss
    else if s.scu.resumed then (s.recordPulse t).restartLoss
    else ((s.regulate t).recordPulse t).restartLoss
  | .lost =>
    if s.scu.cond = .unscheduled then ((s.countIn t).recordPulse t).restartLoss
    else if s.scu.resumed then s.recordPulse t
    else if goodInterval (t - s.scu.prevPulse.getD t) s.scu.period then
      let s := ((s.regulate t).recordPulse t).restartLoss
      (s.setScu { s.scu with sync := .locked }).setFlag .sync
    else s.recordPulse t
  | .none => s

/-- The SCU is delivered an accepted SYNCI edge: taken in FOLLOW while RUNNING or DRAINING, otherwise of no effect
(R17). -/
def State.syncEdge (s : State) (raw : DevTime) : State :=
  if s.global.syncMode = .follow ∧ s.perf.state.scores = true then
    s.takePulse (s.ptOfDt raw)
  else s

/-- The loss timer has reached two beats with no pulse taken (R18). -/
def syncLossDue (s : State) : Bool :=
  match s.scu.lossElapsed with
  | some e => s.scu.sync == .locked && s.perf.state.scores && decide (2 * 192 * s.scu.period ≤ e)
  | none => false

/-- Lock is lost; a tick waiting for its count-in is scheduled now (R18). -/
def State.syncLost (s : State) : State :=
  let cond := if s.scu.cond = .unscheduled then .scheduled s.now else s.scu.cond
  (s.setScu { s.scu with sync := .lost, lossElapsed := none, cond := cond }).setFlag .sync

/-- SYNC_LOSS (R18). -/
def execSyncLoss (s : State) : Answer := onEvent (syncLossDue s) State.syncLost s

/-! ### Release of a holdpoint, the SCU's part (R13) -/

/-- The holding holdpoint: the HOLDPOINT entry at the head of the agenda (R12). -/
def State.holdpoint (s : State) : Option AgendaEntry :=
  match s.scu.agenda with
  | e :: _ =>
    match e.body with
    | .holdpoint .. => some e
    | .tempo .. => none
  | [] => none

/-- Where a released tick is placed (R13 step 5). -/
def State.placeReleased (s : State) (delay : Nat) : TickCond :=
  let freely := TickCond.scheduled (s.now + 16000 * (max delay 40 : Nat))
  match s.global.syncMode with
  | .free => freely
  | .lead => freely
  | .follow =>
    match s.scu.sync with
    | .locked => .unscheduled
    | .lost => freely
    | .acquire => .unscheduled
    | .none => freely

end Sys2Proof.Machine
end

