-- ==== Sys2Proof/Machine/Chain.lean ====
section
/-! DEFINITION. The cue reader (chapter 2): entering blocks, reading cues and links, the horizon, admission, repeats
and chain faults. -/
namespace Sys2Proof.Machine
open Sys2Proof

/-! ### Ending the reading (R37, R41, R44) -/

/-- The pass being read is marked reading-done and the reader is in none (R37). -/
def State.leavePass (s : State) : State :=
  match s.reader.pass with
  | some p => (s.setReader { s.reader with pass := none }).markDone p
  | none => s

/-- A chain fault (R41, R42): the reader is FAULTED, what was pending is discarded, the pass is reading-done, the
fault is handed over and the performance drains. -/
def State.chainFault (s : State) (d : FaultDetail) (block : Addr) (slot kindByte : Nat) : State :=
  let info : FaultInfo :=
    { kind := .chain, block := block, slot := slot, kindByte := kindByte, readerTick := s.reader.tick,
      depth := s.reader.stack.length, detail := d }
  let s := s.setReader { s.reader with state := .faulted, pending := .none }
  (s.leavePass.handFault info).enterDraining .chainFault

/-- An END link is taken (R25). -/
def State.takeEnd (s : State) : State :=
  let s := s.setReader { s.reader with state := .finished, pending := .none }
  s.leavePass.enterDraining .complete

/-- STOP, a quiet request or DFLT ends reading; FINISHED and FAULTED are kept (R44). -/
def State.endReading (s : State) : State :=
  match s.reader.state with
  | .finished => s
  | .faulted => s
  | .stopped => s
  | .reading => (s.setReader { s.reader with state := .stopped, pending := .none }).leavePass
  | .horizon => (s.setReader { s.reader with state := .stopped, pending := .none }).leavePass
  | .stalled => (s.setReader { s.reader with state := .stopped, pending := .none }).leavePass
  | .linkWait => (s.setReader { s.reader with state := .stopped, pending := .none }).leavePass
  | .held => (s.setReader { s.reader with state := .stopped, pending := .none }).leavePass

/-! ### Reading a cue (R26) -/

/-- Come to a slot of the current block: read its line into the pending cue register. The cue then stands at the
horizon test (R26, R27). -/
def State.readSlot (s : State) (k : Nat) : State :=
  let line := Memory.line s.mem (cueAddr { block := s.reader.block, slot := k })
  match readCue line with
  | some c =>
    s.setReader { s.reader with state := .horizon, slot := k, pending := .cue c
                                tick := s.reader.tick + c.delta.setWidth 32 }
  | none => s.chainFault .badCueKind s.reader.block k (u8 line 0)

/-! ### Entering a block (R23, R24, R35) -/

/-- How the reader comes to enter a block. -/
inductive Entry where
  /-- The start block, as the performance enters RUNNING (R43). -/
  | start
  /-- A NEXT link. -/
  | link
  /-- A REPEAT jump, with the loop stack its commit leaves (R34, R35). -/
  | jump (stack : List Frame)
  deriving DecidableEq, Repr

/-- The open block table has fewer than 8 entries (R24). -/
def State.passRoom (s : State) : Bool := decide (s.passes.length < 8)

/-- The first test of R23 that a target with this header line fails. -/
def headerFault (target : Addr) (header : List Byte) : Option FaultDetail :=
  if validBlockAddr target = false then some .badLinkAddress
  else if u16 header 0 ≠ blockSignature then some .badLinkSignature
  else if 15 < u8 header 2 then some .badBlockCount
  else none

/-- The first test of R23 that a target fails, its header as it now stands. -/
def blockFault (m : Memory) (target : Addr) : Option FaultDetail := headerFault target (Memory.line m target.toNat)

/-- A failed entry is a chain fault whose record names the block and slot by R42: for BAD_BLOCK the block being
entered, for a BAD_LINK from a REPEAT its cue, otherwise the block whose link named the target, or the start
block. -/
def State.entryFault (s : State) (target : Addr) (how : Entry) (d : FaultDetail) : State :=
  if d = .badBlockCount then s.chainFault d target 15 0
  else
    match how with
    | .start => s.chainFault d target 15 0
    | .link => s.chainFault d s.reader.block 15 0
    | .jump _ => s.chainFault d s.reader.block s.reader.slot 8

/-- The commit of an entry: the pass left is reading-done, a jump's stack change is made, and a new pass is opened
at slot 0 with the header's cue count (R24 stage 3). -/
def State.commitEntry (s : State) (target : Addr) (how : Entry) : State :=
  let s := s.leavePass
  let stack := match how with
    | .jump st => st
    | .start => s.reader.stack
    | .link => s.reader.stack
  let s := s.setReader
    { s.reader with state := .reading, block := target, slot := 0, pass := some s.passSeq, pending := .none
                    count := u8 (Memory.line s.mem target.toNat) 2, stack := stack }
  (s.setPasses (s.passes ++ [{ id := s.passSeq, block := target, outstanding := 0, readingDone := false }])).setPassSeq
    (s.passSeq + 1)

/-- The reader stands at a block entry it cannot make yet: a jump keeps its REPEAT cue pending, a NEXT link's entry
is pending itself (R24, R35). -/
def State.stallEntry (s : State) (target : Addr) (how : Entry) (x : ReaderState) : State :=
  match how with
  | .jump _ => s.setReader { s.reader with state := x }
  | .start => s.setReader { s.reader with state := x, pending := .entry target }
  | .link => s.setReader { s.reader with state := x, pending := .entry target }

/-- Enter LINK_WAIT at a WAIT link; STARVED is set on entry if its moment has passed (R25, R40). -/
def State.enterLinkWait (s : State) : State :=
  (s.setReader { s.reader with state := .linkWait, pending := .none, starved := false }).starvedTest

/-- The link word of the current block's header as it stands (R25). -/
def State.currentLink (s : State) : Link := readLinkWord (Memory.line s.mem s.reader.block.toNat)

/-- Enter a block and take the next step: slot 0, or for a cue count of 0 the link (R24 to R26). An entry into a
chain of empty blocks goes on through their NEXT links; after `fuel` of them the reader rests in READING with the
entry pending (log entry 7). -/
def State.enterBlock (s : State) (target : Addr) (how : Entry) : Nat → State
  | 0 => s.stallEntry target how .reading
  | fuel + 1 =>
    if s.passRoom = false then s.stallEntry target how .stalled
    else
      match blockFault s.mem target with
      | some d => s.entryFault target how d
      | none =>
        let s := s.commitEntry target how
        if s.reader.count = 0 then
          match s.currentLink with
          | .next a => s.enterBlock a .link fuel
          | .wait => s.enterLinkWait
          | .endLink => s.takeEnd
          | .bad => s.chainFault .badLinkKind s.reader.block 15 0
        else s.readSlot 0

/-- How many empty blocks in a row one step goes through: one more than there are block positions, so that only an
endless chain of them exceeds it (log entry 7). -/
def entryFuel : Nat := 241

/-- Act on the link at the end of a pass (R25). -/
def State.readLink (s : State) : State :=
  match s.currentLink with
  | .next a => s.enterBlock a .link entryFuel
  | .wait => s.enterLinkWait
  | .endLink => s.takeEnd
  | .bad => s.chainFault .badLinkKind s.reader.block 15 0

/-- Go on to the next slot, or past the last cue of the pass to the link (R25, R26). -/
def State.readNext (s : State) : State :=
  if s.reader.slot + 1 < s.reader.count then s.readSlot (s.reader.slot + 1) else s.readLink

/-- Poll the link in LINK_WAIT: WAIT stays, anything else is acted on (R39). -/
def State.pollLink (s : State) : State :=
  if s.perf.state = .running ∧ s.reader.state = .linkWait then
    match s.currentLink with
    | .wait => s
    | .next a => s.enterBlock a .link entryFuel
    | .endLink => s.takeEnd
    | .bad => s.chainFault .badLinkKind s.reader.block 15 0
  else s

/-! ### Admission (R27 to R35) -/

/-- The location of the pending cue. -/
def State.cueLoc (s : State) : CueLoc := { block := s.reader.block, slot := s.reader.slot }

/-- The location of the pending cue and the pass being read. -/
def State.cueRef (s : State) : CueRef := { loc := s.cueLoc, pass := s.reader.pass.getD 0 }

/-- The micro-offset of a STRIKE or HOLD cue, 0 for every other kind (R11). -/
def CueBody.micro : CueBody → Int
  | .strike _ _ m _ => m
  | .hold _ _ m => m
  | .tempo .. => 0
  | .rotor _ => 0
  | .mark _ => 0
  | .holdpoint .. => 0
  | .map .. => 0
  | .repeatJump .. => 0

/-- The projected onset of the pending cue, whose onset tick is the reader tick (R11, R26). -/
def State.cueOnset (s : State) (c : Cue) : Option Int :=
  (s.project s.reader.tick).map (· + 16 * c.body.micro)

/-- The horizon: PT plus the look-ahead (R27). -/
def State.horizon (s : State) : Int := s.now + 16000 * (s.global.lookAhead : Int)

/-- The channel a cue names, if it is 0 to 63 and of a class. -/
def State.chanOf (s : State) (b : Byte) (cls : ChanClass) : Option ChanId :=
  match chanOfByte b with
  | some n => if (s.ccfg n).cls = cls then some n else none
  | none => none

/-- What an unrefused cue asks for: its work with every parameter settled (Table 2-3). -/
inductive Ask where
  | strike (n : ChanId) (velocity : Nat) (restrike : Bool)
  | hold (n : ChanId) (op : HoldOp)
  | rotor (cmd : RotorCmd)
  | mark (raiseAttn : Bool)
  | agenda (body : AgendaBody)
  | map (n : ChanId) (record : Addr) (resetTrim : Bool)
  | repeatJump (target : Addr) (count : Nat)
  deriving DecidableEq, Repr

/-- The refusal conditions of Table 2-3 (R28); none refuses the cue. -/
def State.asks (s : State) (b : CueBody) : Option Ask :=
  match b with
  | .strike c v _ r => (s.chanOf c .strike).map fun n => .strike n v r
  | .hold c op _ =>
    match s.chanOf c .hold, op with
    | some n, some o => some (.hold n o)
    | some _, none => none
    | none, _ => none
  | .tempo t r => some (.agenda (.tempo (clampPeriod t) r))
  | .rotor cmd => cmd.map .rotor
  | .mark r => some (.mark r)
  | .holdpoint a b t d => some (.agenda (.holdpoint a b t d))
  | .map c a r => (s.chanOf c .strike).map fun n => .map n a r
  | .repeatJump t c => some (.repeatJump t c)

/-- The tempo agenda holds fewer than 4 entries (R29). -/
def State.agendaRoom (s : State) : Bool := decide (s.scu.agenda.length < 4)

/-- There is room for an ask in the collection its work goes to (R29). A jump's room is tested at its entry
(R35). -/
def State.roomFor (s : State) : Ask → Bool
  | .strike .. => s.fqRoom
  | .hold .. => s.fqRoom
  | .rotor _ => s.fqRoom
  | .mark _ => s.fqRoom
  | .agenda _ => s.agendaRoom
  | .map .. => true
  | .repeatJump .. => true

/-- An entry joins the tail of the tempo agenda and counts against its pass (R8, R36). -/
def State.agendaJoin (s : State) (b : AgendaBody) : State :=
  let e : AgendaEntry := { onset := s.reader.tick, cue := s.cueRef, body := b }
  (s.setScu { s.scu with agenda := s.scu.agenda ++ [e] }).addItem e.cue.pass

/-- A REPEAT cue past the horizon (R34, R35). -/
def State.takeRepeat (s : State) (target : Addr) (count : Nat) : State :=
  let push : State :=
    if count ≤ 1 then s.readNext
    else if 4 ≤ s.reader.stack.length then s.chainFault .loopDepthFull s.reader.block s.reader.slot 8
    else s.enterBlock target
      (.jump ({ cue := s.cueLoc, target := target, remaining := count - 1 } :: s.reader.stack)) entryFuel
  match s.reader.stack with
  | f :: fs =>
    if f.cue = s.cueLoc then
      if 1 < f.remaining then
        s.enterBlock f.target (.jump ({ f with remaining := f.remaining - 1 } :: fs)) entryFuel
      else (s.setReader { s.reader with stack := fs }).readNext
    else push
  | [] => push

/-- Place the work of an ask with its projected onset, and go on (R30 to R34). -/
def State.placeAsk (s : State) (a : Ask) (onset : Int) : State :=
  match a with
  | .strike n v r =>
    let p := s.planStrike n v onset
    (s.fqJoin (.strike { cue := s.cueRef, chan := n, width := p.width, lead := p.lead, velocity := p.velocity
                         restrikeOk := r }) onset p.fireTime).readNext
  | .hold n .engage =>
    (s.fqJoin (.engage (some s.cueRef) n) onset (onset - 16 * ((s.ccfg n).engageLead : Int))).readNext
  | .hold n .release =>
    (s.fqJoin (.release s.cueRef n) onset (onset - 16 * ((s.ccfg n).releaseLead : Int))).readNext
  | .rotor cmd => (s.fqJoin (.rotor s.cueRef cmd) onset onset).readNext
  | .mark r => (s.fqJoin (.mark s.cueRef r) onset onset).readNext
  | .agenda (.tempo t n) => (s.agendaJoin (.tempo t n)).readNext
  | .agenda (.holdpoint x y t d) =>
    let s := s.agendaJoin (.holdpoint x y t d)
    s.setReader { s.reader with state := .held, pending := .none }
  | .map n rec r => (s.resolveMap s.cueLoc n rec r).readNext
  | .repeatJump t c => s.takeRepeat t c

/-- Room and admission of a cue that is not refused (R29, R30). -/
def State.roomAndAdmit (s : State) (a : Ask) (onset : Int) : State :=
  if s.roomFor a then s.placeAsk a onset else s.setReader { s.reader with state := .stalled }

/-- The result of a refused cue (R28, R160). A STRIKE's carries the REHEARSED mark in rehearsal, as every STRIKE result
written does (R95, R107; log entry 32). -/
def State.refusal (s : State) (b : CueBody) : List Byte :=
  match b with
  | .strike .. => s.strikeResult .refused .none false false 0 0 0
  | .hold .. => refusedResult
  | .tempo .. => refusedResult
  | .rotor _ => refusedResult
  | .mark _ => refusedResult
  | .holdpoint .. => refusedResult
  | .map .. => refusedResult
  | .repeatJump .. => refusedResult

/-- A pending cue past the horizon goes on to refusal, room and admission (R27 to R30). -/
def State.takeOn (s : State) (c : Cue) (onset : Int) : State :=
  match s.asks c.body with
  | some a => s.roomAndAdmit a onset
  | none => (s.writeResult s.cueLoc (s.refusal c.body)).readNext

/-- The pending cue and its projected onset. -/
def State.pendingCue (s : State) : Option (Cue × Int) :=
  match s.reader.pending with
  | .cue c => (s.cueOnset c).map fun o => (c, o)
  | .entry _ => none
  | .none => none

/-- The pending cue's projected onset is no later than the horizon (R27). -/
def horizonPassedDue (s : State) : Bool :=
  s.perf.state == .running && s.reader.state == .horizon &&
    match s.pendingCue with
    | some (_, o) => decide (o ≤ s.horizon)
    | none => false

/-- The pending cue is taken past the horizon (R27). -/
def State.passHorizon (s : State) : State :=
  match s.pendingCue with
  | some (c, o) => s.takeOn c o
  | none => s

/-- HORIZON_PASSED (R27). -/
def execHorizonPassed (s : State) : Answer := onEvent (horizonPassedDue s) State.passHorizon s

/-- There is room for what the reader holds pending: for a jump and a block entry, in the open block table (R24,
R29, R35). -/
def State.pendingRoom (s : State) : Bool :=
  match s.reader.pending with
  | .entry _ => s.passRoom
  | .cue c =>
    match s.pendingCue, s.asks c.body with
    | some _, some (.repeatJump ..) => s.passRoom
    | some _, some a => s.roomFor a
    | some _, none => false
    | none, _ => false
  | .none => false

/-- A STALLED reader whose pending work has room (R29), or one that rested in READING at an entry (log entry 7). -/
def stallReleasedDue (s : State) : Bool :=
  s.perf.state == .running && (s.reader.state == .stalled || s.reader.state == .reading) && s.pendingRoom

/-- The pending cue or block entry goes on; the horizon is not tested again (R24, R29). -/
def State.releaseStall (s : State) : State :=
  match s.reader.pending with
  | .entry target => s.enterBlock target .link entryFuel
  | .cue _ => s.passHorizon
  | .none => s

/-- STALL_RELEASED (R29). -/
def execStallReleased (s : State) : Answer := onEvent (stallReleasedDue s) State.releaseStall s

/-! ### Release of a holdpoint (R13, R33) -/

/-- The holding holdpoint is released by a source: RUNNING again, the result, the report, the tick's place, and the
reader goes on (R13). -/
def State.releaseHoldpoint (s : State) (e : AgendaEntry) (src : ReleaseSource) (delay : Nat) : State :=
  let s := s.setPerf { s.perf with state := .running }
  let s := s.setScu { s.scu with agenda := s.scu.agenda.tail, holdExpiry := none, cond := s.placeReleased delay }
  let s := s.resolve e.cue (holdpointResult .releasedHold src (ptMicros s.scu.pt))
  if s.reader.state = .held then (s.setReader { s.reader with state := .reading }).readNext else s

/-- Release the holding holdpoint, whatever its parameters (R13). -/
def State.releaseHeld (s : State) (src : ReleaseSource) : State :=
  match s.holdpoint with
  | some e =>
    match e.body with
    | .holdpoint _ _ _ delay => s.releaseHoldpoint e src delay
    | .tempo .. => s
  | none => s

/-- The holding holdpoint enables the CUE line. -/
def State.holdByCue (s : State) : Bool :=
  match s.holdpoint with
  | some e =>
    match e.body with
    | .holdpoint byCue _ _ _ => byCue
    | .tempo .. => false
  | none => false

/-- The holding holdpoint enables the CONTINUE command. -/
def State.holdByCommand (s : State) : Bool :=
  match s.holdpoint with
  | some e =>
    match e.body with
    | .holdpoint _ byCommand _ _ => byCommand
    | .tempo .. => false
  | none => false

/-- A CUEI edge delivered to the SCU releases a holdpoint that enables the CUE line, in HOLDING (R13). -/
def State.cueEdge (s : State) : State :=
  if s.perf.state = .holding ∧ s.holdByCue = true then s.releaseHeld .cue else s

def holdpointTimeoutDue (s : State) : Bool :=
  match s.scu.holdExpiry with
  | some e => s.perf.state == .holding && s.holdpoint.isSome && decide (e ≤ s.now)
  | none => false

/-- HOLDPOINT_TIMEOUT (R13). -/
def execHoldpointTimeout (s : State) : Answer :=
  onEvent (holdpointTimeoutDue s) (fun s => s.releaseHeld .timeout) s

end Sys2Proof.Machine
end

