-- ==== Sys2Proof/Config.lean ====
section
/-! DEFINITION. What the spec leaves open, as constants without a value. -/
namespace Sys2Proof

/-- The byte on MISO while the host shifts a data byte of a MEM_WRITE or a REG_WRITE in. R170 states MISO
for the instruction, address, index and turnaround bytes and for read data; for the data bytes of a write it
states nothing. A free value, one for each such byte in turn (log entry 1). -/
opaque Config.misoWhileWriting : Nat → Byte

end Sys2Proof
end

