-- ==== Sys2Proof/WellFormed.lean ====
section
/-! DEFINITION. When a term of Instr is the command of its row. -/
namespace Sys2Proof

/-- The nine command codes of Table 10-14. -/
def isCommandCode (code : Byte) : Bool :=
  decide (1 ≤ code.toNat) && decide (code.toNat ≤ 9)

/-- How many bytes follow the instruction byte before the data phase, by Table 10-1: the address and a turnaround byte for
MEM_READ, the address for MEM_WRITE, the index and a turnaround byte for REG_READ, the index for REG_WRITE. Any other code is
none of the four. -/
def headerBytes (code : Byte) : Option Nat :=
  match code.toNat with
  | 0x52 => some 3
  | 0x57 => some 2
  | 0x72 => some 2
  | 0x77 => some 1
  | _ => none

/-- A transaction of an instruction byte and `len` further bytes comes to no data phase: its code is none of the four, or CS rises
before its address, index and turnaround bytes are complete (R170). -/
def reachesNoData (code : Byte) (len : Nat) : Bool :=
  match headerBytes code with
  | some h => decide (len < h)
  | none => true

/-- A register write that writes nothing: an index above 3 names no register, and a group that is cut short has at
most one of its two bytes, the first group an index of a register as well (R170). -/
def IgnoredWrite.wellFormed : IgnoredWrite → Bool
  | .status _ => true
  | .noRegister index _ => decide (3 < index.toNat)
  | .cutFirst index len => decide (index.toNat ≤ 3) && decide (len < 2)
  | .cutNext len => decide (len < 2)

/-- An UNKNOWN_COMMAND has a code that is none of the nine (R142), an UNKNOWN_INSTRUCTION comes to no data phase, and a
register write that writes nothing has a form of its own (R170). The operands of every other row take every value of their
types. -/
def Instr.wellFormed : Instr → Bool
  | .unknownCommand code => !isCommandCode code
  | .unknownInstruction code len => reachesNoData code len
  | .start => true
  | .pause => true
  | .resume => true
  | .stop => true
  | .cont => true
  | .clear => true
  | .clearChannel _ => true
  | .lockConfig => true
  | .perfReset => true
  | .attnFlagsWrite _ => true
  | .attnEnableWrite _ => true
  | .statusWriteIgnored w => w.wellFormed
  | .memRead _ _ => true
  | .memWrite _ _ => true
  | .regRead _ _ => true
  | .powerOnReset _ => true
  | .pinReset _ => true
  | .housekeepingEvent _ => true
  | .heatEvent _ => true
  | .reportEvent => true
  | .rotorRateEvent => true
  | .rotorStep => true
  | .syncoPulseEnd => true
  | .tickBoundary => true
  | .holdpointTimeout => true
  | .syncLoss => true
  | .syncPulse => true
  | .cueiEdge => true
  | .homeEdge => true
  | .contactAccepted _ => true
  | .synthesisedContact _ => true
  | .filterQualificationAbandoned _ => true
  | .quietQualifierChange _ _ => true
  | .quietRequest => true
  | .dfltAssertion => true
  | .dfltDeassertion => true
  | .loadingComplete => true
  | .horizonPassed => true
  | .stallReleased => true
  | .standingReengagePlaced _ => true
  | .fireTimeArrival => true
  | .skewExpiry => true
  | .pulseEnd _ => true
  | .engageEnd _ => true
  | .windowSettle _ => true
  | .recoveryEnd _ => true
  | .drainComplete => true
  | .drainPark => true
  | .nrstAssertion => true
  | .lineTransition _ => true
  | .returnEdgeAccepted _ => true

end Sys2Proof
end

