-- ==== Sys2Proof/Machine/Port.lean ====
section
/-! DEFINITION. The SPI port (chapter 10): memory and register transactions, and the register writes that are no
command. -/
namespace Sys2Proof.Machine
open Sys2Proof

/-! ### Transactions (R170) -/

/-- The byte shifted out while the instruction byte is shifted in: the low byte of STATUS at the fall of CS
(R170). -/
def State.statusByte (s : State) : Byte := s.statusReg.setWidth 8

/-- `n` bytes of MISO that the spec states nothing about (log entry 1). -/
def freeMiso (used : Nat) : Nat → List Byte
  | 0 => []
  | n + 1 => Config.misoWhileWriting used :: freeMiso (used + 1) n

/-- MISO through a transaction that writes `n` data bytes after `h` address or index bytes (R170). -/
def State.shiftWrite (s : State) (h n : Nat) : State :=
  s.setPort { miso := s.statusByte :: (List.replicate h 0 ++ freeMiso s.port.used n), used := s.port.used + n
              nextReg := none }

/-- MISO through a transaction that shifts data out after `h` bytes of 0x00 (R170). -/
def State.shiftRead (s : State) (h : Nat) (data : List Byte) : State :=
  s.setPort { s.port with miso := s.statusByte :: (List.replicate h 0 ++ data), nextReg := none }

/-- A transaction is taken unless nRST is low (R170). -/
def onPort (f : State → State) (s : State) : Answer :=
  if s.nrstLow then .next s else .next (f s)

/-! ### Memory transactions (R171, R172) -/

/-- The bytes of cue memory from an address upward, wrapping from 0xFFFF to 0x0000 (R170). -/
def Memory.stream (m : Memory) (a : Addr) : Nat → List Byte
  | 0 => []
  | n + 1 => Memory.read m a.toNat :: Memory.stream m (a + 1) n

/-- MEM_READ (R171). -/
def execMemRead (a : Addr) (n : Nat) (s : State) : Answer :=
  onPort (fun s => s.shiftRead 3 (Memory.stream s.mem a n)) s

/-- Host bytes at these addresses are ignored at the commit (R172), the fault record's state byte apart. -/
def partOwned (a : Nat) : Bool :=
  decide (a < 0x100) || (decide (0x540 ≤ a) && decide (a ≤ 0x73F))

/-- The address of the fault record's state byte (R172). -/
def faultStateAddr : Nat := 0x70

/-- The host writes the EMPTY code to the fault record's state byte: EMPTY, and overlap clear (R167). -/
def freeFaultRecord (m : Memory) : Memory := Memory.write (Memory.write m 0x70 0) 0x71 0

/-- One byte of a host commit (R172). -/
def commitByte (m : Memory) (a : Nat) (v : Byte) : Memory :=
  if a = faultStateAddr then (if v = 0 then freeFaultRecord m else m)
  else if partOwned a then m
  else Memory.write m a v

/-- The commits of a MEM_WRITE's lines, in address order with the address wrapping (R170, R172). Within one
indivisible step, committing line by line leaves the same memory as committing byte by byte. -/
def commitBytes (m : Memory) (a : Addr) : List Byte → Memory
  | [] => m
  | v :: vs => commitBytes (commitByte m a.toNat v) (a + 1) vs

/-- MEM_WRITE (R172). -/
def execMemWrite (a : Addr) (data : List Byte) (s : State) : Answer :=
  onPort (fun s => (s.shiftWrite 2 data.length).setMem (commitBytes s.mem a data)) s

/-! ### Register transactions (R170, R174) -/

/-- Data byte k of a REG_READ from an index: two bytes per register, low byte first, the index wrapping from 3 to
0 (R170). -/
def State.regByte (s : State) (index k : Nat) : Byte :=
  let r := s.regRead ((index + k / 2) % 4)
  if k % 2 = 0 then r.setWidth 8 else (r >>> 8).setWidth 8

/-- The data bytes of a REG_READ; an index above 3 reads as 0x00 (R170). -/
def State.regStream (s : State) (index : Byte) (n : Nat) : List Byte :=
  if 3 < index.toNat then List.replicate n 0 else (List.range n).map (s.regByte index.toNat)

/-- REG_READ (R170, R174). -/
def execRegRead (index : Byte) (n : Nat) (s : State) : Answer :=
  onPort (fun s => s.shiftRead 2 (s.regStream index n)) s

/-- UNKNOWN_INSTRUCTION: the rest of the transaction reads 0x00 and writes nothing (R170). So does a transaction of one of the four
codes that CS ends in its address, index or turnaround bytes: these shift out 0x00, and there is no data (R170). -/
def execUnknownInstruction (code : Byte) (n : Nat) (s : State) : Answer :=
  if reachesNoData code n then onPort (fun s => s.shiftRead 0 (List.replicate n 0)) s
  else .refused .illFormed

/-- The index of STATUS, CONTROL, ATTN_FLAGS and ATTN_ENABLE (Table 10-13). -/
abbrev regStatus : BitVec 2 := 0
abbrev regControl : BitVec 2 := 1
abbrev regFlags : BitVec 2 := 2
abbrev regEnable : BitVec 2 := 3

/-- MISO before the data bytes of a group for a register. Where the REG_WRITE in progress has come to that register, it is
what the transaction has shifted out so far; otherwise the group is the first of a REG_WRITE of its own, after the
STATUS byte and 0x00 for the index byte (R170; log entry 11). -/
def State.misoBefore (s : State) (r : BitVec 2) : List Byte :=
  if s.port.nextReg = some r then s.port.miso else [s.statusByte, 0]

/-- MISO through a group for a register; the index advances to the next register and wraps from 3 to 0 (R170). -/
def State.shiftGroup (s : State) (r : BitVec 2) : State :=
  s.setPort { miso := s.misoBefore r ++ freeMiso s.port.used 2, used := s.port.used + 2, nextReg := some (r + 1) }

/-- A whole group for a register is received and acts. -/
def onGroup (r : BitVec 2) (f : State → State) (s : State) : Answer := onPort (fun s => f (s.shiftGroup r)) s

/-- ATTN_FLAGS_WRITE: each flag written as 1 is cleared (R168). -/
def execAttnFlagsWrite (v : BitVec 16) (s : State) : Answer :=
  onGroup regFlags (fun s => s.setRegs { s.regs with flags := s.regs.flags &&& ~~~(v.setWidth 9) }) s

/-- ATTN_ENABLE_WRITE: the nine enables are replaced (R169). -/
def execAttnEnableWrite (v : BitVec 16) (s : State) : Answer :=
  onGroup regEnable (fun s => s.setRegs { s.regs with enable := v.setWidth 9 }) s

/-- CS rises after whole groups and `n` bytes of a further one: these are discarded and the REG_WRITE is over (R170). With
no REG_WRITE in progress there is nothing to end. -/
def State.cutGroup (s : State) (n : Nat) : State :=
  if s.port.nextReg.isSome then
    s.setPort { miso := s.port.miso ++ freeMiso s.port.used n, used := s.port.used + n, nextReg := none }
  else s

/-- STATUS_WRITE_IGNORED: STATUS is read-only (R174). An index above 3 makes the rest of the transaction read 0x00 and
write nothing, and a group cut short after its first byte is discarded (R170). -/
def execStatusWriteIgnored (w : IgnoredWrite) (s : State) : Answer :=
  if w.wellFormed then
    match w with
    | .status _ => onGroup regStatus (fun s => s) s
    | .noRegister _ n => onPort (fun s => s.shiftRead 1 (List.replicate n 0)) s
    | .cutFirst _ n => onPort (fun s => s.shiftWrite 1 n) s
    | .cutNext n => onPort (fun s => s.cutGroup n) s
  else .refused .illFormed

end Sys2Proof.Machine
end

