-- ==== Sys2Proof/Machine/Performance.lean ====
section
/-! DEFINITION. Running a performance (chapter 8): commands, LOADING, draining and ending, and the freeze of a quiet
request or DFLT. -/
namespace Sys2Proof.Machine
open Sys2Proof

/-! ### How a command is taken (R142) -/

/-- A command written to CONTROL: its code and outcome are recorded, and it acts if it is ACCEPTED (R142). -/
def onControl (code : Byte) (verdict : State → CmdOutcome) (f : State → State) (s : State) : Answer :=
  onGroup regControl (fun u =>
    let v := verdict s
    let t := match v with
      | .accepted => f u
      | .none => u
      | .refusedState => u
      | .refusedArg => u
      | .refusedLock => u
    publish s (t.setRegs { t.regs with code := code, outcome := v })) s

/-- ACCEPTED where a condition holds, REFUSED_STATE otherwise. -/
def acceptIf (b : Bool) : CmdOutcome := if b then .accepted else .refusedState

/-- The performance state is IDLE or ENDED. -/
def State.atRest (s : State) : Bool := s.perf.state == .idle || s.perf.state == .ended

/-! ### START, PAUSE, RESUME, LOCK_CONFIG (R143, R148, R150) -/

def startVerdict (s : State) : CmdOutcome := acceptIf s.atRest

/-- START moves the performance to LOADING with end cause NONE, and LOADING begins with nothing read (R143, R144). The
reader keeps the state the previous performance left it in (R143; log entry 37). -/
def State.startLoading (s : State) : State :=
  s.setPerf { s.perf with state := .loading, endCause := .none, staged := [] }

/-- START (R143). -/
def execStart (s : State) : Answer := onControl 1 startVerdict State.startLoading s

def pauseVerdict (s : State) : CmdOutcome := acceptIf s.perf.state.advances

/-- PAUSE remembers the state it left; PT stops (R150). -/
def State.takePause (s : State) : State :=
  s.setPerf { s.perf with state := .paused, prior := some s.perf.state, pausedAt := s.scu.dt }

/-- PAUSE (R150). -/
def execPause (s : State) : Answer := onControl 2 pauseVerdict State.takePause s

/-! ### Drain completion (R153) -/

/-- No channel holds an in-flight stroke or an engage in progress (R153). -/
def State.nothingInFlight (s : State) : Bool :=
  allChans.all fun n => (s.chan n).stroke.isNone && (s.chan n).engage.isNone

/-- The rotor is PARKED, STOPPED or HOME_FAULT (R153). -/
def RotorState.still : RotorState → Bool
  | .parked => true
  | .stopped => true
  | .homeFault => true
  | .running => false
  | .parking => false

/-- The conditions of drain completion (R153). -/
def drainCompleteDue (s : State) : Bool :=
  s.perf.state == .draining && s.fq.isEmpty && s.nothingInFlight && s.scu.agenda.isEmpty && s.passes.isEmpty
    && s.rot.state.still

/-- The performance enters ENDED and the hold channels are released (R116, R153). -/
def State.drained (s : State) : State := (s.releaseHolds .cancelled).enterEnded

/-- Check drain completion at once (R150, R151). -/
def State.drainCheck (s : State) : State := if drainCompleteDue s then s.drained else s

/-- DRAIN_COMPLETE (R153). -/
def execDrainComplete (s : State) : Answer := onEvent (drainCompleteDue s) State.drained s

/-! ### RESUME (R76, R150) -/

def resumeVerdict (s : State) : CmdOutcome := acceptIf (s.perf.state == .paused)

/-- The waiting entries' slot-wait starts, and with them their expiries, move by the DT spent in PAUSED (R76). -/
def State.shiftWaits (s : State) (d : DevTime) : State :=
  s.setFq (s.fq.map fun e => { e with wait := e.wait.map (· + d) })

/-- RESUME returns to the remembered state, shifts slot wait, takes a grant test and, into DRAINING, checks drain
completion (R76, R150). -/
def State.takeResume (s : State) : State :=
  let back := s.perf.prior.getD .running
  let s := s.shiftWaits (s.scu.dt - s.perf.pausedAt)
  let s := s.setPerf { s.perf with state := back, prior := none }
  let s := s.setScu { s.scu with resumed := true }
  s.grantTest.drainCheck

/-- RESUME (R150). -/
def execResume (s : State) : Answer := onControl 3 resumeVerdict State.takeResume s

/-! ### STOP (R149, R151) -/

def stopVerdict (s : State) : CmdOutcome :=
  match s.perf.state with
  | .loading => .accepted
  | .running => .accepted
  | .holding => .accepted
  | .paused => .accepted
  | .draining => .accepted
  | .idle => .refusedState
  | .ended => .refusedState
  | .frozen => .refusedState

/-- A holdpoint is holding, or was when PAUSE was taken (R14). -/
def State.heldAtHoldpoint (s : State) : Bool :=
  s.perf.state == .holding || (s.perf.state == .paused && s.perf.prior == some .holding)

/-- STOP resolves the agenda CANCELLED; a holding holdpoint's tick is scheduled at the PT of the STOP (R14). -/
def State.stopAgenda (s : State) : State :=
  let t := s.agendaEnds .cancelled
  if s.heldAtHoldpoint then t.setScu { t.scu with cond := .scheduled s.now } else t

/-- STOP's new performance state: PAUSED stays, remembering DRAINING (R151). -/
def State.stopState (s : State) : State :=
  if s.perf.state = .paused then s.setPerf { s.perf with prior := some .draining, endCause := .stopped }
  else s.setPerf { s.perf with state := .draining, endCause := .stopped }

/-- STOP in RUNNING, HOLDING, PAUSED or DRAINING (R151). Results are written for the fire queue, then the agenda, then the HOLD
channels from channel 0 on, then the rotor; the last one written to a shared result area stays (DESIGN CHOICE, log entry 42). -/
def State.stopPlaying (s : State) : State :=
  let s := s.endReading.cancelQueue
  let s := (s.stopAgenda.releaseHolds .cancelled).rotorStop
  s.stopState.drainCheck

/-- A LOADING ends with a cause other than success: its staging copy is discarded (R146, R149). -/
def State.dropLoading (s : State) (c : EndCause) : State := s.setPerf { s.perf with endCause := c, staged := [] }

/-- STOP (R151); in LOADING the LOADING is abandoned and the performance is ENDED with STOPPED (R149). -/
def State.takeStop (s : State) : State :=
  if s.perf.state = .loading then (s.dropLoading .stopped).enterEnded else s.stopPlaying

/-- STOP (R151). -/
def execStop (s : State) : Answer := onControl 4 stopVerdict State.takeStop s

/-! ### CONTINUE, CLEAR, CLEAR_CHANNEL, LOCK_CONFIG, unknown codes -/

def continueVerdict (s : State) : CmdOutcome :=
  if s.perf.state = .holding then (if s.holdByCommand then .accepted else .refusedArg) else .refusedState

/-- CONTINUE (R152). -/
def execContinue (s : State) : Answer := onControl 5 continueVerdict (fun s => s.releaseHeld .cont) s

def clearVerdict (s : State) : CmdOutcome :=
  acceptIf (s.perf.state == .frozen && s.siu.quiet == .opened && !s.siu.dflt)

/-- CLEAR (R154). -/
def execClear (s : State) : Answer := onControl 6 clearVerdict State.enterEnded s

/-- The FAULTED STRIKE channel a CLEAR_CHANNEL names (R100). -/
def State.faultedChan (s : State) (n : Byte) : Option ChanId :=
  match s.chanOf n .strike with
  | some c => if (s.chan c).state = .faulted then some c else none
  | none => none

def clearChannelVerdict (n : Byte) (s : State) : CmdOutcome :=
  if (s.faultedChan n).isSome then .accepted else .refusedArg

/-- A FAULTED channel becomes IDLE with no misses, and a grant test is taken (R100). -/
def State.clearFaulted (s : State) (n : Byte) : State :=
  match s.faultedChan n with
  | some c => (s.setChan c { s.chan c with state := .idle, misses := 0 }).grantTest
  | none => s

/-- CLEAR_CHANNEL (R100). -/
def execClearChannel (n : Byte) (s : State) : Answer :=
  onControl 7 (clearChannelVerdict n) (fun s => s.clearFaulted n) s

def lockVerdict (s : State) : CmdOutcome :=
  if s.atRest then (if s.perf.latch.isSome then .accepted else .refusedLock) else .refusedState

/-- LOCK_CONFIG sets the lock (R148). -/
def State.setLock (s : State) : State := s.setPerf { s.perf with lock := true }

/-- LOCK_CONFIG (R148). -/
def execLockConfig (s : State) : Answer := onControl 8 lockVerdict State.setLock s

/-- UNKNOWN_COMMAND: a code that is none of the nine is recorded with REFUSED_ARG (R142, R174). -/
def execUnknownCommand (code : Byte) (s : State) : Answer :=
  if isCommandCode code then .refused .illFormed else onControl code (fun _ => .refusedArg) (fun s => s) s

/-! ### LOADING (R144 to R147) -/

/-- A configuration error (R146). -/
structure ConfigError where
  block  : Addr
  slot   : Nat
  detail : FaultDetail
  deriving DecidableEq, Repr

/-- The address of a channel's record (Table 10-2). -/
def chanRecordAddr (n : ChanId) : Nat := 0x140 + 16 * n.val

/-! #### The staging copy (R144)

LOADING's reads in their order, as items 0 to 324: the four lines of the global configuration; the 64 channel
records; four map lines for each channel; the header line of the start block. An item that this LOADING does not read
is an empty line. -/

/-- How many items LOADING's reads have. -/
def loadItems : Nat := 325

/-- Item k of the staging copy: as LOADING read it, or while it has not, a line that stands in for it. -/
def State.stagedOr (s : State) (k : Nat) (line : List Byte) : List Byte := s.perf.staged.getD k line

/-- Line j of the global configuration in the staging copy. A locked LOADING reads the line of the start block address
alone. -/
def State.stagedGlobalLine (s : State) (j : Nat) : List Byte :=
  s.stagedOr j (if s.perf.lock ∧ j ≠ 0 then [] else Memory.line s.mem (0x100 + 16 * j))

/-- The staging copy of the global configuration's bytes. -/
def State.stagedGlobal (s : State) : List Byte := (List.range 4).flatMap s.stagedGlobalLine

/-- The staging copy of a channel record's bytes, which an unlocked LOADING reads. -/
def State.stagedChan (s : State) (n : ChanId) : List Byte :=
  s.stagedOr (4 + n.val) (if s.perf.lock then [] else Memory.line s.mem (chanRecordAddr n))

/-- The map address of a channel's staged record. -/
def State.stagedMapAddr (s : State) (n : ChanId) : Addr := (readChannel (s.stagedChan n)).mapAddr

/-- LOADING reads a channel's map record: its staged class is STRIKE and its map address valid (R144). -/
def State.readsMap (s : State) (n : ChanId) : Bool :=
  !s.perf.lock && readClass (s.stagedChan n) == some .strike && validMapAddr (s.stagedMapAddr n)

/-- Line j of a channel's map record in the staging copy. -/
def State.stagedMapLine (s : State) (n : ChanId) (j : Nat) : List Byte :=
  s.stagedOr (68 + 4 * n.val + j)
    (if s.readsMap n then Memory.line s.mem ((s.stagedMapAddr n).toNat + 16 * j) else [])

/-- The staging copy of a channel's map record. -/
def State.stagedRecord (s : State) (n : ChanId) : List Byte := (List.range 4).flatMap (s.stagedMapLine n)

/-- The staged start block address. -/
def State.stagedStart (s : State) : Addr := addrAt s.stagedGlobal 0

/-- The header line at the staged start block address, read if that is a valid block address. -/
def State.stagedHeader (s : State) : List Byte :=
  s.stagedOr 324 (if validBlockAddr s.stagedStart then Memory.line s.mem s.stagedStart.toNat else [])

/-- Item k of LOADING's reads. -/
def State.stagedItem (s : State) (k : Nat) : List Byte :=
  if k < 4 then s.stagedGlobalLine k
  else if k < 68 then s.stagedChan (Fin.ofNat 64 (k - 4))
  else if k < 324 then s.stagedMapLine (Fin.ofNat 64 ((k - 68) / 4)) (k % 4)
  else s.stagedHeader

/-- All of LOADING's reads are done. -/
def State.readsDone (s : State) : Bool := decide (loadItems ≤ s.perf.staged.length)

/-- LOADING reads its next line; a map line passes through the staging buffer (R46, R144). -/
def State.loadLine (s : State) : State :=
  let k := s.perf.staged.length
  let line := s.stagedItem k
  let t := s.setPerf { s.perf with staged := s.perf.staged ++ [line] }
  if 68 ≤ k ∧ k < 324 ∧ line ≠ [] then
    t.setStaging (s.staging.take (16 * (k % 4)) ++ line ++ s.staging.drop (16 * (k % 4) + 16))
  else t

/-- The map check of a STRIKE channel's record (R47, R144). -/
def State.stagedMap (s : State) (n : ChanId) : Except (MapDetail × Nat) VelMap :=
  validateMap (s.stagedMapAddr n) (s.stagedRecord n)

/-! #### The checks (R145, R146) -/

/-- The checks of the global configuration (R145 step 1). -/
def State.globalError (s : State) : Option ConfigError :=
  if readSyncMode (u8 s.stagedGlobal 2) = none then
    some { block := 0x100, slot := 0, detail := .cfgSyncMode }
  else if supplyThresholdsOk (readGlobal s.stagedGlobal) = false then
    some { block := 0x100, slot := 0, detail := .cfgSupplyThresholds }
  else none

/-- A partner that is the channel itself or whose staged class is not STRIKE (R145). -/
def State.badPartner (s : State) (n : ChanId) : Bool :=
  match (readChannel (s.stagedChan n)).partner with
  | some p => p == n || readClass (s.stagedChan p) != some .strike
  | none => false

/-- WARM above HOT, or RESUME not below HOT (R81, R145). -/
def ChannelConfig.badHeat (k : ChannelConfig) : Bool := decide (k.hot < k.warm) || decide (k.hot ≤ k.resume)

/-- The checks of one channel (R145 step 2). -/
def State.chanError (s : State) (n : ChanId) : Option ConfigError :=
  let k := readChannel (s.stagedChan n)
  let at_ : Addr := BitVec.ofNat 16 (chanRecordAddr n)
  match readClass (s.stagedChan n) with
  | none => some { block := at_, slot := 0, detail := .cfgClass }
  | some .unused => none
  | some .hold =>
    if k.badHeat then some { block := at_, slot := 0, detail := .cfgHeatThresholds } else none
  | some .strike =>
    if s.badPartner n then some { block := at_, slot := 0, detail := .cfgPartner }
    else if k.badHeat then some { block := at_, slot := 0, detail := .cfgHeatThresholds }
    else
      match s.stagedMap n with
      | .error (d, i) => some { block := at_, slot := i, detail := .cfgMap d }
      | .ok _ => none

/-- The detail of a start block check (R145 step 3). -/
def startDetail : FaultDetail → FaultDetail
  | .badLinkAddress => .cfgStartAddress
  | .badLinkSignature => .cfgStartSignature
  | _ => .cfgStartCount

/-- The checks of the start block, in the order of R23 (R145 step 3). -/
def State.startError (s : State) : Option ConfigError :=
  (headerFault s.stagedStart s.stagedHeader).map fun d => { block := s.stagedStart, slot := 0, detail := startDetail d }

/-- The first check of R145 that fails; a locked LOADING makes step 3 alone. -/
def State.loadingError (s : State) : Option ConfigError :=
  if s.perf.lock then s.startError
  else
    match s.globalError with
    | some e => some e
    | none =>
      match allChans.findSome? s.chanError with
      | some e => some e
      | none => s.startError

/-- A LOADING that fails: ENDED with CONFIG_ERROR, everything latched kept (R146). -/
def State.loadingFails (s : State) (e : ConfigError) : State :=
  let s := (s.dropLoading .configError).handFault
    { kind := .config, block := e.block, slot := e.slot, kindByte := 0, readerTick := 0, depth := 0
      detail := e.detail }
  s.enterEnded

/-- What a STRIKE channel's map becomes at an unlocked LOADING; every other channel's entry is emptied (R48). -/
def State.loadedMap (s : State) (n : ChanId) : Option VelMap :=
  if readClass (s.stagedChan n) = some .strike then
    match s.stagedMap n with
    | .ok m => some m
    | .error _ => none
  else none

/-- The last map record LOADING reads stays in the staging buffer (R46, R144). -/
def State.stageLast (s : State) : State :=
  s.forChans fun n t => if s.readsMap n then t.setStaging (s.stagedRecord n) else t

/-- Latching (R147 steps 1 and 2): an unlocked LOADING takes the whole staging copy, a locked one the start block
address alone. -/
def State.latchConfig (s : State) : State :=
  if s.perf.lock then
    s.setPerf { s.perf with
      latch := s.perf.latch.map fun l => { l with startBlock := s.stagedStart }, staged := [] }
  else
    (s.setPerf { s.perf with
      latch := some { global := readGlobal s.stagedGlobal
                      chans := Vector.ofFn fun n => readChannel (s.stagedChan n)
                      startBlock := s.stagedStart }
      staged := [] }).setMaps (Vector.ofFn s.loadedMap)

/-- A channel is placed by its class as LOADING succeeds (R82, R83, R108, R147 step 3). -/
def placeChannel (k : ChannelConfig) (locked : Bool) (c : Channel) : Channel :=
  let c := { c with stroke := none, engage := none, holdWanted := false, standing := false }
  match k.cls with
  | .unused => { c with state := .off }
  | .strike =>
    { c with
      state := if k.hot ≤ c.heat then .cooldown else .idle
      misses := 0, strays := 0, hits := 0
      trim := if locked then c.trim else k.initialTrim }
  | .hold =>
    { c with
      state := if k.hot ≤ c.heat then .cooldown else .released
      misses := 0, strays := 0, hits := 0, trim := 0 }

/-- Every channel is placed, and CHANNEL is set if one is placed in COOLDOWN (R147 step 3). -/
def State.placeChannels (s : State) : State :=
  let t := s.setChans (Vector.ofFn fun n => placeChannel (s.ccfg n) s.perf.lock (s.chan n))
  if allChans.any fun n => (t.chan n).state == .cooldown then t.setFlag .channel else t

/-- Tick 0's place and the sync state on entry to RUNNING (R7). -/
def GlobalConfig.tickZero (g : GlobalConfig) : TickCond × SyncState :=
  match g.syncMode with
  | .free => (.scheduled ((g.lookAhead : Int) * 16000), .none)
  | .lead => (.scheduled ((g.lookAhead : Int) * 16000), .none)
  | .follow => (.unscheduled, .acquire)

/-- The SCU on entry to RUNNING (R7). A SYNCO pulse of the performance before that is still running lasts its full 1,000 µs
(R16; DESIGN CHOICE, log entry 38). -/
def State.startScore (s : State) : State :=
  let g := s.global
  let s := s.setPeriod g.initialPeriod
  s.setScu { s.scu with
    pt := 0, tick := 0, cond := g.tickZero.1, tempo := { base := g.initialPeriod, ramp := none }
    holdExpiry := none, sync := g.tickZero.2, lossElapsed := none, prevPulse := none, resumed := false }

/-- The CRD on entry to RUNNING: it enters the start block (R43). -/
def State.startReader (s : State) (block : Addr) : State :=
  (s.setReader { s.reader with state := .reading, tick := 0, stack := [], pending := .none, pass := none }).enterBlock
    block .start entryFuel

/-- A LOADING whose checks all pass (R147). -/
def State.loadingSucceeds (s : State) : State :=
  let start := s.stagedStart
  let s := s.latchConfig.placeChannels
  let s := s.setPerf { s.perf with state := .running }
  s.startScore.startReader start

/-- LOADING completes: its reads end, those still to come reading the lines as they now stand (log entry 9), and the
checks are made on the staging copy (R144 to R147). On success the start block is entered on its header as it now
stands, not as it was staged (R43). -/
def State.loadingCompletes (s : State) : State :=
  match s.loadingError with
  | some e => s.stageLast.loadingFails e
  | none => s.stageLast.loadingSucceeds

def loadingCompleteDue (s : State) : Bool := s.perf.state == .loading

/-- LOADING_COMPLETE (R146, R147). -/
def execLoadingComplete (s : State) : Answer := onEvent (loadingCompleteDue s) State.loadingCompletes s

/-! ### The freeze (R131, R133, Table 7-2) -/

/-- A quiet request or DFLT acts on one channel (R105, R116). -/
def State.quietChannel (n : ChanId) (s : State) : State :=
  match (s.ccfg n).cls with
  | .strike => s.quietStrike n
  | .hold => s.endHold .quieted n
  | .unused => s

/-- What a freeze does in each block (Table 7-2). Results are written for the agenda, then the fire queue, then the channels from channel 0
on, then the rotor; the last one written to a result area that different passes share stays (DESIGN CHOICE, log entry 42). -/
def State.quietBlocks (s : State) : State :=
  let s := (s.endReading.agendaEnds .quieted).quietQueue
  (s.forChans State.quietChannel).rotorQuiet

/-- The performance becomes FROZEN with an end cause, and FROZEN is set (R131, R133). -/
def State.enterFrozen (s : State) (c : EndCause) : State :=
  (s.setPerf { s.perf with state := .frozen, endCause := c, prior := none }).setFlag .frozen

/-- A freeze where nothing plays: the rotor enters STOPPED as R124 says of every quiet request and DFLT taken (log entry
36), and a LOADING is abandoned (R149). -/
def State.freezeResting (s : State) (c : EndCause) : State := ((s.dropLoading c).rotorQuiet).enterFrozen c

/-- A freeze by the performance state (R131, R133). -/
def State.freeze (s : State) (c : EndCause) : State :=
  match s.perf.state with
  | .running => s.quietBlocks.enterFrozen c
  | .holding => s.quietBlocks.enterFrozen c
  | .paused => s.quietBlocks.enterFrozen c
  | .draining => s.quietBlocks.enterFrozen c
  | .loading => s.freezeResting c
  | .idle => s.freezeResting c
  | .ended => s.freezeResting c
  | .frozen => s

end Sys2Proof.Machine
end

