-- ==== Sys2Proof/Machine/Sense.lean ====
section
/-! DEFINITION. The sense inputs (chapter 7.1 to 7.3): filters, the edges they deliver, the quiet qualifier and the
drive fault line. -/
namespace Sys2Proof.Machine
open Sys2Proof

/-! ### Filters (R126, R127) -/

def State.filter (s : State) (l : InLine) : Filter :=
  match l with
  | .sns n => s.siu.sns[n]
  | .synci => s.siu.synci
  | .cuei => s.siu.cuei
  | .home => s.siu.home

def State.setFilter (s : State) (l : InLine) (f : Filter) : State :=
  match l with
  | .sns n => s.setSiu { s.siu with sns := s.siu.sns.set n f }
  | .synci => s.setSiu { s.siu with synci := f }
  | .cuei => s.setSiu { s.siu with cuei := f }
  | .home => s.setSiu { s.siu with home := f }

/-- The filter time F in µs: the latched contact filter time, 0 while none is latched, and 1,000 for SYNCI, CUEI and
HOME (R127). -/
def State.filterTime (s : State) (l : InLine) : Nat :=
  match l with
  | .sns _ => if s.perf.latch.isSome then s.global.contactFilter else 0
  | .synci => 1000
  | .cuei => 1000
  | .home => 1000

/-- A transition at a DT (R126). -/
def Filter.transition (f : Filter) (dt : DevTime) : Filter :=
  match f.qual with
  | none => { f with qual := some { rawDt := dt, holdStart := dt, bounce := none } }
  | some q =>
    match q.bounce with
    | none => { f with qual := some { q with bounce := some dt } }
    | some _ => { f with qual := some { q with holdStart := dt, bounce := none } }

/-- The level the line showed at the latest sample. -/
def Filter.level (f : Filter) : Bool :=
  match f.qual with
  | none => f.settled
  | some q => if q.bounce.isSome then f.settled else !f.settled

/-- The raw-edge DT of an edge the filter accepts now: the line has held the candidate level for F (R126). -/
def State.accepts (s : State) (l : InLine) : Option DevTime :=
  match (s.filter l).qual with
  | some q =>
    if q.bounce = none ∧ reached s.scu.dt (q.holdStart + BitVec.ofNat 32 (s.filterTime l)) then some q.rawDt
    else none
  | none => none

/-- The settled level becomes the candidate and the qualification ends (R126). -/
def State.settleLine (s : State) (l : InLine) : State :=
  s.setFilter l { settled := !(s.filter l).settled, qual := none }

/-- The candidate is in the direction that is delivered: the latched sense edge of a contact line, low to high on
SYNCI and CUEI, the latched HOME edge. With no configuration latched no contact and no HOME edge is delivered
(R127 to R129). -/
def State.delivers (s : State) (l : InLine) : Bool :=
  match l with
  | .sns n => s.perf.latch.isSome && (s.filter l).settled == (s.ccfg n).senseFalling
  | .synci => !(s.filter l).settled
  | .cuei => !(s.filter l).settled
  | .home => s.perf.latch.isSome && (s.filter l).settled == s.global.homeFalling

/-- The filter accepts an edge that is delivered. -/
def edgeDue (l : InLine) (s : State) : Bool := (s.accepts l).isSome && s.delivers l

/-- The raw-edge DT of the edge being accepted. -/
def State.rawEdge (s : State) (l : InLine) : DevTime := (s.accepts l).getD s.scu.dt

/-! ### Accepted edges (R128, R129) -/

/-- CONTACT_ACCEPTED (R128): the contact is delivered to the SCT with its raw-edge DT. -/
def execContactAccepted (n : ChanId) (s : State) : Answer :=
  onEvent (edgeDue (.sns n) s) (fun s => (s.settleLine (.sns n)).contact n (s.rawEdge (.sns n))) s

/-- SYNC_PULSE (R17, R129). -/
def execSyncPulse (s : State) : Answer :=
  onEvent (edgeDue .synci s) (fun s => (s.settleLine .synci).syncEdge (s.rawEdge .synci)) s

/-- CUEI_EDGE (R13, R129). -/
def execCueiEdge (s : State) : Answer :=
  onEvent (edgeDue .cuei s) (fun s => (s.settleLine .cuei).cueEdge) s

/-- HOME_EDGE (R122, R129). -/
def execHomeEdge (s : State) : Answer :=
  onEvent (edgeDue .home s) (fun s => (s.settleLine .home).rotorHome) s

/-- The filter accepts an edge that is not delivered. -/
def returnEdgeDue (l : InLine) (s : State) : Bool := (s.accepts l).isSome && !s.delivers l

/-- RETURN_EDGE_ACCEPTED: the settled level changes and nothing is delivered (R127 to R129). -/
def execReturnEdgeAccepted (l : InLine) (s : State) : Answer :=
  onEvent (returnEdgeDue l s) (fun s => s.settleLine l) s

/-- The line has been back at the settled level for F (R126). -/
def abandonDue (l : InLine) (s : State) : Bool :=
  match (s.filter l).qual with
  | some q =>
    match q.bounce with
    | some b => reached s.scu.dt (b + BitVec.ofNat 32 (s.filterTime l))
    | none => false
  | none => false

/-- The qualification is abandoned (R126). -/
def State.abandon (s : State) (l : InLine) : State := s.setFilter l { s.filter l with qual := none }

/-- FILTER_QUALIFICATION_ABANDONED (R126). -/
def execFilterQualificationAbandoned (l : InLine) (s : State) : Answer :=
  onEvent (abandonDue l s) (fun s => s.abandon l) s

/-! ### Samples (R125, R126, R130) -/

/-- A sample of the inputs is taken in every state but while the part is held in reset (R125). -/
def onSample (f : State → State) (s : State) : Answer :=
  if s.nrstLow then .next s else .next (publish s (f s))

/-- LINE_TRANSITION (R126). -/
def execLineTransition (l : InLine) (s : State) : Answer :=
  onSample (fun s => s.setFilter l ((s.filter l).transition s.scu.dt)) s

/-- The quiet qualifier after a sample that shows both stop lines asserted, or not (R130). -/
def QuietQual.sample (q : QuietQual) (both : Bool) (dt : DevTime) : QuietQual :=
  if both then
    match q with
    | .opened => .qualifying dt
    | .qualifying d => .qualifying d
    | .taken => .taken
  else .opened

/-- A sample of the two stop lines. -/
def State.sampleStops (s : State) (a b : Bool) : State :=
  let x : Siu := { s.siu with stopA := a, stopB := b }
  s.setSiu { x with quiet := s.siu.quiet.sample x.bothStops s.scu.dt }

/-- QUIET_QUALIFIER_CHANGE (R130). -/
def execQuietQualifierChange (a b : Bool) (s : State) : Answer := onSample (fun s => s.sampleStops a b) s

def quietRequestDue (s : State) : Bool :=
  match s.siu.quiet with
  | .qualifying d => reached s.scu.dt (d + 50000)
  | .opened => false
  | .taken => false

/-- The quiet request is taken (R130, R131). -/
def State.takeQuiet (s : State) : State := (s.setSiu { s.siu with quiet := .taken }).freeze .quiet

/-- QUIET_REQUEST (R131). -/
def execQuietRequest (s : State) : Answer := onEvent (quietRequestDue s) State.takeQuiet s

/-! ### The drive fault line (R132 to R134) -/

/-- What a drive fault hands to the Status Writer (R134). -/
def driveFaultInfo : FaultInfo where
  kind := .drive
  block := 0
  slot := 0
  kindByte := 0
  readerTick := 0
  depth := 0
  detail := .driveLine

/-- The sample shows DFLT asserted; after a sample that showed it deasserted the assertion is taken (R133, R134). -/
def State.takeDflt (s : State) : State :=
  if s.siu.dfltSeen then s
  else ((s.setSiu { s.siu with dflt := true, dfltSeen := true }).freeze .driveFault).handFault driveFaultInfo

/-- DFLT_ASSERTION (R133). -/
def execDfltAssertion (s : State) : Answer := onSample State.takeDflt s

/-- DFLT_DEASSERTION: the gating ends, and nothing else (R132, R133). -/
def execDfltDeassertion (s : State) : Answer :=
  onSample (fun s => s.setSiu { s.siu with dflt := false, dfltSeen := false }) s

end Sys2Proof.Machine
end

