-- ==== Sys2Proof/Machine/Resets.lean ====
section
/-! DEFINITION. The three resets and the assertion of nRST (chapter 8.6, R176). -/
namespace Sys2Proof.Machine
open Sys2Proof

/-! ### Inputs after a reset (R127, R130, R133) -/

/-- The filter of a line at a level, with no qualification (R127). -/
def freshFilter (level : Bool) : Filter := { settled := level, qual := none }

/-- The SIU that has seen one sample, with these levels. -/
def Siu.ofLevels (i : InputLevels) : Siu where
  sns := Vector.ofFn fun n => freshFilter (i.sns.getLsb n)
  synci := freshFilter i.synci
  cuei := freshFilter i.cuei
  home := freshFilter i.home
  stopA := i.stopA
  stopB := i.stopB
  quiet := .opened
  dflt := i.dflt
  dfltSeen := false

/-- Every filter settles at the level its line shows, with no qualification; the quiet qualifier is OPEN, or QUALIFYING from
this DT; DFLT is taken as deasserted before the sample (R127, R130, R133). -/
def Siu.restart (x : Siu) (dt : DevTime) : Siu :=
  { x with
    sns := Vector.ofFn fun n => freshFilter x.sns[n].level
    synci := freshFilter x.synci.level
    cuei := freshFilter x.cuei.level
    home := freshFilter x.home.level
    quiet := QuietQual.sample .opened x.bothStops dt
    dfltSeen := false }

/-- The SIU after a reset whose first sample, at a DT, shows these levels. -/
def siuAfterReset (i : InputLevels) (dt : DevTime) : Siu := (Siu.ofLevels i).restart dt

/-! ### The status area (R157, R161, R163, R165, R167) -/

/-- The identity line's assigned bytes (R161, Table 10-10). -/
def identityBytes : List Byte := leBytes 2 0x4F4E ++ leBytes 2 6408 ++ [1, 64, 64]

/-- `n` bytes of 0x00. -/
def zeroBytes (n : Nat) : List Byte := List.replicate n 0

/-- The status area re-initialised: the identity line, the three snapshot lines, the fault record EMPTY and the channel
report table zeroed. Bytes 7 to 15 of the identity line, which neither R161 nor Table 10-10 assigns and R175 does not zero, become 0x00
(DESIGN CHOICE, log entry 43). -/
def State.initStatusArea (s : State) : State :=
  let s := (s.poke 0 (zeroBytes 0x80)).poke 0x540 (zeroBytes 0x200)
  (s.poke 0 identityBytes).writeLineA.writeLineB.writeLineC

/-! ### Power-on and pin reset (R157) -/

/-- A power-on reset: everything in its reset state, cue memory outside the status area without defined contents (log
entry 3). It is the pin's own level that holds the part in pin reset: while nRST is low it stays there until PIN_RESET
(R176, log entry 21). -/
def State.powerOn (s : State) (i : InputLevels) : State :=
  { State.reset with
    mem := []
    siu := siuAfterReset i 0
    csm := { State.reset.csm with vsense := s.csm.vsense }
    port := { miso := [], used := s.port.used, nextReg := none }
    nrstLow := s.nrstLow
    pending := s.pending }

/-- POWER_ON_RESET (R157). -/
def execPowerOnReset (i : InputLevels) (s : State) : Answer := .next (s.powerOn i).initStatusArea

/-- A pin reset as nRST is released: as a power-on reset, but DT with the schedules on it and the rest of cue memory are
kept (R157). -/
def State.pinRelease (s : State) (i : InputLevels) : State :=
  { State.reset with
    mem := s.mem
    scu := { State.reset.scu with dt := s.scu.dt }
    chans := Vector.ofFn fun n => { Channel.atPowerOn with heatDue := (s.chan n).heatDue }
    siu := siuAfterReset i s.scu.dt
    csm := { State.reset.csm with vsense := s.csm.vsense }
    rot := { State.reset.rot with rateDue := s.rot.rateDue }
    port := { miso := [], used := s.port.used, nextReg := none }
    sched := s.sched
    pending := s.pending }

/-- PIN_RESET (R157). -/
def execPinReset (i : InputLevels) (s : State) : Answer := .next (s.pinRelease i).initStatusArea

/-- NRST_ASSERTION: the part is held in reset, with every output off and MISO at high impedance, and a transaction in
progress is discarded (R170, R176). -/
def execNrstAssertion (s : State) : Answer :=
  .next ((s.setNrstLow true).setPort { s.port with miso := [], nextReg := none })

/-! ### PERF_RESET (R156) -/

/-- The µs of full drive a channel has had since its grant, in DRIVE or ENGAGE (R106, R108). -/
def Channel.drivenSince (c : Channel) (dt : DevTime) : Nat :=
  match c.state with
  | .drive =>
    match c.stroke with
    | some k => driven k.grantDt dt
    | none => 0
  | .engage =>
    match c.engage with
    | some g => driven g.grantDt dt
    | none => 0
  | .off => 0
  | .idle => 0
  | .flight => 0
  | .recover => 0
  | .cooldown => 0
  | .faulted => 0
  | .released => 0
  | .held => 0

/-- A channel after PERF_RESET: OFF with nothing in flight; heat, trim and counts kept, with the heat of a pulse cut here
(R82, R106, R108). -/
def State.chanAfterPerfReset (s : State) (n : ChanId) : Channel :=
  let c := s.chan n
  { c with
    state := .off, stroke := none, engage := none, holdWanted := false, standing := false
    recoveryEnd := 0, heldSince := 0
    heat := if s.rehearsal then c.heat else heatAfterPulse c.heat (c.drivenSince s.scu.dt) (s.ccfg n).gain }

/-- The part after PERF_RESET, but for the registers and the snapshot (R156, Table 8-4). The map staging buffer, of which
R48 and R156 say nothing, keeps what it holds (DESIGN CHOICE, log entry 33). -/
def State.perfCleared (s : State) : State :=
  { s with
    scu := { Scu.atPowerOn with dt := s.scu.dt }
    reader := Reader.atReset
    passes := []
    fq := []
    slots := 0
    chans := Vector.ofFn s.chanAfterPerfReset
    siu := s.siu.restart s.scu.dt
    rot := { Rotor.atPowerOn with rateDue := s.rot.rateDue }
    perf := { s.perf with state := .idle, endCause := .none, prior := none, pausedAt := 0, staged := [] } }

/-- PERF_RESET's effect: ATTN_FLAGS becomes 0 and the snapshot is written (R156, R163). -/
def State.perfReset (s : State) : State :=
  let s := s.perfCleared
  (s.setRegs { s.regs with flags := 0 }).writeLineA.writeLineB.writeLineC

/-- PERF_RESET is ACCEPTED in every performance state (R156). -/
def execPerfReset (s : State) : Answer := onControl 9 (fun _ => .accepted) State.perfReset s

end Sys2Proof.Machine
end

