-- ==== Sys2Proof/Machine/Outputs.lean ====
section
/-! DEFINITION. The output pins as the state gives them (R111, R119, R132, R140, R169, R176). -/
namespace Sys2Proof.Machine
open Sys2Proof

/-- The performance states that hold every drive output and rotor phase off (R140). -/
def PerfState.silent : PerfState → Bool
  | .idle => true
  | .ended => true
  | .frozen => true
  | .loading => false
  | .running => false
  | .holding => false
  | .paused => false
  | .draining => false

/-- A channel's drive by its state: on in DRIVE and ENGAGE, the PWM of the hold duty in HELD, off otherwise (R111,
R140). -/
def State.driveLevel (s : State) (n : ChanId) : Bool :=
  match (s.chan n).state with
  | .drive => true
  | .engage => true
  | .held => decide ((s.scu.dt - (s.chan n).heldSince).toNat % 256 < (s.ccfg n).holdDuty)
  | .off => false
  | .idle => false
  | .flight => false
  | .recover => false
  | .cooldown => false
  | .faulted => false
  | .released => false

/-- The DRV output of a channel: held off in IDLE, ENDED and FROZEN, in BROWN, while DFLT is asserted, in rehearsal and
while nRST is low (R107, R132, R140, R176). -/
def State.drvOut (s : State) (n : ChanId) : Bool :=
  s.driveLevel n && !s.perf.state.silent && s.csm.level != .brown && !s.siu.dflt && !s.rehearsal && !s.nrstLow

/-- The phases energised by each phase index, PH0 in bit 0 (R119). -/
def phasePattern (phase : BitVec 2) : BitVec 4 :=
  match phase.toNat with
  | 0 => 0b0011
  | 1 => 0b0110
  | 2 => 0b1100
  | _ => 0b1001

/-- PH0 to PH3: the present pattern in RUNNING and PARKING outside BROWN, off otherwise, in rehearsal, in IDLE, ENDED and
FROZEN, and while nRST is low (R119, R124, R140, R176). -/
def State.phOut (s : State) : BitVec 4 :=
  if (s.rot.state = .running ∨ s.rot.state = .parking) ∧ s.csm.level ≠ .brown ∧ s.rehearsal = false
      ∧ s.perf.state.silent = false ∧ s.nrstLow = false then phasePattern s.rot.phase
  else 0

/-- SYNCO (R16, R176). -/
def State.syncoOut (s : State) : Bool := s.scu.synco.isSome && !s.nrstLow

/-- The ATTN pin: driven low when asserted, at high impedance otherwise and while nRST is low (R174, R176). -/
def State.attnDrivenLow (s : State) : Bool := s.attnAsserted && !s.nrstLow

/-- MISO is at high impedance while nRST is low (R170, R176). -/
def State.misoHighImpedance (s : State) : Bool := s.nrstLow

end Sys2Proof.Machine
end

