-- ==== Sys2Proof/Machine/Supply.lean ====
section
/-! DEFINITION. The coil supply monitor and the 1 ms housekeeping event (R1, R39, R136 to R139), and the report event
(R164). -/
namespace Sys2Proof.Machine
open Sys2Proof

/-- The reading of a voltage in µV: floor(256 × V / 2.50), above 255 taken as 255 (R176). -/
def vsenseReading (microvolts : Nat) : Nat := min 255 (256 * microvolts / 2500000)

/-- The level after a sample, by the first row of R138 that applies. -/
def nextLevel (g : GlobalConfig) (level : SupplyLevel) (r : Nat) : SupplyLevel :=
  match level with
  | .normal => if r ≤ g.brownOn then .brown else if r ≤ g.sagOn then .sag else .normal
  | .sag => if r ≤ g.brownOn then .brown else if g.sagOff ≤ r then .normal else .sag
  | .brown => if g.brownOff ≤ r then .sag else .brown

/-- BROWN is taken by the DAR, the SCT and the ROT (R77, R88, R115, R124): the waiting entries, then the STRIKE channels and then the HOLD
channels, each from channel 0 on, an order that shows only in a shared result area (DESIGN CHOICE, log entry 42). -/
def State.takeBrown (s : State) : State :=
  let s := s.dropWaiting.forChans fun n s => s.truncatePulse n
  (s.forChans State.brownHold).rotorBrown

/-- A new level is taken: each block acts, and SUPPLY is set (R138, R139). As BROWN ends, the channels ask for their
re-engages from channel 0 on, so where the queue has too little room the later ones stand (DESIGN CHOICE, log entry 35). -/
def State.changeLevel (s : State) (new : SupplyLevel) : State :=
  let old := s.csm.level
  let s := s.setCsm { s.csm with level := new }
  let s :=
    match new with
    | .brown => s.takeBrown
    | .normal => s.grantTest
    | .sag => if old = SupplyLevel.brown then s.forChans State.reengageAfterBrown else s
  s.setFlag .supply

/-- One sample of VSENSE (R136). While no thresholds are latched the level stays NORMAL (R137). -/
def State.sampleSupply (s : State) (microvolts : Nat) : State :=
  let r := vsenseReading microvolts
  let s := s.setCsm { s.csm with vsense := microvolts, reading := BitVec.ofNat 8 r }
  match s.perf.latch with
  | some l =>
    if nextLevel l.global s.csm.level r = s.csm.level then s
    else s.changeLevel (nextLevel l.global s.csm.level r)
  | none => s

def housekeepingDue (s : State) : Bool := reached s.scu.dt s.sched.houseDue

/-- What the housekeeping event does: VSENSE sampled and judged, a WAIT link polled, snapshot line B written (R39,
R136, R163). -/
def State.housekeeping (s : State) (microvolts : Nat) : State := (s.sampleSupply microvolts).pollLink.writeLineB

/-- HOUSEKEEPING_EVENT (R1). The schedule runs on DT through a reset too. -/
def execHousekeepingEvent (microvolts : Nat) (s : State) : Answer :=
  if housekeepingDue s then
    let t := s.setSched { s.sched with houseDue := s.sched.houseDue + 1000 }
    if s.nrstLow then .next t else .next (publish s (t.housekeeping microvolts))
  else .next s

def reportEventDue (s : State) : Bool := reached s.scu.dt s.sched.reportDue

/-- All 32 lines of the channel report table are written (R164). -/
def State.reportAll (s : State) : State := allReportLines.foldl State.writeReport s

/-- REPORT_EVENT (R164). The schedule runs on DT through a reset too. -/
def execReportEvent (s : State) : Answer :=
  if reportEventDue s then
    let t := s.setSched { s.sched with reportDue := s.sched.reportDue + 100000 }
    if s.nrstLow then .next t else .next t.reportAll
  else .next s

end Sys2Proof.Machine
end

