-- ==== Sys2Proof/Machine/Time.lean ====
section
/-! DEFINITION. What the part does when no command waits: the events that are due, one at a time, and otherwise the
passing of one microsecond (R1, R2, R18; log entry 8). -/
namespace Sys2Proof.Machine
open Sys2Proof

/-- An event of the part is due: the same test its meaning makes. Commands of the host, samples that show a change, and
resets come from outside and are never due by themselves. -/
def isDue (s : State) (i : Instr) : Bool :=
  match i with
  | .start => false
  | .pause => false
  | .resume => false
  | .stop => false
  | .cont => false
  | .clear => false
  | .clearChannel _ => false
  | .lockConfig => false
  | .perfReset => false
  | .unknownCommand _ => false
  | .attnFlagsWrite _ => false
  | .attnEnableWrite _ => false
  | .statusWriteIgnored _ => false
  | .memRead _ _ => false
  | .memWrite _ _ => false
  | .regRead _ _ => false
  | .unknownInstruction _ _ => false
  | .powerOnReset _ => false
  | .pinReset _ => false
  | .nrstAssertion => false
  | .quietQualifierChange _ _ => false
  | .dfltDeassertion => false
  | .lineTransition _ => false
  | .housekeepingEvent _ => housekeepingDue s
  | .heatEvent n => heatEventDue n s
  | .reportEvent => reportEventDue s
  | .rotorRateEvent => rateEventDue s
  | .rotorStep => !s.nrstLow && rotorStepDue s
  | .syncoPulseEnd => !s.nrstLow && syncoPulseEndDue s
  | .tickBoundary => !s.nrstLow && tickBoundaryDue s
  | .holdpointTimeout => !s.nrstLow && holdpointTimeoutDue s
  | .syncLoss => !s.nrstLow && syncLossDue s
  | .syncPulse => !s.nrstLow && edgeDue .synci s
  | .cueiEdge => !s.nrstLow && edgeDue .cuei s
  | .homeEdge => !s.nrstLow && edgeDue .home s
  | .contactAccepted n => !s.nrstLow && edgeDue (.sns n) s
  | .synthesisedContact n => !s.nrstLow && synthesisedContactDue n s
  | .filterQualificationAbandoned l => !s.nrstLow && abandonDue l s
  | .quietRequest => !s.nrstLow && quietRequestDue s
  | .dfltAssertion => !s.nrstLow && s.siu.dflt && !s.siu.dfltSeen
  | .loadingComplete => !s.nrstLow && loadingCompleteDue s && s.readsDone
  | .horizonPassed => !s.nrstLow && horizonPassedDue s
  | .stallReleased => !s.nrstLow && s.reader.state == .stalled && stallReleasedDue s
  | .standingReengagePlaced n => !s.nrstLow && standingReengageDue n s
  | .fireTimeArrival => !s.nrstLow && fireTimeArrivalDue s
  | .skewExpiry => !s.nrstLow && skewExpiryDue s
  | .pulseEnd n => !s.nrstLow && pulseEndDue n s
  | .engageEnd n => !s.nrstLow && engageEndDue n s
  | .windowSettle n => !s.nrstLow && windowSettleDue n s
  | .recoveryEnd n => !s.nrstLow && recoveryEndDue n s
  | .drainComplete => !s.nrstLow && drainCompleteDue s
  | .drainPark => !s.nrstLow && drainParkDue s
  | .returnEdgeAccepted l => !s.nrstLow && returnEdgeDue l s

/-- The events of one filtered line. -/
def lineEvents (l : InLine) (accepted : Instr) : List Instr :=
  [accepted, .returnEdgeAccepted l, .filterQualificationAbandoned l]

/-- The events of one channel. A contact is looked at before the window settle of the same DT, and a pulse end before
the heat event: the spec lets either come first. -/
def chanEvents (n : ChanId) : List Instr :=
  [.pulseEnd n, .synthesisedContact n, .engageEnd n, .windowSettle n, .recoveryEnd n, .heatEvent n,
   .standingReengagePlaced n]

/-- The events the part can take by itself, in the order in which they are looked at. Where several are due at one DT the
spec allows either order; this one is the model's (log entry 8). -/
def candidates (s : State) : List Instr :=
  [.dfltAssertion, .quietRequest, .housekeepingEvent s.csm.vsense, .loadingComplete]
  ++ allChans.flatMap (fun n => lineEvents (.sns n) (.contactAccepted n))
  ++ lineEvents .synci .syncPulse ++ lineEvents .cuei .cueiEdge ++ lineEvents .home .homeEdge
  ++ allChans.flatMap chanEvents
  ++ [.rotorStep, .rotorRateEvent, .syncoPulseEnd, .syncLoss, .tickBoundary, .holdpointTimeout, .fireTimeArrival,
      .skewExpiry, .horizonPassed, .stallReleased, .drainPark, .drainComplete, .reportEvent]

/-- The event the part takes next at the present DT. -/
def dueEvent (s : State) : Option Instr := (candidates s).find? (isDue s)

/-- PT advances: the performance is RUNNING, HOLDING or DRAINING (R2), and the part is not held in reset. -/
def State.ptRuns (s : State) : Bool := s.perf.state.advances && !s.nrstLow

/-- LOADING is under way and has a line still to read. -/
def State.readsOn (s : State) : Bool := s.perf.state == .loading && !s.nrstLow && !s.readsDone

/-- One microsecond passes: DT advances by one (R1), PT by 16 where it runs (R2), and with PT the loss timer in RUNNING
and DRAINING (R18). A LOADING reads its next line: the spec gives its reads no times, and a line in a microsecond is the
model's (R144, log entry 9). -/
def tick (s : State) : State :=
  let s := if s.readsOn then s.loadLine else s
  s.setScu { s.scu with
    dt := s.scu.dt + 1
    pt := if s.ptRuns then s.scu.pt + 16 else s.scu.pt
    lossElapsed := if s.ptRuns && s.perf.state.scores then s.scu.lossElapsed.map (· + 16) else s.scu.lossElapsed }

/-- The reader rested in READING at an entry it can go on with (log entry 7). -/
def State.restsReading (s : State) : Bool := !s.nrstLow && s.reader.state == .reading && stallReleasedDue s

/-- What the part does while no command waits: the next event that is due, run as the command of its row; with none due a
microsecond passes, after which a reader that rested in READING goes on. -/
def idle (run : Instr → State → Answer) (s : State) : Answer :=
  match dueEvent s with
  | some e => run e s
  | none => if s.restsReading then run .stallReleased (tick s) else .next (tick s)

end Sys2Proof.Machine
end

