-- ==== Sys2Proof/Machine/Dispatch.lean ====
section
/-! DEFINITION. One arm per command: each calls its meaning. -/
namespace Sys2Proof.Machine
open Sys2Proof

def exec (i : Instr) (s : State) : Host.Outcome State Fault Refusal :=
  match i with
  | .start => Sys2Proof.Machine.execStart s
  | .pause => Sys2Proof.Machine.execPause s
  | .resume => Sys2Proof.Machine.execResume s
  | .stop => Sys2Proof.Machine.execStop s
  | .cont => Sys2Proof.Machine.execContinue s
  | .clear => Sys2Proof.Machine.execClear s
  | .clearChannel n => Sys2Proof.Machine.execClearChannel n s
  | .lockConfig => Sys2Proof.Machine.execLockConfig s
  | .perfReset => Sys2Proof.Machine.execPerfReset s
  | .unknownCommand code => Sys2Proof.Machine.execUnknownCommand code s
  | .attnFlagsWrite value => Sys2Proof.Machine.execAttnFlagsWrite value s
  | .attnEnableWrite value => Sys2Proof.Machine.execAttnEnableWrite value s
  | .statusWriteIgnored w => Sys2Proof.Machine.execStatusWriteIgnored w s
  | .memRead addr len => Sys2Proof.Machine.execMemRead addr len s
  | .memWrite addr data => Sys2Proof.Machine.execMemWrite addr data s
  | .regRead index len => Sys2Proof.Machine.execRegRead index len s
  | .unknownInstruction code len => Sys2Proof.Machine.execUnknownInstruction code len s
  | .powerOnReset inputs => Sys2Proof.Machine.execPowerOnReset inputs s
  | .pinReset inputs => Sys2Proof.Machine.execPinReset inputs s
  | .housekeepingEvent vsense => Sys2Proof.Machine.execHousekeepingEvent vsense s
  | .heatEvent n => Sys2Proof.Machine.execHeatEvent n s
  | .reportEvent => Sys2Proof.Machine.execReportEvent s
  | .rotorRateEvent => Sys2Proof.Machine.execRotorRateEvent s
  | .rotorStep => Sys2Proof.Machine.execRotorStep s
  | .syncoPulseEnd => Sys2Proof.Machine.execSyncoPulseEnd s
  | .tickBoundary => Sys2Proof.Machine.execTickBoundary s
  | .holdpointTimeout => Sys2Proof.Machine.execHoldpointTimeout s
  | .syncLoss => Sys2Proof.Machine.execSyncLoss s
  | .syncPulse => Sys2Proof.Machine.execSyncPulse s
  | .cueiEdge => Sys2Proof.Machine.execCueiEdge s
  | .homeEdge => Sys2Proof.Machine.execHomeEdge s
  | .contactAccepted n => Sys2Proof.Machine.execContactAccepted n s
  | .synthesisedContact n => Sys2Proof.Machine.execSynthesisedContact n s
  | .filterQualificationAbandoned line => Sys2Proof.Machine.execFilterQualificationAbandoned line s
  | .quietQualifierChange stopA stopB => Sys2Proof.Machine.execQuietQualifierChange stopA stopB s
  | .quietRequest => Sys2Proof.Machine.execQuietRequest s
  | .dfltAssertion => Sys2Proof.Machine.execDfltAssertion s
  | .dfltDeassertion => Sys2Proof.Machine.execDfltDeassertion s
  | .loadingComplete => Sys2Proof.Machine.execLoadingComplete s
  | .horizonPassed => Sys2Proof.Machine.execHorizonPassed s
  | .stallReleased => Sys2Proof.Machine.execStallReleased s
  | .standingReengagePlaced n => Sys2Proof.Machine.execStandingReengagePlaced n s
  | .fireTimeArrival => Sys2Proof.Machine.execFireTimeArrival s
  | .skewExpiry => Sys2Proof.Machine.execSkewExpiry s
  | .pulseEnd n => Sys2Proof.Machine.execPulseEnd n s
  | .engageEnd n => Sys2Proof.Machine.execEngageEnd n s
  | .windowSettle n => Sys2Proof.Machine.execWindowSettle n s
  | .recoveryEnd n => Sys2Proof.Machine.execRecoveryEnd n s
  | .drainComplete => Sys2Proof.Machine.execDrainComplete s
  | .drainPark => Sys2Proof.Machine.execDrainPark s
  | .nrstAssertion => Sys2Proof.Machine.execNrstAssertion s
  | .lineTransition line => Sys2Proof.Machine.execLineTransition line s
  | .returnEdgeAccepted line => Sys2Proof.Machine.execReturnEdgeAccepted line s

end Sys2Proof.Machine
end

