-- ==== Sys2Proof/Machine/Step.lean ====
section
/-! DEFINITION. One step of the part, and the placing of a command in front of its queue. -/
namespace Sys2Proof.Machine
open Sys2Proof

/-- Take the command at the front of the queue; with none waiting, the part goes on by itself (log entry 8). -/
def step (s : State) : Host.Outcome State Fault Refusal :=
  match s.pending with
  | c :: rest => exec c { s with pending := rest }
  | [] => idle exec s

/-- The host carries out one SPI transaction: the commands its bytes spell join the queue (R170). -/
def State.hostSends (s : State) (mosi : List Byte) : State :=
  { s with pending := s.pending ++ decodeTransaction mosi }

/-- The state with the command a table word spells at the front of its queue; unchanged where the word spells none. No row
of the table has bits, so none does (log entry 2). -/
def State.withFetchWord (s : State) (nbits w : Nat) : State :=
  match decodeTableWord nbits w with
  | some c => { s with pending := c :: s.pending }
  | none => s

end Sys2Proof.Machine
end

