-- ==== Sys2Proof/Safety.lean ====
section
/-! DEFINITION. What counts as a safe state and a safe step, in the terms the statements use: the bytes of cue memory a
step may write, the references the part holds into block space, the ranges of counts, and the drive slots. -/
namespace Sys2Proof.Machine
open Sys2Proof

/-! ### Cue memory -/

/-- The bytes a step's own publication can write: snapshot lines A and C and the channel report table (R163, R164). -/
abbrev published (a : Nat) : Prop := (0x10 ≤ a ∧ a < 0x20) ∨ (0x30 ≤ a ∧ a < 0x40) ∨ (0x540 ≤ a ∧ a < 0x740)

/-- The fault record (Table 10-2). -/
abbrev faultBytes (a : Nat) : Prop := 0x40 ≤ a ∧ a < 0x80

/-- The part-owned lines at the bottom of cue memory and the channel report table (R172). -/
abbrev statusArea (a : Nat) : Prop := a < 0x100 ∨ (0x540 ≤ a ∧ a < 0x740)

/-- The result area of a cue (R158). -/
abbrev resultArea (l : CueLoc) (a : Nat) : Prop := cueAddr l + 8 ≤ a ∧ a < cueAddr l + 16

/-- The result area of a cue whose entry stands in the fire queue. -/
def queuedResult (s : State) (a : Nat) : Prop := ∃ e ∈ s.fq, ∃ c, e.work.cue = some c ∧ resultArea c.loc a

/-- The result area of a cue of the tempo agenda. -/
def agendaResult (s : State) (a : Nat) : Prop := ∃ e ∈ s.scu.agenda, resultArea e.cue.loc a

/-- The result area of the cue of a channel's in-flight stroke or engage. -/
def channelResult (s : State) (n : ChanId) (a : Nat) : Prop :=
  (∃ k, (s.chan n).stroke = some k ∧ resultArea k.cue.loc a) ∨
  (∃ g c, (s.chan n).engage = some g ∧ g.cue = some c ∧ resultArea c.loc a)

/-- The result area of the ROTOR cue the rotor owes a result. -/
def rotorResultArea (s : State) (a : Nat) : Prop := ∃ l, s.rot.owed = some l ∧ resultArea l a

/-- The completion count of an open pass's block (R38). -/
def passCount (s : State) (a : Nat) : Prop := ∃ p ∈ s.passes, a = p.block.toNat + 3

/-- Every byte outside those named reads as before. -/
def sameOutside (s t : State) (w : Nat → Prop) : Prop := ∀ a, ¬w a → Memory.read t.mem a = Memory.read s.mem a

/-- In block space, the bytes of a block that the part writes: the completion count and the result areas of the 15 cues
(chapter 2.2). -/
abbrev partByteOfBlock (a : Nat) : Prop := 0x1000 ≤ a ∧ (a % 256 = 3 ∨ (16 ≤ a % 256 ∧ 8 ≤ a % 16))

/-- The snapshot lines A and C show the state (R162, R163). -/
abbrev State.snapshotShows (s : State) : Prop :=
  Memory.readBytes s.mem 0x10 16 = s.lineA ∧ Memory.readBytes s.mem 0x30 16 = s.lineC

/-- The channel report table shows every channel but for its heat, which may be up to 100 ms old (R164). -/
abbrev State.tableShows (s : State) : Prop :=
  ∀ (n : ChanId) (j : Fin 8), j.val ≠ 2 → j.val ≠ 3 →
    Memory.read s.mem (0x540 + 8 * n.val + j.val) = byteAt (s.chan n).report j.val

/-- The identity line holds what the host reads first (R161, Table 10-10). -/
abbrev identityShows (m : Memory) : Prop := Memory.readBytes m 0 7 = [0x4E, 0x4F, 0x08, 0x19, 0x01, 0x40, 0x40]

/-- The status area as a power-on or a pin reset leaves it: the identity line, the snapshot lines as the state stands, the fault
record EMPTY and every channel report entry OFF with all else 0 (R157, R161, R163, R165). -/
abbrev State.statusAreaFresh (s : State) : Prop :=
  identityShows s.mem ∧ Memory.readBytes s.mem 0x10 16 = s.lineA ∧ Memory.readBytes s.mem 0x20 16 = s.lineB ∧
  Memory.readBytes s.mem 0x30 16 = s.lineC ∧ Memory.readBytes s.mem 0x40 64 = List.replicate 64 0 ∧
  Memory.readBytes s.mem 0x540 512 = List.replicate 512 0

/-- The inputs after a reset whose first sample shows these levels at this DT: every filter settled with no qualification, the
quiet qualifier OPEN or QUALIFYING from now, and DFLT not yet taken (R127, R130, R133). -/
abbrev Siu.settledAt (x : Siu) (i : InputLevels) (dt : DevTime) : Prop :=
  (∀ n : ChanId, x.sns[n] = { settled := i.sns.getLsb n, qual := none }) ∧
  x.synci = { settled := i.synci, qual := none } ∧ x.cuei = { settled := i.cuei, qual := none } ∧
  x.home = { settled := i.home, qual := none } ∧ x.stopA = i.stopA ∧ x.stopB = i.stopB ∧
  x.quiet = (if i.stopA = true ∧ i.stopB = false then .qualifying dt else .opened) ∧
  x.dflt = i.dflt ∧ x.dfltSeen = false

/-! ### References into block space -/

/-- A cue location names one of the 15 slots of a valid block address (R23, Table 10-4). -/
abbrev CueLoc.inBlock (l : CueLoc) : Prop := validBlockAddr l.block = true ∧ l.slot < 15

/-- The reader stands in a block it may read cues of: a valid block with a cue count of 0 to 15 (R23, R24). -/
abbrev Reader.inBlock (r : Reader) : Prop :=
  (r.pass.isSome = true → validBlockAddr r.block = true ∧ r.count ≤ 15) ∧
  (∀ c, r.pending = .cue c → r.pass.isSome = true ∧ r.slot < 15) ∧
  (r.state = .held → r.pass.isSome = true)

/-- Every block and cue the part refers to is one of block space. -/
structure State.refsInBlocks (s : State) : Prop where
  passes : ∀ p ∈ s.passes, validBlockAddr p.block = true
  queue  : ∀ e ∈ s.fq, ∀ c ∈ e.work.cue, c.loc.inBlock
  agenda : ∀ e ∈ s.scu.agenda, e.cue.loc.inBlock
  stroke : ∀ n, ∀ k ∈ (s.chan n).stroke, k.cue.loc.inBlock
  engage : ∀ n, ∀ g ∈ (s.chan n).engage, ∀ c ∈ g.cue, c.loc.inBlock
  rotor  : ∀ l ∈ s.rot.owed, l.inBlock
  reader : s.reader.inBlock

/-! ### Ranges -/

/-- The four collections hold no more than their sizes: fire queue 96, open block table 8, tempo agenda 4, loop stack 4
(R62, R36, R8, R34). -/
structure State.fits (s : State) : Prop where
  queue  : s.fq.length ≤ 96
  passes : s.passes.length ≤ 8
  agenda : s.scu.agenda.length ≤ 4
  stack  : s.reader.stack.length ≤ 4

/-- A channel's dynamic fields are in their ranges: heat, trim, and the miss, stray and hit counts (R82). -/
abbrev Channel.inRange (c : Channel) : Prop :=
  c.heat ≤ 65535 ∧ (-2000 ≤ c.trim ∧ c.trim ≤ 2000) ∧ c.misses ≤ 15 ∧ c.strays ≤ 255 ∧ c.hits ≤ 65535

/-- A latched configuration has every initial trim in its range (R52, R81). -/
abbrev State.trimsLatched (s : State) : Prop :=
  ∀ n, -2000 ≤ (s.ccfg n).initialTrim ∧ (s.ccfg n).initialTrim ≤ 2000

/-- A value that may become a period lies within 1,600 to 1,048,575 su (R5). -/
abbrev isPeriod (p : Nat) : Prop := 1600 ≤ p ∧ p ≤ 1048575

/-- A ramp runs between periods over at least one tick. -/
abbrev Ramp.ok (r : Ramp) : Prop := isPeriod r.start ∧ isPeriod r.target ∧ 0 < r.len

/-- A TEMPO entry's target is a period. -/
def AgendaEntry.targetOk (e : AgendaEntry) : Bool :=
  match e.body with
  | .tempo t _ => decide (isPeriod t)
  | .holdpoint .. => true

/-- The tick period, and everything that may become it, lies in the range of periods (R5). -/
structure State.periodsOk (s : State) : Prop where
  period  : isPeriod s.scu.period
  base    : isPeriod s.scu.tempo.base
  ramp    : ∀ r ∈ s.scu.tempo.ramp, r.ok
  agenda  : ∀ e ∈ s.scu.agenda, e.targetOk = true
  initial : isPeriod s.global.initialPeriod

/-! ### Resting states and holdpoints -/

/-- The performance states in which nothing is in flight (R143, R153, Table 7-2). -/
def PerfState.resting : PerfState → Bool
  | .idle => true
  | .loading => true
  | .ended => true
  | .frozen => true
  | .running => false
  | .holding => false
  | .paused => false
  | .draining => false

/-- An agenda entry is a holdpoint. -/
def AgendaEntry.isHoldpoint (e : AgendaEntry) : Bool :=
  match e.body with
  | .tempo .. => false
  | .holdpoint .. => true

/-- A holdpoint waits in the agenda. -/
def State.holdpointWaits (s : State) : Bool := s.scu.agenda.any AgendaEntry.isHoldpoint

/-- The performance, its memory of a pause and the agenda agree: PAUSED remembers a state in which PT advances (R150), nothing
waits in the agenda in the resting states (R143), a staging copy stands only in LOADING (R144, R146, R147), a holdpoint is
the last entry of the agenda and keeps the reader HELD (R33), so none waits while the performance drains, and in HOLDING one
stands at the head with its tick unscheduled (R12). -/
structure State.scoreOk (s : State) : Prop where
  paused   : s.perf.state = .paused → ∃ x, s.perf.prior = some x ∧ x.advances = true
  rest     : s.perf.state.resting = true → s.scu.agenda = []
  staged   : s.perf.state ≠ .loading → s.perf.staged = []
  reader   : s.holdpointWaits = true → s.reader.state = .held
  last     : ∀ e ∈ s.scu.agenda.dropLast, e.isHoldpoint = false
  draining : s.perf.state = .draining ∨ (s.perf.state = .paused ∧ s.perf.prior = some .draining) → s.holdpointWaits = false
  holding  : s.perf.state = .holding ∨ (s.perf.state = .paused ∧ s.perf.prior = some .holding) →
               s.scu.cond = .unscheduled ∧ ∃ e, s.scu.agenda.head? = some e ∧ e.isHoldpoint = true

/-! ### Tick boundaries and projection -/

/-- The next tick boundary is at PT `start`, before tick `x`: the start of the current tick where that is scheduled, the end of it, before
the tick after it, where it is begun (R6). -/
abbrev State.boundaryAhead (s : State) (start : Int) (x : Tick) : Prop :=
  (s.scu.cond = .scheduled start ∧ x = s.scu.tick) ∨
    (∃ b len, s.scu.cond = .begun b len ∧ start = b + len ∧ x = s.scu.tick + 1)

/-- STARVED is set, with its flag, where the reader waits at a link and the score has reached the tick it is at; once for each stay in
LINK_WAIT (R40). -/
def State.starvedWhere (s : State) (tickReached : Bool) : State :=
  if s.reader.state = .linkWait ∧ s.reader.starved = false ∧ tickReached = true then
    { s with
      reader := { s.reader with starved := true }
      regs := { s.regs with flags := s.regs.flags ||| (1#9 <<< AttnFlag.starved.bit) } }
  else s

/-- What a TEMPO entry applied at tick `x` makes of a tempo: its target is the base period, and with a length a ramp to it begins from the
period tick `x` would have had (R9). -/
def Tempo.taking (x : Tick) (t : Tempo) (e : AgendaEntry) : Tempo :=
  match e.body with
  | .tempo target len =>
    if len = 0 then { base := target, ramp := none }
    else { base := target, ramp := some { first := x, start := t.periodAt x, target := target, len := len } }
  | .holdpoint .. => t

/-- An agenda entry that the boundary before tick `x` applies: a TEMPO entry with that onset tick or an earlier one (R6). -/
def AgendaEntry.appliesAt (x : Tick) (e : AgendaEntry) : Bool := tickUpTo e.onset x && !e.isHoldpoint

/-- The tempo and the agenda that the boundary before tick `x` leaves: an ended ramp is discarded and the TEMPO entries at the head of the
agenda that are due are applied in order (R6, R8, R9). -/
def tempoThrough (x : Tick) (t : Tempo) (agenda : List AgendaEntry) : Tempo × List AgendaEntry :=
  ((agenda.takeWhile (AgendaEntry.appliesAt x)).foldl (Tempo.taking x) (t.discard x),
   agenda.dropWhile (AgendaEntry.appliesAt x))

/-- The tempo and the agenda that govern the tick `k` ticks after `first`, where the boundary before `first` is the next (R11). -/
def tempoAhead (t : Tempo) (agenda : List AgendaEntry) (first : Tick) : Nat → Tempo × List AgendaEntry
  | 0 => tempoThrough first t agenda
  | k + 1 =>
    let r := tempoAhead t agenda first k
    tempoThrough (first + BitVec.ofNat 32 (k + 1)) r.1 r.2

/-- The period projection gives that tick: in FOLLOW the present P, in FREE and LEAD what R8 and R9 give with the agenda applied (R11). -/
def State.periodAhead (s : State) (first : Tick) (k : Nat) : Nat :=
  if s.global.syncMode = .follow then s.scu.period
  else (tempoAhead s.scu.tempo s.scu.agenda first k).1.periodAt (first + BitVec.ofNat 32 k)

/-! ### The fire queue -/

/-- Entry `b` may stand after entry `a`: it does not come before it (R64). -/
abbrev FqEntry.mayFollow (a b : FqEntry) : Prop := b.before a = false

/-- The order of R64 in full: fire time, then onset, then channel, with ROTOR and MARK entries as channel 64. -/
def FqEntry.comesBefore (a b : FqEntry) : Prop :=
  a.fireTime < b.fireTime ∨
  (a.fireTime = b.fireTime ∧ (a.onset < b.onset ∨ (a.onset = b.onset ∧ a.work.chanKey < b.work.chanKey)))

/-- The entries of the fire queue are told apart by their joining numbers, all below the next one. -/
abbrev State.queueNumbered (s : State) : Prop :=
  (s.fq.map FqEntry.seq).Nodup ∧ ∀ e ∈ s.fq, e.seq < s.fqSeq

/-- The fire queue without an entry. -/
abbrev State.queueWithout (s : State) (e : FqEntry) : List FqEntry := s.fq.filter fun x => x.seq != e.seq

/-- The fire queue stands in the order of R64. -/
abbrev fqOrdered (l : List FqEntry) : Prop := l.Pairwise FqEntry.mayFollow

/-! ### Drive -/

/-- A channel in full drive: a STRIKE channel in DRIVE or a HOLD channel in ENGAGE (R71). -/
def Channel.fullDrive (c : Channel) : Bool := c.state == .drive || c.state == .engage

/-- The number of drive outputs in full drive (R71). -/
def State.fullDrive (s : State) : Nat := (allChans.filter fun n => (s.chan n).fullDrive).length

/-- A channel's state is one of its class's (Table 5-1, Table 6-1), a STRIKE channel in DRIVE holds a stroke and a HOLD
channel in ENGAGE an engage. -/
abbrev Channel.fits (cls : ChanClass) (c : Channel) : Prop :=
  (c.state = .idle ∨ c.state = .drive ∨ c.state = .flight ∨ c.state = .recover ∨ c.state = .faulted → cls = .strike) ∧
  (c.state = .released ∨ c.state = .engage ∨ c.state = .held → cls = .hold) ∧
  (c.state = .cooldown → cls = .strike ∨ cls = .hold) ∧
  (c.state = .drive → c.stroke.isSome = true) ∧
  (c.state = .engage → c.engage.isSome = true) ∧
  (c.stroke.isSome = true → cls = .strike) ∧
  (c.engage.isSome = true → cls = .hold) ∧
  (c.standing = true → cls = .hold)

/-- An entry of the fire queue names a channel of its kind's class (R28, R72). -/
def State.suits (s : State) (w : Work) : Prop :=
  match w with
  | .strike w => (s.ccfg w.chan).cls = .strike
  | .restrike w => (s.ccfg w.chan).cls = .strike
  | .engage _ n => (s.ccfg n).cls = .hold
  | .release _ n => (s.ccfg n).cls = .hold
  | .rotor .. => True
  | .mark .. => True

/-- The drive invariant: slots in use are the outputs in full drive and no more than the slot count, every channel is in a
state of its class, and in the resting states nothing is queued, driven, in flight or wanted. -/
structure State.driveOk (s : State) : Prop where
  slots   : s.slots = s.fullDrive
  count   : 1 ≤ s.global.slotCount
  limit   : s.fullDrive ≤ s.global.slotCount
  queue   : ∀ e ∈ s.fq, s.suits e.work
  chans   : ∀ n, (s.chan n).fits (s.ccfg n).cls
  rest    : s.perf.state.resting = true → s.fq = [] ∧ s.fullDrive = 0 ∧ (∀ n, (s.chan n).stroke = none) ∧
              ∀ n, (s.ccfg n).cls = .hold → (s.chan n).holdWanted = false ∧ (s.chan n).standing = false

/-- A channel before and after a grant test: unchanged, or an IDLE channel put into DRIVE with a fresh stroke, or a RELEASED one
into ENGAGE with an engage begun now (R74, R84, R110). -/
abbrev grantedFrom (s : State) (a b : Channel) : Prop :=
  b = a ∨
  (a.state = .idle ∧ b = { a with state := .drive, stroke := b.stroke } ∧
    ∃ k, b.stroke = some k ∧ k.grantDt = s.scu.dt ∧ k.grantPt = s.scu.pt.toNat ∧ k.contact = none ∧ k.resolved = false) ∨
  (a.state = .released ∧ b = { a with state := .engage, engage := b.engage } ∧
    ∃ g, b.engage = some g ∧ g.grantDt = s.scu.dt)

/-- The stroke a grant forms from its entry (R74, R84, R85, R89). -/
abbrev State.freshStroke (s : State) (cue : CueRef) (onset reference : Int) (lead width carried : Nat)
    (restrikeOk second rerouted : Bool) : Stroke :=
  { cue := cue, onset := onset, grantPt := s.scu.pt.toNat, grantDt := s.scu.dt, lead := lead, width := width
    carried := carried, restrikeOk := restrikeOk, second := second, rerouted := rerouted
    fireDelay := min 65535 (Int.tdiv (s.scu.pt.toNat - reference) 16).toNat
    windowOpen := s.scu.dt + BitVec.ofNat 32 lead - BitVec.ofNat 32 s.global.earlyTol
    windowClose := s.scu.dt + BitVec.ofNat 32 lead + BitVec.ofNat 32 s.global.lateTol
    pulseEnd := s.scu.dt + BitVec.ofNat 32 width, contact := none, resolved := false }

/-- A base width boosted in SAG, within the channel's limits (R59). -/
abbrev State.boosted (s : State) (n : ChanId) (base : Nat) : Nat :=
  if s.csm.level = .sag then max 100 (min (s.ccfg n).wMax (base * s.global.sagBoost / 64)) else base

/-- The drop cause code of a channel's state at a skew expiry that finds no channel to fire: HOT in COOLDOWN, FAULTED in FAULTED, BUSY
otherwise (R75). -/
def dropCauseOf (x : ChanState) : Byte :=
  if x = .cooldown then 3 else if x = .faulted then 4 else 1

/-- A channel's pulse of full drive, begun at one DT, has ended at another: its slot is free again and a grant test has been taken, and
outside rehearsal the channel is warmer by floor(d × G / 256), at most 65,535 (R71, R73, R86, R101, R107). -/
def State.pulseOver (s : State) (n : ChanId) (since till : DevTime) : State :=
  let u : State := State.grantTest { s with slots := s.slots - 1 }
  if s.rehearsal then u
  else u.setChan n { u.chan n with
    heat := min 65535 ((u.chan n).heat + (till - since).toNat * (s.ccfg n).gain / 256) }

/-- A hit is recorded on its channel and in its cue: contact and resolution, the hit count, no misses, the learned trim where the stroke
teaches it, and the result with lateness and measured flight (R90, R91, R95). -/
def State.hitRecorded (s : State) (n : ChanId) (k : Stroke) (raw : DevTime) : State :=
  let flight := (raw - k.grantDt).toNat
  let late := max (-32767) (min 32767 (Int.tdiv (s.scu.pt.toNat + 16 * (raw - s.scu.dt).toInt - k.onset) 16))
  let trim :=
    if (s.ccfg n).learnTrim = true ∧ k.second = false ∧ k.rerouted = false ∧ s.rehearsal = false
    then max (-2000) (min 2000 ((s.chan n).trim + Int.tdiv ((flight : Int) - k.lead) 8)) else (s.chan n).trim
  let detail : Byte := (if k.second then 8 else 0) + (if k.rerouted then 16 else 0) + (if s.rehearsal then 32 else 0)
  { s with
    mem := Memory.writeBytes s.mem (cueAddr k.cue.loc + 8)
      ([1, detail] ++ leBytes 2 k.fireDelay ++ leBytes 2 (BitVec.ofInt 16 late).toNat ++ leBytes 2 flight)
    chans := s.chans.set n { s.chan n with
      trim := trim, misses := 0, hits := min 65535 ((s.chan n).hits + 1)
      stroke := some { k with contact := some raw, resolved := true } } }

/-- The later of two device times, by R1. -/
abbrev laterOf (a b : DevTime) : DevTime := if reached a b then a else b

/-- A hit is taken: recorded, and then a channel in FLIGHT recovers from the later of its pulse end and the contact, while a pulse with
cut-off ends at once and recovers from the later of this DT and the contact (R87, R90). -/
def State.hitTaken (s : State) (n : ChanId) (k : Stroke) (raw : DevTime) : State :=
  let u := s.hitRecorded n k raw
  if (s.chan n).state = .flight then u.enterRecover n (laterOf k.pulseEnd raw)
  else if (s.chan n).state = .drive ∧ (s.ccfg n).cutOff = true then
    State.enterRecover ((u.setChan n { u.chan n with
      stroke := some { k with contact := some raw, resolved := true, pulseEnd := s.scu.dt } }).pulseOver n k.grantDt s.scu.dt)
      n (laterOf s.scu.dt raw)
  else u

/-- The performance states in which a freeze has anything to quiet (Table 7-2). -/
abbrev PerfState.plays (x : PerfState) : Prop := x = .running ∨ x = .holding ∨ x = .paused ∨ x = .draining

/-- The rotor after a quiet request or DFLT: STOPPED with nothing scheduled, armed or owed (R124), and, which is the model's reading, without a
command (log entry 18). -/
abbrev Rotor.quieted (r : Rotor) : Rotor :=
  { r with state := .stopped, rate := 0, target := 0, cmd := none, owed := none, search := none, nextStep := none }

/-- What a quiet request or DFLT leaves of a performance that was playing: FROZEN with the cause, nothing queued or in the agenda, reading
ended, no STRIKE channel in drive or with a stroke, no HOLD channel driven, held or wanted, the rotor STOPPED without a command, and every
block's other state as it was (R14, R44, R80, R105, R116, R124, R131, R133, Table 7-2). -/
structure frozenFrom (s t : State) (c : EndCause) : Prop where
  frame  : t = { s with mem := t.mem, scu := t.scu, reader := t.reader, passes := t.passes, fq := [], slots := t.slots
                        chans := t.chans, rot := t.rot, perf := t.perf, regs := t.regs, siu := t.siu }
  perf   : t.perf = { s.perf with state := .frozen, endCause := c, prior := none }
  scu    : t.scu = { s.scu with agenda := [], holdExpiry := none }
  reader : t.reader = if s.reader.state = .finished ∨ s.reader.state = .faulted ∨ s.reader.state = .stopped then s.reader
           else { s.reader with state := .stopped, pending := .none, pass := none }
  strike : ∀ n, (s.ccfg n).cls = .strike → (t.chan n).stroke = none ∧
           (t.chan n).state = (if (s.chan n).state = .drive ∨ (s.chan n).state = .flight then .recover else (s.chan n).state)
  hold   : ∀ n, (s.ccfg n).cls = .hold → (t.chan n).holdWanted = false ∧ (t.chan n).standing = false ∧
           (t.chan n).state = (if (s.chan n).state = .engage ∨ (s.chan n).state = .held then .released else (s.chan n).state)
  unused : ∀ n, (s.ccfg n).cls = .unused → t.chan n = s.chan n
  counts : ∀ n, (t.chan n).trim = (s.chan n).trim ∧ (t.chan n).misses = (s.chan n).misses ∧
           (t.chan n).strays = (s.chan n).strays ∧ (t.chan n).hits = (s.chan n).hits
  rotor  : t.rot = s.rot.quieted
  regs   : t.regs.code = s.regs.code ∧ t.regs.outcome = s.regs.outcome ∧ t.regs.enable = s.regs.enable ∧
           t.flag .frozen = true
  mem    : sameOutside s t (fun a => queuedResult s a ∨ agendaResult s a ∨ rotorResultArea s a ∨ passCount s a ∨
             published a ∨ (∃ n, channelResult s n a) ∨ (c = .driveFault ∧ faultBytes a))

/-! ### What a command leaves in the registers and the port -/

/-- A step that makes its changes, giving `x`, and publishes: nothing else differs, and cue memory differs only in the bytes
of the snapshot lines A and C and the channel report table (R163, R164). -/
abbrev publishes (x t : State) : Prop := t = { x with mem := t.mem } ∧ sameOutside x t published

/-- The port after a register's group of two data bytes: the bytes of the REG_WRITE so far where that has come to the register, and otherwise
STATUS and 0x00 for the index byte; for the two data bytes, bytes the spec states nothing about (log entry 1); and the index at the next
register, 0 after 3 (R170). That a group of the register which a REG_WRITE in progress has come to belongs to that REG_WRITE is how the model
reads a queue (log entry 11). -/
abbrev State.wrotePort (s : State) (r : BitVec 2) : Port :=
  { miso := (if s.port.nextReg = some r then s.port.miso else [s.statusReg.setWidth 8, 0]) ++
      [Config.misoWhileWriting s.port.used, Config.misoWhileWriting (s.port.used + 1)]
    used := s.port.used + 2
    nextReg := some (r + 1) }

/-- CONTROL after an accepted command (R142). -/
abbrev Regs.accepted (r : Regs) (code : Byte) : Regs := { r with code := code, outcome := .accepted }

/-- ATTN_FLAGS with one more flag set (R168). -/
abbrev Regs.withFlag (r : Regs) (f : AttnFlag) : Regs := { r with flags := r.flags ||| (1#9 <<< f.bit) }

/-! ### Commands -/

/-- How CONTROL refuses a command, by Table 8-3: its code and the outcome; none where the command is accepted or is no command. -/
def commandRefusal (s : State) (c : Instr) : Option (Byte × CmdOutcome) :=
  match c with
  | .start => if s.perf.state = .idle ∨ s.perf.state = .ended then none else some (1, .refusedState)
  | .pause =>
    if s.perf.state = .running ∨ s.perf.state = .holding ∨ s.perf.state = .draining then none
    else some (2, .refusedState)
  | .resume => if s.perf.state = .paused then none else some (3, .refusedState)
  | .stop =>
    if s.perf.state = .idle ∨ s.perf.state = .ended ∨ s.perf.state = .frozen then some (4, .refusedState) else none
  | .cont =>
    if s.perf.state ≠ .holding then some (5, .refusedState)
    else
      match s.scu.agenda.head?.map AgendaEntry.body with
      | some (.holdpoint _ true _ _) => none
      | _ => some (5, .refusedArg)
  | .clear =>
    if s.perf.state = .frozen ∧ s.siu.quiet = .opened ∧ s.siu.dflt = false then none else some (6, .refusedState)
  | .clearChannel n =>
    if ∃ c : ChanId, n.toNat = c.val ∧ (s.ccfg c).cls = .strike ∧ (s.chan c).state = .faulted then none
    else some (7, .refusedArg)
  | .lockConfig =>
    if s.perf.state = .idle ∨ s.perf.state = .ended then
      (if s.perf.latch.isSome then none else some (8, .refusedLock))
    else some (8, .refusedState)
  | .unknownCommand code => if isCommandCode code then none else some (code, .refusedArg)
  | _ => none

/-- RESUME's changes before its grant test: the performance is back in a state, the slot waits have moved on by the DT spent in
PAUSED, and the next sync pulse only records its time (R17, R76, R150). -/
def State.resumedTo (s : State) (x : PerfState) : State :=
  { s with
    fq := s.fq.map fun e => { e with wait := e.wait.map (· + (s.scu.dt - s.perf.pausedAt)) }
    perf := { s.perf with state := x, prior := none }
    scu := { s.scu with resumed := true }
    port := s.wrotePort regControl }

/-- A holding holdpoint is released, before its step publishes: RUNNING again, the entry gone from the agenda, its result written and
its end reported, its tick placed by the sync mode and state, and a HELD reader reading on (R13, R33). -/
def State.releasedFrom (s : State) (e : AgendaEntry) (es : List AgendaEntry) (src : ReleaseSource) (delay : Nat) : State :=
  let u : State :=
    { s with
      perf := { s.perf with state := .running }
      scu := { s.scu with
        agenda := es, holdExpiry := none
        cond := if s.global.syncMode = .follow ∧ (s.scu.sync = .locked ∨ s.scu.sync = .acquire) then .unscheduled
                else .scheduled (s.scu.pt.toNat + 16000 * (max delay 40 : Nat)) } }
  let v := u.resolve e.cue ([10, BitVec.ofNat 8 src.code] ++ leBytes 6 (s.scu.pt.toNat / 16))
  if s.reader.state = .held then { v with reader := { v.reader with state := .reading } }.readNext else v

/-- The SYNCI filter has accepted a rising edge (R126). -/
abbrev State.synciSettled (s : State) : State :=
  { s with siu := { s.siu with synci := { settled := true, qual := none } } }

/-- The period regulation gives at a pulse taken at a PT: from a begun tick's length, or from P while the tick is only scheduled
(R18). -/
def State.regulatedPeriod (s : State) (t : Int) : Nat :=
  match s.scu.cond with
  | .begun start len =>
    regulated (t - s.scu.prevPulse.getD t) (phaseError s.scu.tick.toNat len (t - start)) s.scu.period
  | .scheduled start =>
    regulated (t - s.scu.prevPulse.getD t) (phaseError s.scu.tick.toNat s.scu.period (t - start)) s.scu.period
  | .unscheduled => s.scu.period

/-- The pass the reader was in is marked reading-done and the reader is in none (R37). -/
def State.passLeft (s : State) : State :=
  match s.reader.pass with
  | some p => ({ s with reader := { s.reader with pass := none } } : State).markDone p
  | none => s

/-- A new pass of a block is open with nothing outstanding, and the reader is in it at slot 0 (R24, R36). -/
def State.passEntered (s : State) (a : Addr) (count : Nat) (stack : List Frame) : State :=
  { s with
    reader := { s.reader with
      state := .reading, block := a, slot := 0, count := count, pass := some s.passSeq, pending := .none, stack := stack }
    passes := s.passes ++ [{ id := s.passSeq, block := a, outstanding := 0, readingDone := false }]
    passSeq := s.passSeq + 1 }

/-- The reader has read a cue of its block: the cue is pending at the horizon and the reader tick is its onset tick (R26, R27). -/
def State.cueRead (s : State) (slot : Nat) (c : Cue) : State :=
  { s with reader := { s.reader with
      state := .horizon, slot := slot, pending := .cue c, tick := s.reader.tick + c.delta.setWidth 32 } }

/-- The performance drains because the reading has ended (R25, R41, R153). -/
def State.drains (s : State) (c : EndCause) : State := { s with perf := { s.perf with state := .draining, endCause := c } }

/-- A chain fault: the reader is FAULTED and holds nothing, its pass is left, the fault is handed over and the performance drains with
CHAIN_FAULT (R41, R42, R166). -/
def State.chainFaulted (s : State) (d : FaultDetail) (block : Addr) (slot kindByte : Nat) : State :=
  ((State.passLeft { s with reader := { s.reader with state := .faulted, pending := .none } }).handFault
    { kind := .chain, block := block, slot := slot, kindByte := kindByte, readerTick := s.reader.tick
      depth := s.reader.stack.length, detail := d }).drains .chainFault

/-- The link at the end of a pass is acted on as it now stands: END finishes the reading, WAIT waits, NEXT enters the block named, and any
other kind is a chain fault (R25, R39). `fuel` bounds the empty blocks an entry goes through in one step (log entry 7). -/
def State.linkTaken (s : State) (fuel : Nat) : State :=
  match (Memory.read s.mem (s.reader.block.toNat + 4)).toNat with
  | 1 => State.drains (State.passLeft { s with reader := { s.reader with state := .finished, pending := .none } }) .complete
  | 2 => State.starvedTest { s with reader := { s.reader with state := .linkWait, pending := .none, starved := false } }
  | 3 => s.enterBlock (BitVec.ofNat 16 (leNat (Memory.readBytes s.mem (s.reader.block.toNat + 6) 2))) .link fuel
  | _ => s.chainFaulted .badLinkKind s.reader.block 15 0

/-- The work an admitted STRIKE, HOLD, ROTOR or MARK cue places joins the fire queue with the cue's onset and a fire time, and the
reader goes on (R30, R31, R65). -/
def State.cueQueued (s : State) (w : Work) (onset fireTime : Int) : State := (s.fqJoin w onset fireTime).readNext

/-- The work an admitted TEMPO or HOLDPOINT cue places joins the tail of the agenda and counts against its pass (R8, R36). -/
def State.agendaJoined (s : State) (b : AgendaBody) : State :=
  State.addItem { s with scu := { s.scu with
    agenda := s.scu.agenda ++ [{ onset := s.reader.tick, cue := s.cueRef, body := b }] } } s.cueRef.pass

/-- The moves of the performance state, the table "Performance state transitions" after R154 with the moves that table leaves to the rules
it cites (R12, R13, R25, R41, R143, R146, R147, R149 to R154, R156, R157): which command may take the state from one value to another. -/
def perfArrow (c : Instr) (x y : PerfState) : Bool :=
  match c, x, y with
  | .perfReset, _, .idle => true
  | .powerOnReset _, _, .idle => true
  | .pinReset _, _, .idle => true
  | .start, .idle, .loading => true
  | .start, .ended, .loading => true
  | .loadingComplete, .loading, .running => true
  | .loadingComplete, .loading, .draining => true
  | .loadingComplete, .loading, .ended => true
  | .stop, .loading, .ended => true
  | .stop, .running, .draining => true
  | .stop, .holding, .draining => true
  | .stop, .running, .ended => true
  | .stop, .holding, .ended => true
  | .stop, .draining, .ended => true
  | .pause, .running, .paused => true
  | .pause, .holding, .paused => true
  | .pause, .draining, .paused => true
  | .resume, .paused, .running => true
  | .resume, .paused, .holding => true
  | .resume, .paused, .draining => true
  | .resume, .paused, .ended => true
  | .tickBoundary, .running, .holding => true
  | .cont, .holding, .running => true
  | .cont, .holding, .draining => true
  | .cueiEdge, .holding, .running => true
  | .cueiEdge, .holding, .draining => true
  | .holdpointTimeout, .holding, .running => true
  | .holdpointTimeout, .holding, .draining => true
  | .housekeepingEvent _, .running, .draining => true
  | .horizonPassed, .running, .draining => true
  | .stallReleased, .running, .draining => true
  | .drainComplete, .draining, .ended => true
  | .quietRequest, _, .frozen => true
  | .dfltAssertion, _, .frozen => true
  | .clear, .frozen, .ended => true
  | _, _, _ => false

/-- The events that happen inside the part, each when it is due; the samples of the inputs are not among them, nor is STALL_RELEASED, which
also goes on with a reader at rest in READING (log entry 7), nor LOADING_COMPLETE, which as a command also makes the reads still to come (log
entry 9). -/
def isOwnEvent : Instr → Bool
  | .housekeepingEvent _ => true
  | .heatEvent _ => true
  | .reportEvent => true
  | .rotorRateEvent => true
  | .rotorStep => true
  | .syncoPulseEnd => true
  | .tickBoundary => true
  | .holdpointTimeout => true
  | .syncLoss => true
  | .syncPulse => true
  | .cueiEdge => true
  | .homeEdge => true
  | .contactAccepted _ => true
  | .synthesisedContact _ => true
  | .filterQualificationAbandoned _ => true
  | .quietRequest => true
  | .horizonPassed => true
  | .standingReengagePlaced _ => true
  | .fireTimeArrival => true
  | .skewExpiry => true
  | .pulseEnd _ => true
  | .engageEnd _ => true
  | .windowSettle _ => true
  | .recoveryEnd _ => true
  | .drainComplete => true
  | .drainPark => true
  | .returnEdgeAccepted _ => true
  | _ => false

/-- A power-on reset or a pin reset. -/
def isFullReset : Instr → Bool
  | .powerOnReset _ => true
  | .pinReset _ => true
  | _ => false

end Sys2Proof.Machine
end

