-- ==== Sys2Proof/Certificates/Slice0/Obligations.lean ====
section
/-! DEFINITION. The statements about the ZC6408 for the provers. -/

open Sys2Proof Sys2Proof.Machine

/-! ### The queue, the idle part and the moves of the performance -/

/-- A step with a command waiting runs the command at the front on the state with the rest of the queue. -/
def Obligations.StepRunsTheFrontCommand : Prop :=
  ∀ (s : State) (c : Instr) (rest : List Instr),
    step { s with pending := c :: rest } = exec c { s with pending := rest }

/-- Every command of a row completes in every state, and leaves the waiting commands alone, and so does every command that a transaction of the
host spells (R170). A term that is no command of its row (a known code in UNKNOWN_COMMAND, a transaction that does come to its data in
UNKNOWN_INSTRUCTION, an index or a length that a write of nothing does not have) is refused as ill-formed: the spec has no such command, and the
refusal is the model's choice (log entry 28). -/
def Obligations.EveryCommandOfTheTableCompletes : Prop :=
  (∀ (c : Instr) (s : State),
    (c.wellFormed = true → ∃ t, exec c s = .next t ∧ t.pending = s.pending) ∧
    (c.wellFormed = false → exec c s = .refused .illFormed)) ∧
  ∀ (mosi : List Byte) (c : Instr), c ∈ decodeTransaction mosi → c.wellFormed = true

/-- With no command waiting the part runs the first of its events that is due as the command of that event; with none due one
microsecond passes: DT by one, PT by 16 su where it runs, and the loss timer with PT while the score runs (R1, R2, R18); and a LOADING under way
reads its next line (R144). That the waiting part moves by itself in this way is the model's choice (log entry 8), and so are the reading of one
line in a microsecond (log entry 9) and that an event of the part that is not due, in a queue of commands, changes nothing (log entry 5). -/
def Obligations.IdlePartRunsADueEventOrLetsTimePass : Prop :=
  (∀ (c : Instr) (s : State), isOwnEvent c = true → isDue s c = false → exec c s = .next s) ∧
  (∀ s : State, s.perf.state ≠ .loading → exec .loadingComplete s = .next s) ∧
  ∀ s : State, s.pending = [] →
    (∀ e, dueEvent s = some e → step s = exec e s) ∧
    (dueEvent s = none → s.reader.state ≠ .reading →
      let u : State := { s with scu := { s.scu with
        dt := s.scu.dt + 1
        pt := if (s.perf.state = .running ∨ s.perf.state = .holding ∨ s.perf.state = .draining) ∧ s.nrstLow = false
              then s.scu.pt + 16 else s.scu.pt
        lossElapsed := if (s.perf.state = .running ∨ s.perf.state = .draining) ∧ s.nrstLow = false
                       then s.scu.lossElapsed.map (· + 16) else s.scu.lossElapsed } }
      (¬(s.perf.state = .loading ∧ s.nrstLow = false ∧ s.perf.staged.length < 325) → step s = .next u) ∧
      (s.perf.state = .loading → s.nrstLow = false → s.perf.staged.length < 325 →
        ∃ staging, step s = .next { u with
          perf := { s.perf with staged := s.perf.staged ++ [s.stagedItem s.perf.staged.length] }, staging := staging }))

/-- No command and no event moves DT, a power-on reset apart, which sets it to 0; none moves PT but the resets and a completed LOADING, which
set it to 0 (R1, R2). The latched configuration changes only when a LOADING completes or the part is reset by pin or power, the lock only by
LOCK_CONFIG or such a reset, the supply level only at a housekeeping event or such a reset, and an active map only by an admitted cue, a LOADING
or such a reset (R48, R137, R141, R148). -/
def Obligations.ClocksAndConfigurationChangeOnlyWhereTheSpecSays : Prop :=
  (∀ (c : Instr) (s t : State), exec c s = .next t →
     (t.scu.dt = s.scu.dt ∨ ((∃ i, c = .powerOnReset i) ∧ t.scu.dt = 0)) ∧
     (t.scu.pt = s.scu.pt ∨ ((c = .loadingComplete ∨ c = .perfReset ∨ isFullReset c = true) ∧ t.scu.pt = 0))) ∧
  (∀ (c : Instr) (s t : State), exec c s = .next t → isFullReset c = false →
     (c ≠ .loadingComplete → t.perf.latch = s.perf.latch) ∧
     (c ≠ .lockConfig → t.perf.lock = s.perf.lock) ∧
     ((∀ v, c ≠ .housekeepingEvent v) → t.csm.level = s.csm.level) ∧
     (c ≠ .loadingComplete → c ≠ .horizonPassed → c ≠ .stallReleased → t.maps = s.maps))

/-- The performance state moves only along the arrows of the table "Performance state transitions" after R154, read with the rules it
cites: a holdpoint is reached and released (R12, R13), an END link, a chain fault or STOP drains (R25, R41, R151), a START loads and a LOADING
ends (R143, R146, R149), PAUSE and RESUME (R150), a drain completes (R153), a freeze and its CLEAR (R154), and the resets (R156, R157). -/
def Obligations.PerformanceMovesOnlyAlongItsArrows : Prop :=
  ∀ (c : Instr) (s t : State), s.scoreOk → exec c s = .next t →
    t.perf.state = s.perf.state ∨ perfArrow c s.perf.state t.perf.state = true

/-! ### Commands written to CONTROL -/

/-- A command that Table 8-3 refuses changes nothing but CONTROL, which records its code and the outcome; a code that is none of the nine is
recorded with REFUSED_ARG in every state (R142). -/
def Obligations.RefusedCommandsChangeControlAlone : Prop :=
  (∀ (c : Instr) (s : State) (code : Byte) (o : CmdOutcome), commandRefusal s c = some (code, o) →
    s.nrstLow = false →
    exec c s = .next { s with port := s.wrotePort regControl, regs := { s.regs with code := code, outcome := o } }) ∧
  (∀ (s : State) (code : Byte), s.nrstLow = false → code = 0 ∨ 9 < code.toNat →
    exec (.unknownCommand code) s =
      .next { s with port := s.wrotePort regControl, regs := { s.regs with code := code, outcome := .refusedArg } })

/-- START in IDLE or ENDED begins LOADING with end cause NONE and nothing read (R143). PAUSE in RUNNING, HOLDING or DRAINING makes the performance
PAUSED, remembers the state it left and keeps the DT of the PAUSE for the slot waits (R76, R150). STOP in LOADING abandons it: the staging copy is
discarded and the performance ends with end cause STOPPED (R149). CLEAR in FROZEN, with the quiet qualifier OPEN and DFLT deasserted, ends it with
its end cause kept (R154). LOCK_CONFIG in IDLE or ENDED with a configuration latched sets the lock (R148). None of them changes anything else. That
START and a STOP in LOADING leave the reader in the state it had is how the model reads R143 beside R44 and R146 (log entry 37). -/
def Obligations.ACommandThatOnlyMovesThePerformanceChangesNothingElse : Prop :=
  (∀ s : State, s.nrstLow = false → s.perf.state = .idle ∨ s.perf.state = .ended →
     ∃ t, exec .start s = .next t ∧
       publishes { s with perf := { s.perf with state := .loading, endCause := .none, staged := [] }
                          port := s.wrotePort regControl, regs := s.regs.accepted 1 } t) ∧
  (∀ s : State, s.nrstLow = false →
     s.perf.state = .running ∨ s.perf.state = .holding ∨ s.perf.state = .draining →
     ∃ t, exec .pause s = .next t ∧
       publishes { s with perf := { s.perf with state := .paused, prior := some s.perf.state, pausedAt := s.scu.dt }
                          port := s.wrotePort regControl, regs := s.regs.accepted 2 } t) ∧
  (∀ s : State, s.nrstLow = false → s.perf.state = .loading →
     ∃ t, exec .stop s = .next t ∧
       publishes { s with perf := { s.perf with state := .ended, endCause := .stopped, prior := none, staged := [] }
                          port := s.wrotePort regControl, regs := (s.regs.withFlag .ended).accepted 4 } t) ∧
  (∀ s : State, s.nrstLow = false → s.perf.state = .frozen → s.siu.quiet = .opened → s.siu.dflt = false →
     ∃ t, exec .clear s = .next t ∧
       publishes { s with perf := { s.perf with state := .ended, prior := none }
                          port := s.wrotePort regControl, regs := (s.regs.withFlag .ended).accepted 6 } t) ∧
  (∀ s : State, s.nrstLow = false → s.perf.state = .idle ∨ s.perf.state = .ended → s.perf.latch.isSome = true →
     ∃ t, exec .lockConfig s = .next t ∧
       publishes { s with perf := { s.perf with lock := true }, port := s.wrotePort regControl, regs := s.regs.accepted 8 } t)

/-- RESUME returns to the remembered state and forgets it. The slot waits have moved on by the DT spent in PAUSED, the SCU remembers
the RESUME until the next sync pulse (R17), and a grant test is taken (R76, R150); where the state is DRAINING and nothing is left
to drain, the performance ends at once. -/
def Obligations.ResumeReturnsToTheRememberedState : Prop :=
  ∀ (s : State) (x : PerfState), s.nrstLow = false → s.perf.state = .paused → s.perf.prior = some x → x.advances = true →
    ∃ t, exec .resume s = .next t ∧
      (drainCompleteDue (s.resumedTo x).grantTest = false →
        publishes { (s.resumedTo x).grantTest with regs := s.regs.accepted 3 } t) ∧
      (drainCompleteDue (s.resumedTo x).grantTest = true →
        t.perf = { s.perf with state := .ended, prior := none } ∧ t.regs = (s.regs.withFlag .ended).accepted 3)

/-- STOP in RUNNING, HOLDING, PAUSED or DRAINING ends the reading, empties the fire queue and the tempo agenda, releases every hold
channel, sets end cause STOPPED and leaves the strokes in flight to finish (R44, R79, R14, R116, R103, R151). Each RESTRIKE it cancels raises its
channel's consecutive misses, which fault an IDLE or COOLDOWN channel at the limit (R94, R104). A pending ROTOR cue is CANCELLED, a PARK's apart, and a
rotor in RUNNING begins the drain park (R123). The performance drains, PAUSED keeps its state and remembers DRAINING. Cue memory changes only in
results, completion counts and the published status. That the rotor's result is the last of those written, and so stays where a result area is shared,
is the model's choice (log entry 42). -/
def Obligations.StopEndsTheReadingAndEmptiesTheQueues : Prop :=
  ∀ s : State, s.nrstLow = false →
    s.perf.state = .running ∨ s.perf.state = .holding ∨ s.perf.state = .paused ∨ s.perf.state = .draining →
    ∃ t, exec .stop s = .next t ∧
      t = { s with mem := t.mem, scu := t.scu, reader := t.reader, passes := t.passes, fq := [], slots := t.slots,
                   chans := t.chans, rot := t.rot, perf := t.perf, regs := t.regs, port := s.wrotePort regControl } ∧
      t.scu = { s.scu with
        agenda := [], holdExpiry := none
        cond := if s.perf.state = .holding ∨ (s.perf.state = .paused ∧ s.perf.prior = some .holding)
                then .scheduled s.scu.pt.toNat else s.scu.cond } ∧
      (if s.reader.state = .finished ∨ s.reader.state = .faulted ∨ s.reader.state = .stopped then t.reader = s.reader
       else t.reader = { s.reader with state := .stopped, pending := .none, pass := none }) ∧
      t.perf.endCause = .stopped ∧ t.perf.latch = s.perf.latch ∧ t.perf.lock = s.perf.lock ∧
      (if s.perf.state = .paused then t.perf.state = .paused ∧ t.perf.prior = some .draining
       else t.perf.state = .draining ∨ (t.perf.state = .ended ∧ t.flag .ended = true)) ∧
      t.regs.code = 4 ∧ t.regs.outcome = .accepted ∧ t.regs.enable = s.regs.enable ∧
      (∀ n, (s.ccfg n).cls = .hold →
        (t.chan n).holdWanted = false ∧ (t.chan n).standing = false ∧
        (t.chan n).state ≠ .engage ∧ (t.chan n).state ≠ .held) ∧
      (∀ n, (s.ccfg n).cls ≠ .hold →
        let r := (s.fq.filter fun e => match e.work with
          | .restrike w => decide (w.chan = n)
          | _ => false).length
        let m := if r = 0 then (s.chan n).misses else min 15 ((s.chan n).misses + r)
        if 0 < r ∧ s.global.missLimit ≠ 0 ∧ s.global.missLimit ≤ m ∧ ((s.chan n).state = .idle ∨ (s.chan n).state = .cooldown)
        then t.chan n = { s.chan n with state := .faulted, misses := m } ∧ t.flag .channel = true
        else t.chan n = { s.chan n with misses := m }) ∧
      (let owed := if s.rot.cmd = some .park then s.rot.owed else none
       (s.rot.state ≠ .running → t.rot = { s.rot with owed := owed }) ∧
       (s.rot.state = .running → s.rehearsal = true → t.rot = { s.rot with
         cmd := some .park, state := .parked, rate := 0, target := 0, owed := none, search := none, nextStep := none }) ∧
       (s.rot.state = .running → s.rehearsal = false → t.rot = { s.rot with
         cmd := some .park, state := .parking, target := s.global.parkRate, owed := owed
         search := if s.rot.rate = s.global.parkRate ∧ s.csm.level ≠ .brown then some 0 else none }) ∧
       ∀ l, s.rot.owed = some l → s.rot.cmd ≠ some .park → l.inBlock → Memory.wf s.mem = true →
         Memory.readBytes t.mem (cueAddr l + 8) 8 = [5, 0] ++ leBytes 6 (s.scu.pt.toNat / 16)) ∧
      sameOutside s t (fun a => queuedResult s a ∨ agendaResult s a ∨ rotorResultArea s a ∨ passCount s a ∨ published a ∨
        ∃ n, (s.ccfg n).cls = .hold ∧ channelResult s n a)

/-- CLEAR_CHANNEL n sets a FAULTED STRIKE channel to IDLE with no misses and causes a grant test, in any performance state
(R100). -/
def Obligations.ClearChannelReturnsAFaultedChannelToIdle : Prop :=
  ∀ (s : State) (b : Byte) (n : ChanId), s.nrstLow = false → b.toNat = n.val → (s.ccfg n).cls = .strike →
    (s.chan n).state = .faulted →
    ∃ t, exec (.clearChannel b) s = .next t ∧
      publishes { (State.setChan { s with port := s.wrotePort regControl } n { s.chan n with state := .idle, misses := 0 }).grantTest with
        regs := s.regs.accepted 7 } t

/-- PERF_RESET in any state makes the part IDLE with nothing read, queued, counted or driven. It keeps the latched configuration, the
lock, the active maps, heat (with that of a pulse it cuts, R101, R106, R108), trim and the counts, the supply level, DT with the schedules on it,
ATTN_ENABLE, the fault record and all of cue memory outside the snapshot lines and the channel report table (R156, Table 8-4). The filters settle
and the quiet qualifier restarts (R127, R130) at the levels of the latest sample, which is the model's choice (log entry 4), as are the 0 of the DT of
a PAUSE (log entry 20) and the kept map staging buffer (log entry 33). -/
def Obligations.PerfResetClearsThePerformanceAndKeepsTheRest : Prop :=
  ∀ s : State, s.nrstLow = false →
    ∃ t, exec .perfReset s = .next t ∧
      t = { s with
        mem := t.mem, siu := t.siu, chans := t.chans, port := s.wrotePort regControl
        scu := { Scu.atPowerOn with dt := s.scu.dt }
        reader := Reader.atReset
        passes := [], fq := [], slots := 0
        rot := { Rotor.atPowerOn with rateDue := s.rot.rateDue }
        perf := { s.perf with state := .idle, endCause := .none, prior := none, pausedAt := 0, staged := [] }
        regs := { code := 9, outcome := .accepted, flags := 0, enable := s.regs.enable } } ∧
      (∀ n, (t.chan n).state = .off ∧ (t.chan n).stroke = none ∧ (t.chan n).engage = none ∧
        (t.chan n).holdWanted = false ∧ (t.chan n).standing = false ∧ (t.chan n).heatDue = (s.chan n).heatDue ∧
        (t.chan n).trim = (s.chan n).trim ∧ (t.chan n).misses = (s.chan n).misses ∧
        (t.chan n).strays = (s.chan n).strays ∧ (t.chan n).hits = (s.chan n).hits ∧
        ((s.chan n).state ≠ .drive → (s.chan n).state ≠ .engage → (s.chan n).heat ≤ 65535 →
          (t.chan n).heat = (s.chan n).heat) ∧
        (∀ k, (s.chan n).state = .drive → (s.chan n).stroke = some k → s.rehearsal = false →
          (t.chan n).heat = min 65535 ((s.chan n).heat + (s.scu.dt - k.grantDt).toNat * (s.ccfg n).gain / 256)) ∧
        (∀ e, (s.chan n).state = .engage → (s.chan n).engage = some e → s.rehearsal = false →
          (t.chan n).heat = min 65535 ((s.chan n).heat + (s.scu.dt - e.grantDt).toNat * (s.ccfg n).gain / 256)) ∧
        (s.rehearsal = true → (t.chan n).heat = (s.chan n).heat)) ∧
      (∀ n : ChanId, t.siu.sns[n] = { settled := s.siu.sns[n].level, qual := none }) ∧
      t.siu.synci = { settled := s.siu.synci.level, qual := none } ∧
      t.siu.cuei = { settled := s.siu.cuei.level, qual := none } ∧
      t.siu.home = { settled := s.siu.home.level, qual := none } ∧
      t.siu.quiet = (if s.siu.stopA = true ∧ s.siu.stopB = false then .qualifying s.scu.dt else .opened) ∧
      t.siu.stopA = s.siu.stopA ∧ t.siu.stopB = s.siu.stopB ∧ t.siu.dflt = s.siu.dflt ∧ t.siu.dfltSeen = false ∧
      sameOutside s t (fun a => published a ∨ (0x20 ≤ a ∧ a < 0x30))

/-! ### The SPI port -/

/-- MEM_READ shifts out STATUS, three bytes of 0x00 and then cue memory from the start address on, wrapping from 0xFFFF to 0x0000; REG_READ shifts
out STATUS, two bytes of 0x00 and then the registers from the index on, low byte first, the index wrapping from 3 to 0, and 0x00 throughout for an
index above 3; neither changes anything else (R170, R171, R174). A transaction of the host is a MEM_READ by a first byte of 0x52 with address high,
address low and a turnaround byte after it, a REG_READ by 0x72 with an index and a turnaround byte (Table 10-1). That a MEM_READ over several lines
shows them as of one moment is the model's reading (log entry 10): 95_what_each_step_holds.md calls each row "whole and indivisible", while R171
captures each line at its own moment. STATUS holds the performance state, the raw levels of the protection inputs, the ATTN line, whether a
configuration is latched, the lock, and whether the fault record is HELD; every other bit is 0 (Table 10-13). -/
def Obligations.ReadsShowMemoryRegistersAndStatus : Prop :=
  (∀ (s : State) (high low turnaround : Byte) (data : List Byte),
     s.hostSends (0x52 :: high :: low :: turnaround :: data) =
       { s with pending := s.pending ++ [.memRead (high ++ low) data.length] }) ∧
  (∀ (s : State) (index turnaround : Byte) (data : List Byte),
     s.hostSends (0x72 :: index :: turnaround :: data) = { s with pending := s.pending ++ [.regRead index data.length] }) ∧
  (∀ (s : State) (a : Addr) (n : Nat), s.nrstLow = false →
     exec (.memRead a n) s = .next { s with port := { s.port with
       miso := s.statusReg.setWidth 8 :: 0 :: 0 :: 0 ::
         (List.range n).map fun k => Memory.read s.mem ((a.toNat + k) % 65536)
       nextReg := none } }) ∧
  (∀ (s : State) (index : Byte) (n : Nat), s.nrstLow = false →
     exec (.regRead index n) s = .next { s with port := { s.port with
       miso := s.statusReg.setWidth 8 :: 0 :: 0 ::
         (List.range n).map fun k =>
           if 3 < index.toNat then 0
           else
             let r : BitVec 16 :=
               match (index.toNat + k / 2) % 4 with
               | 0 => s.statusReg
               | 1 => BitVec.ofNat 16 (s.regs.code.toNat + 256 * s.regs.outcome.code)
               | 2 => s.regs.flags.setWidth 16
               | _ => s.regs.enable.setWidth 16
             if k % 2 = 0 then r.setWidth 8 else (r >>> 8).setWidth 8
       nextReg := none } }) ∧
  (∀ s : State,
     (s.statusReg.extractLsb' 0 4).toNat = s.perf.state.code ∧
     s.statusReg.getLsbD 4 = s.siu.stopA ∧ s.statusReg.getLsbD 5 = (!s.siu.stopB) ∧
     s.statusReg.getLsbD 6 = s.siu.dflt ∧ s.statusReg.getLsbD 7 = s.attnAsserted ∧
     s.statusReg.getLsbD 8 = s.perf.latch.isSome ∧ s.statusReg.getLsbD 9 = s.perf.lock ∧
     s.statusReg.getLsbD 10 = (Memory.read s.mem 0x70 == 1) ∧ (s.statusReg.extractLsb' 11 5).toNat = 0)

/-- MEM_WRITE puts each byte at its address, wrapping from 0xFFFF to 0x0000, the last byte for an address standing. Bytes for the part-owned lines
are ignored, but 0x00 for the fault record's state byte frees the record and clears its overlap flag; every other byte of cue memory stays as it was
(R167, R170, R172). A transaction of the host is a MEM_WRITE by a first byte of 0x57, with address high and address low after it (Table 10-1). That
all lines of one write are committed at one moment is the model's reading (log entry 10), and the bytes shifted out while data is shifted in are
values the spec leaves open (log entry 1). -/
def Obligations.MemWriteCommitsTheHostsBytes : Prop :=
  (∀ (s : State) (high low : Byte) (data : List Byte),
    s.hostSends (0x57 :: high :: low :: data) = { s with pending := s.pending ++ [.memWrite (high ++ low) data] }) ∧
  ∀ (s : State) (a : Addr) (data : List Byte), s.nrstLow = false → Memory.wf s.mem = true →
    ∃ t, exec (.memWrite a data) s = .next t ∧
      t = { s with
        mem := t.mem
        port := { miso := s.statusReg.setWidth 8 :: 0 :: 0 ::
                    (List.range data.length).map fun k => Config.misoWhileWriting (s.port.used + k)
                  used := s.port.used + data.length, nextReg := none } } ∧
      Memory.wf t.mem = true ∧
      (∀ k (h : k < data.length), ¬statusArea ((a.toNat + k) % 65536) →
        (∀ j < data.length, k < j → (a.toNat + j) % 65536 ≠ (a.toNat + k) % 65536) →
        Memory.read t.mem ((a.toNat + k) % 65536) = data[k]) ∧
      (∀ x, x ≠ 0x70 → x ≠ 0x71 → (statusArea x ∨ ∀ k < data.length, (a.toNat + k) % 65536 ≠ x) →
        Memory.read t.mem x = Memory.read s.mem x) ∧
      (if ∃ k, ∃ h : k < data.length, (a.toNat + k) % 65536 = 0x70 ∧ data[k] = 0
       then Memory.read t.mem 0x70 = 0 ∧ Memory.read t.mem 0x71 = 0
       else Memory.read t.mem 0x70 = Memory.read s.mem 0x70 ∧ Memory.read t.mem 0x71 = Memory.read s.mem 0x71)

/-- A write of ATTN_FLAGS clears the flags written as 1 and keeps the others; a write of STATUS changes nothing but MISO. A REG_WRITE goes on
from register to register, the index wrapping from 3 to 0; with an index above 3 the rest of it reads 0x00 and writes nothing, and a group cut short is
discarded. The rest of a transaction of an unknown instruction reads 0x00 and writes nothing, and so do the address, index and turnaround bytes of one
that CS ends before its data (R168, R170, R174). A transaction of the host is a REG_WRITE by a first byte of 0x77 with an index after it, two bytes, low
byte first, for each register; in CONTROL they are the code and the argument (Table 10-1, Table 10-14). That a group of the register which a
REG_WRITE in progress has come to belongs to that REG_WRITE is how the model reads a queue (log entry 11), and the bytes shifted out while data is
shifted in are values the spec leaves open (log entry 1). -/
def Obligations.RegisterWritesActAsTheTableSays : Prop :=
  (∀ (s : State) (v : BitVec 16), s.nrstLow = false →
    ∃ t, exec (.attnFlagsWrite v) s = .next t ∧
      t = { s with port := s.wrotePort regFlags, regs := { s.regs with flags := t.regs.flags } } ∧
      ∀ f : AttnFlag, t.flag f = (s.flag f && !v.getLsbD f.bit)) ∧
  (∀ (s : State) (v : BitVec 16), s.nrstLow = false →
    exec (.statusWriteIgnored (.status v)) s = .next { s with port := s.wrotePort regStatus }) ∧
  (∀ (s : State) (index : Byte) (n : Nat), s.nrstLow = false → 3 < index.toNat →
    exec (.statusWriteIgnored (.noRegister index n)) s = .next { s with port := { s.port with
      miso := s.statusReg.setWidth 8 :: 0 :: List.replicate n 0, nextReg := none } }) ∧
  (∀ (s : State) (index : Byte) (n : Nat), s.nrstLow = false → index.toNat ≤ 3 → n < 2 →
    exec (.statusWriteIgnored (.cutFirst index n)) s = .next { s with port := {
      miso := s.statusReg.setWidth 8 :: 0 :: (List.range n).map fun k => Config.misoWhileWriting (s.port.used + k)
      used := s.port.used + n, nextReg := none } }) ∧
  (∀ (s : State) (n : Nat), s.nrstLow = false → n < 2 →
    (∀ r, s.port.nextReg = some r → exec (.statusWriteIgnored (.cutNext n)) s = .next { s with port := {
      miso := s.port.miso ++ (List.range n).map fun k => Config.misoWhileWriting (s.port.used + k)
      used := s.port.used + n, nextReg := none } }) ∧
    (s.port.nextReg = none → exec (.statusWriteIgnored (.cutNext n)) s = .next s)) ∧
  (∀ (s : State) (code : Byte) (n : Nat), s.nrstLow = false →
    (code = 0x52 → n < 3) → (code = 0x57 → n < 2) → (code = 0x72 → n < 2) → (code = 0x77 → n < 1) →
    exec (.unknownInstruction code n) s = .next { s with port := { s.port with
      miso := s.statusReg.setWidth 8 :: List.replicate n 0, nextReg := none } }) ∧
  (∀ (s : State) (index : Byte) (data : List Byte),
    (3 < index.toNat → s.hostSends (0x77 :: index :: data) =
      { s with pending := s.pending ++ [.statusWriteIgnored (.noRegister index data.length)] }) ∧
    (index.toNat ≤ 3 → data.length < 2 → s.hostSends (0x77 :: index :: data) =
      { s with pending := s.pending ++ [.statusWriteIgnored (.cutFirst index data.length)] }) ∧
    (index.toNat ≤ 3 → 2 ≤ data.length → s.hostSends (0x77 :: index :: data) =
      { s with pending := s.pending ++
          ((List.range (data.length / 2)).map fun k =>
            groupCommand (BitVec.ofNat 2 (index.toNat + k)) (data.getD (2 * k) 0) (data.getD (2 * k + 1) 0)) ++
          [.statusWriteIgnored (.cutNext (data.length % 2))] })) ∧
  (∀ low high : Byte,
    groupCommand regStatus low high = .statusWriteIgnored (.status (high ++ low)) ∧
    groupCommand regFlags low high = .attnFlagsWrite (high ++ low) ∧
    groupCommand regEnable low high = .attnEnableWrite (high ++ low) ∧
    (isCommandCode low = false → groupCommand regControl low high = .unknownCommand low)) ∧
  (∀ high : Byte,
    [1, 2, 3, 4, 5, 6, 7, 8, 9].map (fun code => groupCommand regControl code high) =
      [.start, .pause, .resume, .stop, .cont, .clear, .clearChannel high, .lockConfig, .perfReset]) ∧
  (∀ (s : State) (code : Byte) (rest : List Byte),
    (code = 0x52 → rest.length < 3) → (code = 0x57 → rest.length < 2) → (code = 0x72 → rest.length < 2) →
    (code = 0x77 → rest.length < 1) →
    s.hostSends (code :: rest) = { s with pending := s.pending ++ [.unknownInstruction code rest.length] }) ∧
  (∀ s : State, s.hostSends [] = s)

/-- ATTN_ENABLE holds the nine enables as the host writes them and reads them back, and the ATTN line is asserted exactly while a
flag that is set is also enabled, as it stands after every step (R169). -/
def Obligations.AttnFollowsTheEnabledFlags : Prop :=
  (∀ (s : State) (v : BitVec 16), s.nrstLow = false →
    ∃ t, exec (.attnEnableWrite v) s = .next t ∧
      t = { s with port := s.wrotePort regEnable, regs := { s.regs with enable := t.regs.enable } } ∧
      t.regRead 3 = (v &&& 0x1FF) ∧
      (t.attnAsserted = true ↔ ∃ f : AttnFlag, s.flag f = true ∧ v.getLsbD f.bit = true)) ∧
  (∀ s : State, s.attnAsserted = true ↔ ∃ f : AttnFlag, s.flag f = true ∧ s.regs.enable.getLsbD f.bit = true)

/-! ### The resets -/

/-- A power-on reset puts every block in its reset state, with DT 0, no configuration latched and the lock clear, and writes the status area
(R157). A pin reset leaves the same, but DT and the schedules on it run on and cue memory outside the status area is kept (R1, R102, R119, R157,
R164). While nRST is low a power-on reset leaves the part in pin reset, which PIN_RESET ends (R176). The model's choices here: cue memory outside the
status area reads 0x00 after power-on (log entry 3), the voltage on VSENSE stays and the inputs are the row's operand (log entry 4), the reading and
the map staging buffer are 0 (log entry 20), and each reset is one step, a PIN_RESET needing no assertion before it (log entry 21). -/
def Obligations.ResetsLeaveTheResetState : Prop :=
  (∀ (s : State) (i : InputLevels),
     ∃ t, exec (.powerOnReset i) s = .next t ∧
       t = { State.reset with
         mem := t.mem, siu := t.siu, csm := { vsense := s.csm.vsense, reading := 0, level := .normal }
         port := { miso := [], used := s.port.used, nextReg := none }, nrstLow := s.nrstLow, pending := s.pending } ∧
       t.siu.settledAt i 0 ∧ Memory.wf t.mem = true ∧ t.statusAreaFresh ∧
       ∀ a, ¬statusArea a → Memory.read t.mem a = 0) ∧
  (∀ (s : State) (i : InputLevels), Memory.wf s.mem = true →
     ∃ t, exec (.pinReset i) s = .next t ∧
       t = { State.reset with
         mem := t.mem, siu := t.siu, chans := t.chans, csm := { vsense := s.csm.vsense, reading := 0, level := .normal }
         scu := { Scu.atPowerOn with dt := s.scu.dt }
         rot := { Rotor.atPowerOn with rateDue := s.rot.rateDue }
         sched := s.sched
         port := { miso := [], used := s.port.used, nextReg := none }, pending := s.pending } ∧
       (∀ n, t.chan n = { Channel.atPowerOn with heatDue := (s.chan n).heatDue }) ∧
       t.siu.settledAt i s.scu.dt ∧ Memory.wf t.mem = true ∧ t.statusAreaFresh ∧
       sameOutside s t (fun a => a < 0x80 ∨ (0x540 ≤ a ∧ a < 0x740)))

/-- While nRST is low every output is off and the part takes no transaction and no event: the assertion itself only begins this, the
schedules on DT run on, and everything else leaves the state as it is (R157, R170, R176; log entry 5). -/
def Obligations.TheAssertedResetPinHoldsThePart : Prop :=
  (∀ s : State, exec .nrstAssertion s = .next { s with nrstLow := true, port := { s.port with miso := [], nextReg := none } }) ∧
  (∀ s : State, s.nrstLow = true →
    (∀ n, s.drvOut n = false) ∧ s.phOut = 0 ∧ s.syncoOut = false ∧ s.attnDrivenLow = false ∧ s.misoHighImpedance = true) ∧
  (∀ (c : Instr) (s : State), s.nrstLow = true → c.wellFormed = true → isFullReset c = false → c ≠ .nrstAssertion →
    ∃ t, exec c s = .next t ∧
      t = { s with
        sched := t.sched
        chans := t.chans
        rot := { s.rot with rateDue := t.rot.rateDue } } ∧
      ∀ n, t.chan n = { s.chan n with heatDue := (t.chan n).heatDue })

/-- What State.reset holds satisfies every invariant stated below. -/
def Obligations.TheInvariantsHoldAtReset : Prop :=
  Memory.wf State.reset.mem = true ∧ State.reset.refsInBlocks ∧ identityShows State.reset.mem ∧
  State.reset.snapshotShows ∧ State.reset.tableShows ∧ State.reset.fits ∧ State.reset.queueNumbered ∧ fqOrdered State.reset.fq ∧
  (∀ n, (State.reset.chan n).inRange) ∧ State.reset.trimsLatched ∧ State.reset.periodsOk ∧ State.reset.scoreOk ∧
  State.reset.driveOk

/-! ### Score time -/

/-- A tick begins at its boundary where no agenda entry is due: in FREE and LEAD with the period the tempo and any ramp give it, in
FOLLOW with P as it stands; in LEAD a tick that is a multiple of 192 asserts SYNCO for 1,000 µs. STARVED is set where the reader waits
at a link the score has now reached, and a rotor under BEAT takes its target anew where P has changed (R5, R6, R16, R40, R121). -/
def Obligations.ATickBeginsAtItsBoundary : Prop :=
  ∀ (s : State) (start : Int) (x : Tick) (p : Nat), s.nrstLow = false →
    s.perf.state = .running ∨ s.perf.state = .draining →
    s.boundaryAhead start x → start ≤ s.scu.pt.toNat → (∀ e, s.scu.agenda.head? = some e → tickUpTo e.onset x = false) →
    p = (if s.global.syncMode = .follow then s.scu.period else s.scu.tempo.periodAt x) →
    ∃ t, exec .tickBoundary s = .next t ∧
      publishes { s with
        scu := { s.scu with
          tick := x, cond := .begun start p, period := p, tempo := s.scu.tempo.discard x
          synco := if s.global.syncMode = .lead ∧ x.toNat % 192 = 0 then some (s.scu.dt + 1000) else s.scu.synco }
        rot := { s.rot with
          target := match s.rot.cmd with
            | some (.beat b) =>
              if s.rot.state = .running ∧ p ≠ s.scu.period then min 2000 (b * 16000000 / (192 * p)) else s.rot.target
            | _ => s.rot.target }
        reader := { s.reader with
          starved := s.reader.starved ||
            (s.reader.state == .linkWait && tickUpTo s.reader.tick x) }
        regs := if s.reader.state = .linkWait ∧ s.reader.starved = false ∧
            tickUpTo s.reader.tick x = true then s.regs.withFlag .starved else s.regs } t

/-- A TEMPO entry alone due at a boundary: in FREE and LEAD its target becomes the base period, with a ramp from the period the tick would have
had where it has a length, and its result is APPLIED with the target; in FOLLOW it changes no tempo and its result is SUPERSEDED with P. The entry
leaves the agenda, its result stands in its cue and its end is reported before the tick begins; then STARVED is set where the reader waits at a link
the score has now reached, and a rotor under BEAT takes its target anew where P has changed (R6, R9, R10, R40, R121). Where more entries are due at the
boundary, the TEMPO entry at the head is dealt with in this way and the boundary goes on at the same tick with the entries after it (R6). A HOLDPOINT
entry stops its tick: the performance goes to HOLDING with the tick current and unscheduled, HOLD is set, and a timeout of u units expires
u × 1,600,000 su after the boundary; the entry stays in the agenda, and a tick it stops has not been reached (R12, R40). -/
def Obligations.AgendaEntriesAreDealtWithAtTheirBoundary : Prop :=
  (∀ (s : State) (start : Int) (x : Tick) (e : AgendaEntry) (es : List AgendaEntry) (target len : Nat), s.nrstLow = false →
     s.perf.state = .running ∨ s.perf.state = .draining →
     s.boundaryAhead start x → start ≤ s.scu.pt.toNat →
     s.scu.agenda = e :: es → e.body = .tempo target len → tickUpTo e.onset x = true →
     let tempo : Tempo :=
       if s.global.syncMode = .follow then s.scu.tempo.discard x
       else if len = 0 then { base := target, ramp := none }
       else { base := target
              ramp := some { first := x, start := (s.scu.tempo.discard x).periodAt x, target := target, len := len } }
     let dealt := s.resolve e.cue (if s.global.syncMode = .follow then [9, 0] ++ leBytes 3 s.scu.period ++ [0, 0, 0]
       else [8, 0] ++ leBytes 3 target ++ [0, 0, 0])
     ((∀ f, es.head? = some f → tickUpTo f.onset x = false) →
       let p := if s.global.syncMode = .follow then s.scu.period else tempo.periodAt x
       ∃ t, exec .tickBoundary s = .next t ∧
         publishes (State.starvedWhere { dealt with
           scu := { s.scu with
             agenda := es, tick := x, tempo := tempo, period := p, cond := .begun start p
             synco := if s.global.syncMode = .lead ∧ x.toNat % 192 = 0 then some (s.scu.dt + 1000) else s.scu.synco }
           rot := { s.rot with
             target := match s.rot.cmd with
               | some (.beat b) =>
                 if s.rot.state = .running ∧ p ≠ s.scu.period then min 2000 (b * 16000000 / (192 * p)) else s.rot.target
               | _ => s.rot.target } } (tickUpTo s.reader.tick x)) t) ∧
     (∀ f, es.head? = some f → tickUpTo f.onset x = true →
       ∃ t t', exec .tickBoundary s = .next t ∧
         exec .tickBoundary { dealt with scu := { s.scu with
           agenda := es, tick := x, tempo := tempo, cond := .scheduled start } } = .next t' ∧
         t = { t' with mem := t.mem } ∧ sameOutside t' t published)) ∧
  (∀ (s : State) (start : Int) (x : Tick) (e : AgendaEntry) (byCue byCommand : Bool) (timeout delay : Nat), s.nrstLow = false →
     s.perf.state = .running → s.boundaryAhead start x → start ≤ s.scu.pt.toNat →
     s.scu.agenda.head? = some e → e.body = .holdpoint byCue byCommand timeout delay → tickUpTo e.onset x = true →
     ∃ t, exec .tickBoundary s = .next t ∧
       publishes (State.starvedWhere { s with
         scu := { s.scu with
           tick := x, cond := .unscheduled, tempo := s.scu.tempo.discard x
           holdExpiry := if timeout = 0 then none else some (start + timeout * 1600000) }
         perf := { s.perf with state := .holding }
         regs := s.regs.withFlag .hold } (s.reader.tick != x && tickUpTo s.reader.tick x)) t)

/-- A holding holdpoint is released by CONTINUE, by an accepted CUEI edge and by its timeout, where it allows them: the performance is
RUNNING again, the entry leaves the agenda with result RELEASED and the source, the tick is placed by the delay or waits for sync,
and a reader that was HELD reads on (R13, R33). CONTINUE is refused with REFUSED_ARG where the holding holdpoint does not enable it, and with
REFUSED_STATE in every performance state but HOLDING, and then changes nothing but CONTROL (R152). An accepted CUEI edge in another performance
state, or at a holdpoint that does not enable the CUE line, only settles its filter (R13, R126). That the tick and the release PT are placed at the
present PT of the step that takes the release, a late timeout or CUEI edge included, is the model's reading (log entry 13). -/
def Obligations.AHoldpointIsReleasedBySourcesItAllows : Prop :=
  (∀ s : State, s.nrstLow = false → s.perf.state ≠ .holding →
    exec .cont s = .next { s with port := s.wrotePort regControl, regs := { s.regs with code := 5, outcome := .refusedState } }) ∧
  (∀ (s : State) (q : Qual), s.nrstLow = false → s.siu.cuei = { settled := false, qual := some q } → q.bounce = none →
    reached s.scu.dt (q.holdStart + 1000) = true →
    s.perf.state ≠ .holding ∨ (∃ e byCommand timeout delay, s.scu.agenda.head? = some e ∧
      e.body = .holdpoint false byCommand timeout delay) →
    exec .cueiEdge s = .next { s with siu := { s.siu with cuei := { settled := true, qual := none } } }) ∧
  ∀ (s : State) (e : AgendaEntry) (es : List AgendaEntry) (byCue byCommand : Bool) (timeout delay : Nat),
    s.nrstLow = false → s.perf.state = .holding → s.scu.agenda = e :: es →
    e.body = .holdpoint byCue byCommand timeout delay →
    (byCommand = true → ∃ t, exec .cont s = .next t ∧ t.regs.code = 5 ∧ t.regs.outcome = .accepted ∧
      publishes { (State.releasedFrom { s with port := s.wrotePort regControl } e es .cont delay) with regs := t.regs } t) ∧
    (byCommand = false →
      exec .cont s = .next { s with port := s.wrotePort regControl, regs := { s.regs with code := 5, outcome := .refusedArg } }) ∧
    (∀ q, byCue = true → s.siu.cuei = { settled := false, qual := some q } → q.bounce = none →
      reached s.scu.dt (q.holdStart + 1000) = true →
      ∃ t, exec .cueiEdge s = .next t ∧
        publishes (State.releasedFrom { s with siu := { s.siu with cuei := { settled := true, qual := none } } } e es .cue delay) t) ∧
    (∀ x, s.scu.holdExpiry = some x → x ≤ s.scu.pt.toNat →
      ∃ t, exec .holdpointTimeout s = .next t ∧ publishes (s.releasedFrom e es .timeout delay) t)

/-- SYNCO ends when DT reaches the end of its 1,000 µs, whatever the performance state (R16). Two beats of PT without a pulse lose the lock: SYNC
is set, the loss timer stops, and a tick that waits for its count-in is scheduled at once (R18): at the present PT of the step that takes the loss,
which is the model's reading (log entry 13). Nothing else changes. -/
def Obligations.ScoreTimersEnd : Prop :=
  (∀ (s : State) (d : DevTime), s.nrstLow = false → s.scu.synco = some d → reached s.scu.dt d = true →
     exec .syncoPulseEnd s = .next { s with scu := { s.scu with synco := none } }) ∧
  (∀ (s : State) (e : Nat), s.nrstLow = false → s.perf.state = .running ∨ s.perf.state = .draining →
     s.scu.sync = .locked → s.scu.lossElapsed = some e → 2 * 192 * s.scu.period ≤ e →
     ∃ t, exec .syncLoss s = .next t ∧
       publishes { s with
         scu := { s.scu with
           sync := .lost, lossElapsed := none
           cond := if s.scu.cond = .unscheduled then .scheduled s.scu.pt.toNat else s.scu.cond }
         regs := s.regs.withFlag .sync } t)

/-- An accepted SYNCI edge settles its filter; in FOLLOW, RUNNING or DRAINING, it is a pulse at the PT of its first transition, taken by
the row of its sync state: it counts the waiting tick in, or regulates P, or tests the interval for regained lock, or only records its
time (R3, R17, R18, R19). Where P changes, a rotor running under BEAT takes its target anew (R121). That the loss timer stands at 0 at the step
that takes the pulse is the model's reading (log entry 14). -/
def Obligations.ASyncPulseIsTakenByItsRow : Prop :=
  ∀ (s : State) (q : Qual) (t0 : Int), s.nrstLow = false →
    s.siu.synci = { settled := false, qual := some q } → q.bounce = none →
    reached s.scu.dt (q.holdStart + 1000) = true →
    t0 = s.scu.pt.toNat + 16 * (q.rawDt - s.scu.dt).toInt →
    ∃ t, exec .syncPulse s = .next t ∧
      (s.global.syncMode ≠ .follow ∨ (s.perf.state ≠ .running ∧ s.perf.state ≠ .draining) →
        t = s.synciSettled) ∧
      (s.global.syncMode = .follow → s.perf.state = .running ∨ s.perf.state = .draining →
        (s.scu.sync = .none → t = s.synciSettled) ∧
        (s.scu.sync = .acquire →
          publishes { s.synciSettled with scu := { s.scu with
            cond := .scheduled (t0 + 192 * s.scu.period), prevPulse := some t0, resumed := false
            lossElapsed := some 0, sync := .locked } } t) ∧
        (s.scu.sync = .locked ∨ s.scu.sync = .lost → s.scu.cond = .unscheduled →
          publishes { s.synciSettled with scu := { s.scu with
            cond := .scheduled (t0 + 192 * s.scu.period), prevPulse := some t0, resumed := false
            lossElapsed := some 0 } } t) ∧
        (s.scu.sync = .locked → s.scu.cond ≠ .unscheduled → s.scu.resumed = true →
          publishes { s.synciSettled with scu := { s.scu with
            prevPulse := some t0, resumed := false, lossElapsed := some 0 } } t) ∧
        (s.scu.sync = .locked → s.scu.cond ≠ .unscheduled → s.scu.resumed = false →
          publishes { s.synciSettled with
            scu := { s.scu with
              period := s.regulatedPeriod t0, prevPulse := some t0, resumed := false, lossElapsed := some 0 }
            rot := t.rot } t) ∧
        (s.scu.sync = .lost → s.scu.cond ≠ .unscheduled → s.scu.resumed = false →
          4 * (t0 - s.scu.prevPulse.getD t0) ≥ 3 * 192 * s.scu.period →
          4 * (t0 - s.scu.prevPulse.getD t0) ≤ 5 * 192 * s.scu.period →
          publishes { s.synciSettled with
            scu := { s.scu with
              period := s.regulatedPeriod t0, prevPulse := some t0, resumed := false, lossElapsed := some 0
              sync := .locked }
            rot := t.rot, regs := s.regs.withFlag .sync } t) ∧
        (s.scu.sync = .lost → s.scu.cond ≠ .unscheduled →
          s.scu.resumed = true ∨ 4 * (t0 - s.scu.prevPulse.getD t0) < 3 * 192 * s.scu.period ∨
            5 * 192 * s.scu.period < 4 * (t0 - s.scu.prevPulse.getD t0) →
          t = { s.synciSettled with scu := { s.scu with prevPulse := some t0, resumed := false } })) ∧
      t.rot = { s.rot with
        target := match s.rot.cmd with
          | some (.beat b) =>
            if s.rot.state = .running ∧ t.scu.period ≠ s.scu.period then min 2000 (b * 16000000 / (192 * t.scu.period))
            else s.rot.target
          | _ => s.rot.target }

/-- Regulation gives the measured beat over 192 plus a correction of at most P / 32 either way, clamped into the range of periods: the correction is
E / 768, floored, and E is how far the pulse lies from the nearest beat of the score, the earlier one halfway (R18). A ramp gives tick i of its
length the start period plus (target − start) × (i + 1) over its length, truncated toward zero, so its last tick has the target; a tick it does not
govern has the base period (R8, R9). A tick is projected to start where the current tick starts if it is that tick or an earlier one, a begun tick's
successor where that tick ends, and each later tick one period after the tick before it: the present P in FOLLOW, and in FREE and LEAD the period
that the agenda's TEMPO entries, applied in order at their onset ticks, give the tick before it. There is no projection while the current tick is
unscheduled. A cue's onset is the projection of the reader tick, for a STRIKE or a HOLD moved by 16 su for each µs of its micro-offset (R11). -/
def Obligations.PeriodsFollowTheRegulationAndTheRamp : Prop :=
  (∀ (m n len since : Int) (p : Nat), 0 < len →
     ∃ b e c : Int, 192 ∣ b ∧ e = (n - b) * len + since ∧
       -(96 * len) < e ∧ e ≤ 96 * len ∧
       c = max (-((p / 32 : Nat) : Int)) (min ((p / 32 : Nat) : Int) (e / 768)) ∧
       regulated m (phaseError n len since) p = (max 1600 (min 1048575 (m / 192 + c))).toNat) ∧
  (∀ (r : Ramp) (base i : Nat), r.ok → r.len < 65536 →
     (i < r.len → (Tempo.mk base (some r)).periodAt (r.first + BitVec.ofNat 32 i)
       = ((r.start : Int) + Int.tdiv (((r.target : Int) - r.start) * (i + 1)) r.len).toNat) ∧
     (Tempo.mk base (some r)).periodAt (r.first + BitVec.ofNat 32 (r.len - 1)) = r.target ∧
     (Tempo.mk base (some r)).periodAt (r.first + BitVec.ofNat 32 r.len) = base ∧
     (Tempo.mk base (some r)).periodAt (r.first - 1) = base ∧
     (∀ j, isPeriod base → isPeriod ((Tempo.mk base (some r)).periodAt j))) ∧
  (∀ (s : State) (n : Tick),
     (s.scu.cond = .unscheduled → s.project n = none) ∧
     (∀ start, s.scu.cond = .scheduled start ∨ (∃ len, s.scu.cond = .begun start len) →
       n = s.scu.tick ∨ tickUpTo s.scu.tick n = false → s.project n = some start) ∧
     (∀ start len, s.scu.cond = .begun start len → s.project (s.scu.tick + 1) = some (start + len))) ∧
  (∀ (s : State) (start : Int) (first : Tick) (k : Nat), s.boundaryAhead start first → k + 2 < 2147483648 →
     s.project (first + BitVec.ofNat 32 (k + 1)) =
       (s.project (first + BitVec.ofNat 32 k)).map (· + (s.periodAhead first k : Int))) ∧
  (∀ (s : State) (c : Cue),
     s.cueOnset c = (s.project s.reader.tick).map (· + 16 * (match c.body with
       | .strike _ _ micro _ => micro
       | .hold _ _ micro => micro
       | _ => 0)))

/-! ### Planning and the fire queue -/

/-- At its knots a valid map gives the knot's width and flight, below the first knot the first knot's and above the last the last
one's; between two neighbours it gives their linear interpolation, truncated toward zero, and never leaves the range of a knot (R47,
R54). -/
def Obligations.AMapInterpolatesBetweenItsKnots : Prop :=
  ∀ (a : Addr) (record : List Byte) (m : VelMap) (v : Nat), validateMap a record = .ok m →
    (∀ k ∈ m.knots, m.lookup k.velocity = (k.width, k.flight)) ∧
    (∀ k, m.knots.head? = some k → v ≤ k.velocity → m.lookup v = (k.width, k.flight)) ∧
    (∀ k, m.knots.getLast? = some k → k.velocity ≤ v → m.lookup v = (k.width, k.flight)) ∧
    (∀ pre k l post, m.knots = pre ++ k :: l :: post → k.velocity ≤ v → v ≤ l.velocity →
      ((m.lookup v).1 : Int) = k.width + Int.tdiv (((l.width : Int) - k.width) * (v - k.velocity)) (l.velocity - k.velocity) ∧
      ((m.lookup v).2 : Int) = k.flight + Int.tdiv (((l.flight : Int) - k.flight) * (v - k.velocity)) (l.velocity - k.velocity)) ∧
    (100 ≤ (m.lookup v).1 ∧ (m.lookup v).1 ≤ 25000) ∧ (200 ≤ (m.lookup v).2 ∧ (m.lookup v).2 ≤ 40000)

/-- The lead of a planned stroke is the map's flight plus the channel's trim and the heat lag, floor(H × S_lag / 65,536) µs, clamped
into 200 to 40,000 µs; the heat lag is at most 4,094 µs. The entry an admitted STRIKE cue places carries this lead (R56). -/
def Obligations.ThePlannedLeadIsClamped : Prop :=
  ∀ (s : State) (n : ChanId) (v : Nat) (onset : Int), (s.chan n).inRange → s.global.lagSlope ≤ 4095 →
    let h := (s.chan n).heat
    let f := ((s.activeMap n).lookup (if (s.ccfg n).warm ≤ h then min v s.global.warmVelocity else v)).2
    h * s.global.lagSlope / 65536 ≤ 4094 ∧
    ((s.planStrike n v onset).lead : Int) =
      max 200 (min 40000 ((f : Int) + (s.chan n).trim + (h * s.global.lagSlope / 65536 : Nat))) ∧
    200 ≤ (s.planStrike n v onset).lead ∧ (s.planStrike n v onset).lead ≤ 40000 ∧
    ∀ (c : Cue) (ch : Byte) (micro : Int) (restrike : Bool), c.body = .strike ch v micro restrike →
      s.chanOf ch .strike = some n → s.fq.length < 96 →
      ∃ w : StrikeWork, w.lead = (s.planStrike n v onset).lead ∧
        s.takeOn c onset = s.cueQueued (.strike w) onset (onset - 16 * (w.lead : Int))

/-- An entry joins the fire queue at once at its place by fire time, then onset, then channel, ROTOR and MARK entries as channel 64,
after every entry equal to it; the entries already there keep their order, the whole queue stays in that order, and a grant test
takes the waiting entries in it (R64). -/
def Obligations.AnEntryJoinsTheFireQueueInOrder : Prop :=
  ∀ (s : State) (w : Work) (onset fireTime : Int),
    (∃ (e : FqEntry) (pre post : List FqEntry),
      s.fq = pre ++ post ∧ (s.fqJoin w onset fireTime).fq = pre ++ e :: post ∧
      e.work = w ∧ e.onset = onset ∧ e.fireTime = max fireTime s.scu.pt.toNat ∧ e.wait = none ∧
      (∀ x ∈ pre, ¬e.comesBefore x) ∧ (∀ x, post.head? = some x → e.comesBefore x)) ∧
    (fqOrdered s.fq → fqOrdered (s.fqJoin w onset fireTime).fq) ∧
    (∀ a b : FqEntry, a.mayFollow b ↔ ¬b.comesBefore a) ∧
    (∀ (cue : CueRef) (r : RotorCmd) (b : Bool), (Work.rotor cue r).chanKey = 64 ∧ (Work.mark cue b).chanKey = 64) ∧
    (s.perf.state ≠ .paused →
      s.grantTest = ((s.fq.filter FqEntry.waiting).map FqEntry.seq).foldl State.grantTurn s)

/-- What a grant test can do: it grants only waiting entries, each to a channel that was free, never more than the effective slot count
allows, and leaves no waiting entry that could still be granted. Without a waiting entry, without a free slot or in PAUSED it does
nothing. It writes no byte but the results and completion counts of engages it resolves and the report lines of the channels it grants to (R70 to
R74, R76, R164). -/
def Obligations.AGrantTestGrantsWhatCanBeGranted : Prop :=
  ∀ s : State,
    (s.perf.state = .paused ∨ effectiveSlots s.csm.level s.global.slotCount ≤ s.slots ∨ (∀ e ∈ s.fq, e.wait = none) →
      s.grantTest = s) ∧
    s.grantTest = { s with mem := s.grantTest.mem, passes := s.grantTest.passes, fq := s.grantTest.fq
                           slots := s.grantTest.slots, chans := s.grantTest.chans } ∧
    s.grantTest.fq.Sublist s.fq ∧ (∀ e ∈ s.fq, e.wait = none → s.queueNumbered → e ∈ s.grantTest.fq) ∧
    s.slots ≤ s.grantTest.slots ∧
    (s.slots ≤ effectiveSlots s.csm.level s.global.slotCount →
      s.grantTest.slots ≤ effectiveSlots s.csm.level s.global.slotCount) ∧
    (∀ n, grantedFrom s (s.chan n) (s.grantTest.chan n)) ∧
    (s.queueNumbered → s.perf.state ≠ .paused → ∀ e ∈ s.grantTest.fq, e.wait.isSome = true →
      s.grantTest.slots < effectiveSlots s.csm.level s.global.slotCount → s.grantTest.firingChannel e.work = none) ∧
    sameOutside s s.grantTest (fun a => queuedResult s a ∨ passCount s a ∨ (0x540 ≤ a ∧ a < 0x740))

/-- A grant takes a slot, takes the entry from the queue and puts its channel into DRIVE or ENGAGE: a STRIKE with its planned width or,
on the partner, the reroute width from the partner's own map; a RESTRIKE with its carried width widened; both boosted in SAG; an ENGAGE
with the end of its full drive (R58 to R60, R72, R74, R84, R89, R110), after which every other ENGAGE entry that waits for the channel leaves the queue,
one from a cue with result ENGAGED and the PT of the moment (R70, R109). The channel's report entry is written, heat as it stands (R164). -/
def Obligations.AGrantHandsTheEntryToItsChannel : Prop :=
  ∀ (s : State) (e : FqEntry) (n : ChanId),
    (∀ w, e.work = .strike w →
      let base := if n = w.chan then w.width
        else max 100 (min (s.ccfg n).wMax ((s.activeMap n).lookup w.velocity).1)
      s.grant e n = State.granted { s with fq := s.queueWithout e, slots := s.slots + 1 } n
        { s.chan n with
          state := .drive
          stroke := some (s.freshStroke w.cue e.onset (e.onset - 16 * w.lead) w.lead (s.boosted n base) base
            w.restrikeOk false (decide (n ≠ w.chan))) }) ∧
    (∀ w, e.work = .restrike w →
      s.grant e n = State.granted { s with fq := s.queueWithout e, slots := s.slots + 1 } n
        { s.chan n with
          state := .drive
          stroke := some (s.freshStroke w.cue e.onset e.fireTime w.lead
            (s.boosted n (max 100 (min (s.ccfg n).wMax (w.width * s.global.restrikeBoost / 64)))) w.width
            false true w.rerouted) }) ∧
    (∀ c m, e.work = .engage c m →
      s.grant e n =
        ((s.queueWithout e).filter fun x => x.wait.isSome && (match x.work with
          | .engage _ k => decide (k = n)
          | _ => false)).foldl
          (fun u x => State.resolve? { u with fq := u.queueWithout x } x.work.cue ([16, 0] ++ leBytes 6 (s.scu.pt.toNat / 16)))
          (State.granted { s with fq := s.queueWithout e, slots := s.slots + 1 } n
            { s.chan n with
              state := .engage
              engage := some { cue := c, grantDt := s.scu.dt
                               endDt := s.scu.dt + BitVec.ofNat 32 (s.ccfg n).engageWidth } })) ∧
    (∀ c : Channel, Memory.wf s.mem = true →
      s.granted n c = { s.setChan n c with mem := (s.granted n c).mem } ∧
      Memory.readBytes (s.granted n c).mem (0x540 + 8 * n.val) 8 =
        [BitVec.ofNat 8 (c.state.code + 16 * c.misses), BitVec.ofNat 8 c.strays] ++ leBytes 2 c.heat ++
        leBytes 2 (BitVec.ofInt 16 c.trim).toNat ++ leBytes 2 c.hits ∧
      sameOutside s (s.granted n c) (fun a => 0x540 + 16 * (n.val / 2) ≤ a ∧ a < 0x540 + 16 * (n.val / 2) + 16))

/-- While PT advances, the due entries of the earliest fire time arrive one after another in queue order (R66). A MARK is carried out with the PT
and DT of the moment and raises MARK where it asks to; that these are PT and DT of the arrival for an onset between two steps of PT too is the
model's reading (log entry 41). A RELEASE turns its hold channel off in every supply level, an engage in progress ending as ENGAGED before it; an
ENGAGE wants its channel held, and is dropped in BROWN, is done already where the channel is driven or held, is dropped HOT in COOLDOWN and
otherwise waits for a slot; a stroke is dropped in BROWN and otherwise waits; a ROTOR command is handed over (R67 to R70, R109, R112). -/
def Obligations.EntriesArriveInQueueOrderAndActByKind : Prop :=
  (∀ (s : State) (e : FqEntry), s.nrstLow = false →
     s.perf.state = .running ∨ s.perf.state = .holding ∨ s.perf.state = .draining →
     s.fq.find? (fun x => x.wait.isNone && decide (x.fireTime ≤ (s.scu.pt.toNat : Int))) = some e →
     ∃ t, exec .fireTimeArrival s = .next t ∧
       publishes (((s.fq.filter fun x => x.wait.isNone && decide (x.fireTime ≤ (s.scu.pt.toNat : Int)) && x.fireTime == e.fireTime).map
         FqEntry.seq).foldl State.arriveTurn s) t) ∧
  (∀ (s : State) (e : FqEntry),
     (∀ c r, e.work = .mark c r →
       s.arrive e =
         (let u := State.resolve { s with fq := s.queueWithout e } c
           ([15] ++ leBytes 4 (s.scu.pt.toNat / 16) ++ leBytes 3 s.scu.dt.toNat)
          { u with regs := if r then s.regs.withFlag .mark else s.regs })) ∧
     (∀ c n, e.work = .release c n → (s.chan n).state ≠ .engage →
       s.arrive e = State.resolve
         { s with
           fq := s.queueWithout e
           chans := s.chans.set n { s.chan n with
             holdWanted := false, standing := false
             state := if (s.chan n).state = .held then .released else (s.chan n).state } }
         c ([17, 0] ++ leBytes 6 (s.scu.pt.toNat / 16))) ∧
     (∀ c n g, e.work = .release c n → (s.chan n).state = .engage → (s.chan n).engage = some g →
       let u : State := { s with
         fq := s.queueWithout e
         chans := s.chans.set n { s.chan n with holdWanted := false, standing := false } }
       let v := u.pulseOver n g.grantDt s.scu.dt
       let x := (v.setChan n { v.chan n with engage := none }).resolve? g.cue ([16, 0] ++ leBytes 6 (s.scu.pt.toNat / 16))
       s.arrive e = (x.setChanState n .released).resolve c ([17, 0] ++ leBytes 6 (s.scu.pt.toNat / 16))) ∧
     (∀ c n, e.work = .engage (some c) n →
       let u := State.setChan s n { s.chan n with holdWanted := true }
       (s.csm.level = .brown →
         s.arrive e = State.resolve { u with fq := s.queueWithout e } c ([4, 5] ++ leBytes 6 (s.scu.pt.toNat / 16))) ∧
       (s.csm.level ≠ .brown → (s.chan n).state = .engage ∨ (s.chan n).state = .held →
         s.arrive e = State.resolve { u with fq := s.queueWithout e } c ([16, 0] ++ leBytes 6 (s.scu.pt.toNat / 16))) ∧
       (s.csm.level ≠ .brown → (s.chan n).state = .cooldown →
         s.arrive e = State.resolve { u with fq := s.queueWithout e } c ([4, 3] ++ leBytes 6 (s.scu.pt.toNat / 16))) ∧
       (s.csm.level ≠ .brown → (s.chan n).state = .released → s.arrive e = u.enterWait e)) ∧
     (∀ n, e.work = .engage none n →
       (s.csm.level = .brown ∨ (s.chan n).state = .engage ∨ (s.chan n).state = .held ∨ (s.chan n).state = .cooldown →
         s.arrive e = { s with fq := s.queueWithout e }) ∧
       (s.csm.level ≠ .brown → (s.chan n).state = .released → s.arrive e = s.enterWait e)) ∧
     (∀ w, e.work = .strike w →
       (s.csm.level = .brown →
         s.arrive e = State.resolve { s with fq := s.queueWithout e } w.cue
           ([4, 5 + (if s.rehearsal then 32 else 0)] ++ [0, 0, 0, 0, 0, 0])) ∧
       (s.csm.level ≠ .brown → s.arrive e = s.enterWait e)) ∧
     (∀ w, e.work = .restrike w →
       (s.csm.level = .brown →
         s.arrive e = State.resolve { s with fq := s.queueWithout e } w.cue
           ([4, 5 + 8 + (if w.rerouted then 16 else 0) + (if s.rehearsal then 32 else 0)] ++ [0, 0, 0, 0, 0, 0])) ∧
       (s.csm.level ≠ .brown → s.arrive e = s.enterWait e)) ∧
     (∀ c cmd, e.work = .rotor c cmd →
       s.arrive e = (State.rotorCommand { s with fq := s.queueWithout e } c.loc cmd).endItem c.pass))

/-- An entry entering slot wait waits from the present DT and a grant test is taken; with a skew tolerance of 0 it is dropped at once if it was not
granted (R70). A waiting entry whose skew expiry has passed is dropped with the cause of its position: CROWDED where a channel could fire it,
otherwise by its own channel's state; it leaves the queue with its result and nothing else changes but its pass (R75). That one SKEW_EXPIRY drops one
entry, the first in queue order, is the model's reading (log entry 24). A standing re-engage joins the
queue as an internal ENGAGE at the present PT as soon as there is room (R62, R65, R114). -/
def Obligations.EntriesWaitForASlotAndExpire : Prop :=
  (∀ (s : State) (e : FqEntry), s.queueNumbered → e ∈ s.fq →
     let u : State := { s with fq := s.fq.map fun x => if x = e then { x with wait := some s.scu.dt } else x }
     (s.global.skew ≠ 0 → s.enterWait e = u.grantTest) ∧
     (s.global.skew = 0 → (∀ x ∈ (s.enterWait e).fq, x.seq ≠ e.seq) ∧
       (∀ x ∈ (s.enterWait e).fq, x ∈ s.fq) ∧ ∀ n, grantedFrom s (s.chan n) ((s.enterWait e).chan n))) ∧
  (∀ (s : State) (e : FqEntry), s.nrstLow = false →
     s.perf.state = .running ∨ s.perf.state = .holding ∨ s.perf.state = .draining →
     s.fq.find? (fun x => match x.wait with
       | some d => reached s.scu.dt (d + BitVec.ofNat 32 s.global.skew)
       | none => false) = some e →
     ∃ t, exec .skewExpiry s = .next t ∧
       (∀ w, e.work = .strike w → publishes (State.resolve { s with fq := s.queueWithout e } w.cue
         ([4, (if (s.chan w.chan).state = .idle ∨ (∃ p, (s.ccfg w.chan).partner = some p ∧ (s.chan p).state = .idle) then 2
               else dropCauseOf (s.chan w.chan).state) + (if s.rehearsal then 32 else 0)] ++ [0, 0, 0, 0, 0, 0])) t) ∧
       (∀ w, e.work = .restrike w → publishes (State.resolve { s with fq := s.queueWithout e } w.cue
         ([4, (if (s.chan w.chan).state = .idle then 2 else dropCauseOf (s.chan w.chan).state) + 8 +
              (if w.rerouted then 16 else 0) + (if s.rehearsal then 32 else 0)] ++ [0, 0, 0, 0, 0, 0])) t) ∧
       (∀ c n, e.work = .engage (some c) n → publishes (State.resolve { s with fq := s.queueWithout e } c
         ([4, 2] ++ leBytes 6 (s.scu.pt.toNat / 16))) t) ∧
       (∀ n, e.work = .engage none n → publishes { s with fq := s.queueWithout e } t)) ∧
  (∀ (s : State) (n : ChanId), s.nrstLow = false → (s.chan n).standing = true → s.fq.length < 96 →
     ∃ t, exec (.standingReengagePlaced n) s = .next t ∧
       publishes { s with
         fq := t.fq, fqSeq := s.fqSeq + 1
         chans := s.chans.set n { s.chan n with standing := false } } t ∧
       ∃ e pre post, s.fq = pre ++ post ∧ t.fq = pre ++ e :: post ∧ e.work = .engage none n ∧
         e.onset = s.scu.pt.toNat ∧ e.fireTime = s.scu.pt.toNat ∧ e.wait = none)

/-- A result is written into the last 8 bytes of its cue's line and into no other byte, and then the end is counted: the pass's
outstanding count falls by one, and a pass that was marked reading-done and has nothing left outstanding closes, raising its
block's completion count by one, 255 becoming 0 (R36, R38, R158). -/
def Obligations.AResultIsWrittenAndItsEndCounted : Prop :=
  ∀ (s : State) (c : CueRef) (r : List Byte) (p : Pass), Memory.wf s.mem = true → r.length = 8 → c.loc.inBlock →
    s.passes.find? (fun e => e.id == c.pass) = some p → validBlockAddr p.block = true →
    (∀ q ∈ s.passes, q.id = c.pass → q = p) →
    let closes := p.readingDone && decide (p.outstanding ≤ 1)
    s.resolve c r = { s with mem := (s.resolve c r).mem, passes := (s.resolve c r).passes } ∧
    (∀ i (h : i < r.length), Memory.read (s.resolve c r).mem (c.loc.block.toNat + 16 * (c.loc.slot + 1) + 8 + i) = r[i]) ∧
    (s.resolve c r).passes =
      (if closes then s.passes.filter fun e => e.id != c.pass
       else s.passes.map fun e => if e.id = c.pass then { e with outstanding := e.outstanding - 1 } else e) ∧
    Memory.read (s.resolve c r).mem (p.block.toNat + 3) =
      (if closes then Memory.read s.mem (p.block.toNat + 3) + 1 else Memory.read s.mem (p.block.toNat + 3)) ∧
    sameOutside s (s.resolve c r) (fun a => resultArea c.loc a ∨ a = p.block.toNat + 3)

/-! ### Channels -/

/-- The pulse end of a STRIKE channel frees its slot, takes a grant test and adds the pulse's heat. A stroke still open goes on into
FLIGHT; one that is decided recovers from its contact, or from the pulse end; on a channel without sense it is PLAYED at the pulse end
with the lateness of its grant (R71, R86, R94, R101). That a contact taken during the pulse has the recovery counted from the contact itself,
although the pulse runs on to its width, is how the model reads R86 beside step 8 of R90 (log entry 15). -/
def Obligations.APulseEndFreesItsSlotAndHeatsTheCoil : Prop :=
  ∀ (s : State) (n : ChanId) (k : Stroke), s.nrstLow = false → (s.chan n).state = .drive → (s.chan n).stroke = some k →
    reached s.scu.dt k.pulseEnd = true →
    ∃ t, exec (.pulseEnd n) s = .next t ∧
      ((s.ccfg n).sensePresent = true → k.contact = none → k.resolved = false →
        publishes ((s.pulseOver n k.grantDt k.pulseEnd).setChanState n .flight) t) ∧
      (∀ raw, (s.ccfg n).sensePresent = true → k.contact = some raw →
        publishes ((s.pulseOver n k.grantDt k.pulseEnd).enterRecover n raw) t) ∧
      (k.contact = none → k.resolved = true →
        publishes ((s.pulseOver n k.grantDt k.pulseEnd).enterRecover n k.pulseEnd) t) ∧
      ((s.ccfg n).sensePresent = false → k.resolved = false →
        publishes (State.enterRecover
          (let u := s.pulseOver n k.grantDt k.pulseEnd
           let late := max (-32767) (min 32767 (Int.tdiv (k.grantPt + 16 * (k.lead : Int) - k.onset) 16))
           { u with
             mem := Memory.writeBytes u.mem (cueAddr k.cue.loc + 8)
               ([2, (if k.second then 8 else 0) + (if k.rerouted then 16 else 0) + (if s.rehearsal then 32 else 0)] ++
                 leBytes 2 k.fireDelay ++ leBytes 2 (BitVec.ofInt 16 late).toNat ++ [0, 0])
             chans := u.chans.set n { u.chan n with stroke := some { k with resolved := true } } }) n k.pulseEnd) t)

/-- A recovery that is over lets the stroke leave and its end be counted; the channel is FAULTED at its miss limit, in COOLDOWN where it is
at HOT or above, both with CHANNEL set, and otherwise IDLE with a grant test. A recovery entered with its end already passed is over at
once (R90, R94, R99). -/
def Obligations.ARecoveryEndsInIdleCooldownOrFault : Prop :=
  (∀ (s : State) (n : ChanId), s.nrstLow = false → (s.chan n).state = .recover →
    reached s.scu.dt (s.chan n).recoveryEnd = true →
    ∃ t, exec (.recoveryEnd n) s = .next t ∧ publishes (s.recoveryDone n) t) ∧
  (∀ (s : State) (n : ChanId) (start : DevTime),
    let u := s.setChan n { s.chan n with state := .recover, recoveryEnd := start + BitVec.ofNat 32 (s.ccfg n).recovery }
    s.enterRecover n start =
      if reached s.scu.dt (start + BitVec.ofNat 32 (s.ccfg n).recovery) then u.recoveryDone n else u) ∧
  (∀ (s : State) (n : ChanId),
    let left : State := { s with chans := s.chans.set n { s.chan n with stroke := none } }
    let u := match (s.chan n).stroke with
      | some k => left.endItem k.cue.pass
      | none => left
    s.recoveryDone n =
      if s.global.missLimit ≠ 0 ∧ s.global.missLimit ≤ (s.chan n).misses then
        { u.setChanState n .faulted with regs := s.regs.withFlag .channel }
      else if (s.ccfg n).hot ≤ (s.chan n).heat then { u.setChanState n .cooldown with regs := s.regs.withFlag .channel }
      else (u.setChanState n .idle).grantTest)

/-- A contact line's accepted edge settles its filter. On a STRIKE channel with sense present that is not OFF, outside rehearsal, it is a hit of the
open stroke in whose window it falls: the hit is recorded, a pulse with cut-off ends, and a channel in FLIGHT recovers. Otherwise it is a stray and
raises the stray count, at most 255. On any other channel it does nothing (R87, R89, R90, R92, R128). In rehearsal the contact of an open stroke is
synthesised at its grant DT plus its lead, and taken as a hit with no trim learned (R107). -/
def Obligations.AContactIsAHitOrAStray : Prop :=
  (∀ (s : State) (n : ChanId) (q : Qual) (l : Latch), s.nrstLow = false → s.perf.latch = some l →
     s.siu.sns[n] = { settled := (s.ccfg n).senseFalling, qual := some q } → q.bounce = none →
     reached s.scu.dt (q.holdStart + BitVec.ofNat 32 s.global.contactFilter) = true →
     let u : State := { s with siu := { s.siu with
       sns := s.siu.sns.set n { settled := !(s.ccfg n).senseFalling, qual := none } } }
     ∃ t, exec (.contactAccepted n) s = .next t ∧
       ((s.ccfg n).cls ≠ .strike ∨ (s.ccfg n).sensePresent = false ∨ (s.chan n).state = .off ∨ s.rehearsal = true → t = u) ∧
       ((s.ccfg n).cls = .strike → (s.ccfg n).sensePresent = true → (s.chan n).state ≠ .off → s.rehearsal = false →
         ((∀ k, (s.chan n).stroke = some k → k.resolved = true ∨ reached q.rawDt k.windowOpen = false ∨
             reached q.rawDt k.grantDt = false ∨ reached k.windowClose q.rawDt = false) →
           publishes (u.setChan n { s.chan n with strays := min 255 ((s.chan n).strays + 1) }) t) ∧
         (∀ k, (s.chan n).stroke = some k → k.resolved = false → reached q.rawDt k.windowOpen = true →
           reached q.rawDt k.grantDt = true → reached k.windowClose q.rawDt = true →
           publishes (u.hitTaken n k q.rawDt) t))) ∧
  (∀ (s : State) (n : ChanId) (k : Stroke), s.nrstLow = false → s.rehearsal = true → (s.ccfg n).cls = .strike →
     (s.ccfg n).sensePresent = true → (s.chan n).stroke = some k → k.resolved = false →
     reached s.scu.dt (k.grantDt + BitVec.ofNat 32 k.lead) = true →
     ∃ t, exec (.synthesisedContact n) s = .next t ∧
       publishes (s.hitTaken n k (k.grantDt + BitVec.ofNat 32 k.lead)) t ∧
       (t.chan n).trim = (s.chan n).trim)

/-- At its window settle an open stroke without contact asks for a restrike where it is the first attempt, is allowed one, the performance
was not stopped and the second attempt would come within the restrike limit; with room the RESTRIKE takes its result over. Otherwise it is a
MISS and raises the consecutive-miss count, at most 15. A channel in FLIGHT recovers from the later of pulse end and window close (R78, R93,
R94, R96, R97). -/
def Obligations.AWindowThatClosesWithoutContactIsDecided : Prop :=
  ∀ (s : State) (n : ChanId) (k : Stroke) (aim : Int), s.nrstLow = false → (s.ccfg n).sensePresent = true →
    s.rehearsal = false → (s.chan n).stroke = some k → k.resolved = false → k.contact = none →
    (s.chan n).state = .flight ∨ (s.chan n).state = .drive ∨ (s.chan n).state = .recover →
    reached s.scu.dt (k.windowClose + BitVec.ofNat 32 s.global.contactFilter) = true →
    aim = s.scu.pt.toNat + 16 * (k.windowClose + BitVec.ofNat 32 (s.ccfg n).recovery - s.scu.dt).toInt →
    let decided : Channel := { s.chan n with stroke := some { k with resolved := true } }
    let restruck := (s.setChan n decided).fqJoin
      (.restrike { cue := k.cue, chan := n, width := k.carried, lead := k.lead, rerouted := k.rerouted }) k.onset aim
    let missed : State := { s with
      mem := Memory.writeBytes s.mem (cueAddr k.cue.loc + 8)
        ([3, (if k.second then 8 else 0) + (if k.rerouted then 16 else 0)] ++ leBytes 2 k.fireDelay ++ [0, 0, 0, 0])
      chans := s.chans.set n { decided with misses := min 15 ((s.chan n).misses + 1) } }
    ∃ t, exec (.windowSettle n) s = .next t ∧
      (k.second = false → k.restrikeOk = true → s.perf.endCause ≠ .stopped →
        aim - k.onset ≤ 16 * (s.global.restrikeLimit : Int) → s.fq.length < 96 →
        publishes (if (s.chan n).state = .flight then restruck.enterRecover n (laterOf k.pulseEnd k.windowClose)
          else restruck) t) ∧
      (k.second = true ∨ k.restrikeOk = false ∨ s.perf.endCause = .stopped ∨
        16 * (s.global.restrikeLimit : Int) < aim - k.onset ∨ 96 ≤ s.fq.length →
        publishes (if (s.chan n).state = .flight then missed.enterRecover n (laterOf k.pulseEnd k.windowClose)
          else missed) t)

/-- An engage ends when its full drive does: the slot is freed, a grant test taken, the heat added, the result of its cue is ENGAGED with the
PT of the moment, and the channel is RELEASED where the hold is no longer wanted, in COOLDOWN with CHANNEL set where it is at HOT or
above, and otherwise HELD, its PWM beginning now (R110, R111). -/
def Obligations.AnEngageEndsInItsHold : Prop :=
  ∀ (s : State) (n : ChanId) (g : EngageRun), s.nrstLow = false → (s.chan n).state = .engage → (s.chan n).engage = some g →
    reached s.scu.dt g.endDt = true →
    let u := s.pulseOver n g.grantDt g.endDt
    let v := (u.setChan n { u.chan n with engage := none }).resolve? g.cue ([16, 0] ++ leBytes 6 (s.scu.pt.toNat / 16))
    ∃ t, exec (.engageEnd n) s = .next t ∧
      ((s.chan n).holdWanted = false → publishes (v.setChanState n .released) t) ∧
      ((s.chan n).holdWanted = true → (s.ccfg n).hot ≤ (v.chan n).heat →
        publishes { v.setChanState n .cooldown with regs := s.regs.withFlag .channel } t) ∧
      ((s.chan n).holdWanted = true → (v.chan n).heat < (s.ccfg n).hot →
        publishes (v.setChan n { v.chan n with state := .held, heldSince := s.scu.dt }) t)

/-- Each heat event takes ceil(H × D / 1024) from the heat, on a held channel after the hold's own heat is added, and schedules the next
10,000 µs on. A channel in COOLDOWN at RESUME or below becomes IDLE, with a grant test, or RELEASED; a held channel at HOT or above goes
into COOLDOWN. No other channel's heat, trim or counts change (R102, R113, R114). The rules name the decay for STRIKE and HOLD channels; that an
UNUSED channel's heat decays too, by its record's cooling, is the model's reading (log entry 6). -/
def Obligations.AHeatEventDecaysTheHeat : Prop :=
  ∀ (s : State) (n : ChanId) (warmed h : Nat), s.nrstLow = false → reached s.scu.dt (s.chan n).heatDue = true →
    warmed = (if (s.ccfg n).cls = .hold ∧ (s.chan n).state = .held ∧ s.rehearsal = false
      then min 65535 ((s.chan n).heat + 10000 * (s.ccfg n).holdDuty * (s.ccfg n).gain / 65536) else (s.chan n).heat) →
    h = warmed - (warmed * (s.ccfg n).cooling + 1023) / 1024 →
    ∃ t, exec (.heatEvent n) s = .next t ∧
      t = { s with mem := t.mem, passes := t.passes, fq := t.fq, fqSeq := t.fqSeq, slots := t.slots, chans := t.chans
                   regs := { s.regs with flags := t.regs.flags } } ∧
      (t.chan n).heat = h ∧ (t.chan n).heatDue = (s.chan n).heatDue + 10000 ∧
      (t.chan n).trim = (s.chan n).trim ∧ (t.chan n).misses = (s.chan n).misses ∧
      (t.chan n).strays = (s.chan n).strays ∧ (t.chan n).hits = (s.chan n).hits ∧
      (∀ m, m ≠ n → grantedFrom s (s.chan m) (t.chan m)) ∧
      ((s.ccfg n).cls = .strike →
        ((s.chan n).state = .cooldown → h ≤ (s.ccfg n).resume → (t.chan n).state = .idle ∨ (t.chan n).state = .drive) ∧
        ((s.chan n).state ≠ .cooldown ∨ (s.ccfg n).resume < h → (t.chan n).state = (s.chan n).state ∧ t.slots = s.slots)) ∧
      ((s.ccfg n).cls = .hold →
        ((s.chan n).state = .held → (s.ccfg n).hot ≤ h → (t.chan n).state = .cooldown ∧ t.regs = s.regs.withFlag .channel) ∧
        ((s.chan n).state = .cooldown → h ≤ (s.ccfg n).resume → (t.chan n).state = .released ∧
          ((s.chan n).holdWanted = true → (t.chan n).standing = true ∨ t.fq.length = s.fq.length + 1)) ∧
        (¬((s.chan n).state = .held ∧ (s.ccfg n).hot ≤ h) → ¬((s.chan n).state = .cooldown ∧ h ≤ (s.ccfg n).resume) →
          (t.chan n).state = (s.chan n).state)) ∧
      ((s.ccfg n).cls = .unused → (t.chan n).state = (s.chan n).state) ∧
      sameOutside s t (fun a => published a ∨ queuedResult s a ∨ passCount s a)

/-! ### The coil supply and the rotor -/

/-- The pins follow the state. While nothing gates them, DRV is on for a channel in DRIVE or ENGAGE, for the first d_h µs of every 256 µs since it
became HELD, and in no other state; IDLE, ENDED and FROZEN, BROWN, DFLT asserted, rehearsal and nRST low hold every DRV output off. A turning rotor
shows the pattern of its phase index, but for the same gates without DFLT. SYNCO follows its pulse and ATTN the enabled flags (R16, R107, R111,
R119, R124, R132, R140, R176). -/
def Obligations.ThePinsFollowTheState : Prop :=
  ∀ (s : State) (n : ChanId),
    let open_ : Prop := s.perf.state ≠ .idle ∧ s.perf.state ≠ .ended ∧ s.perf.state ≠ .frozen ∧ s.csm.level ≠ .brown ∧
      s.rehearsal = false ∧ s.nrstLow = false
    (¬open_ ∨ s.siu.dflt = true → s.drvOut n = false) ∧
    (open_ → s.siu.dflt = false →
      ((s.chan n).state = .drive ∨ (s.chan n).state = .engage → s.drvOut n = true) ∧
      ((s.chan n).state = .held →
        (s.drvOut n = true ↔ (s.scu.dt - (s.chan n).heldSince).toNat % 256 < (s.ccfg n).holdDuty)) ∧
      ((s.chan n).state ≠ .drive → (s.chan n).state ≠ .engage → (s.chan n).state ≠ .held → s.drvOut n = false)) ∧
    (¬open_ ∨ (s.rot.state ≠ .running ∧ s.rot.state ≠ .parking) → s.phOut = 0) ∧
    (open_ → s.rot.state = .running ∨ s.rot.state = .parking →
      (s.rot.phase = 0 → s.phOut = 0b0011) ∧ (s.rot.phase = 1 → s.phOut = 0b0110) ∧
      (s.rot.phase = 2 → s.phOut = 0b1100) ∧ (s.rot.phase = 3 → s.phOut = 0b1001)) ∧
    (s.nrstLow = false → s.syncoOut = s.scu.synco.isSome ∧ s.attnDrivenLow = s.attnAsserted ∧ s.misoHighImpedance = false)

/-- The housekeeping event, every 1,000 µs of DT, samples VSENSE, judges the reading by the table of R138 against the latched thresholds,
sets SUPPLY where the level changes, polls the link of a reader in LINK_WAIT and writes snapshot line B. Where the level stays, that is all: a link
found WAIT changes nothing, and any other is acted on as at the end of a pass (R1, R25, R39, R136 to R138, R163, R176). -/
def Obligations.HousekeepingJudgesTheSupply : Prop :=
  ∀ (s : State) (v r : Nat), s.nrstLow = false → reached s.scu.dt s.sched.houseDue = true → Memory.wf s.mem = true →
    r = min 255 (256 * v / 2500000) →
    ∃ t, exec (.housekeepingEvent v) s = .next t ∧
      t.sched = { s.sched with houseDue := s.sched.houseDue + 1000 } ∧
      t.csm.vsense = v ∧ t.csm.reading.toNat = r ∧
      t.csm.level = (match s.perf.latch with
        | none => s.csm.level
        | some l =>
          match s.csm.level with
          | .normal => if r ≤ l.global.brownOn then .brown else if r ≤ l.global.sagOn then .sag else .normal
          | .sag => if r ≤ l.global.brownOn then .brown else if l.global.sagOff ≤ r then .normal else .sag
          | .brown => if l.global.brownOff ≤ r then .sag else .brown) ∧
      (t.csm.level ≠ s.csm.level → t.flag .supply = true) ∧
      Memory.readBytes t.mem 0x20 16 = s.lineB ∧
      (t.csm.level = s.csm.level →
        let u : State := { s with csm := t.csm, sched := t.sched }
        let x : State :=
          if s.perf.state = .running ∧ s.reader.state = .linkWait ∧
            (Memory.read s.mem (s.reader.block.toNat + 4)).toNat ≠ 2 then u.linkTaken entryFuel else u
        t = { x with mem := t.mem } ∧ sameOutside x t (fun a => published a ∨ (0x20 ≤ a ∧ a < 0x30))) ∧
      t = { s with mem := t.mem, reader := t.reader, passes := t.passes, passSeq := t.passSeq, fq := t.fq, fqSeq := t.fqSeq
                   slots := t.slots, chans := t.chans, csm := t.csm, rot := t.rot, perf := t.perf, regs := t.regs
                   sched := t.sched }

/-- A housekeeping event that finds the supply in BROWN cuts every pulse and hold at once: no entry waits for a slot any more and none has joined,
no channel is in DRIVE, ENGAGE or HELD, the rotor stands still with its phase kept, and every output is off. A hold that was wanted is still wanted
(R77, R88, R115, R124, R140). One that finds BROWN over asks for a re-engage of every released hold channel whose hold is wanted: an internal ENGAGE
joins at the present PT, or with no room in the queue the request stands, which of them being the model's choice (R62, R65, R114, R115; log entry
35), and so is that an older request of the channel is served by the same entry (log entry 34). One that finds the supply NORMAL again takes a grant
test (R77). -/
def Obligations.SupplyLevelChangesActOnEveryOutput : Prop :=
  (∀ (s : State) (v : Nat) (l : Latch), s.nrstLow = false → reached s.scu.dt s.sched.houseDue = true →
    s.perf.latch = some l → s.csm.level ≠ .brown → min 255 (256 * v / 2500000) ≤ l.global.brownOn →
    (∀ n, (s.chan n).fits (s.ccfg n).cls) →
    ∃ t, exec (.housekeepingEvent v) s = .next t ∧ t.csm.level = .brown ∧ t.flag .supply = true ∧
      (∀ e ∈ t.fq, e ∈ s.fq ∧ e.wait = none) ∧
      (∀ n, (t.chan n).state ≠ .drive ∧ (t.chan n).state ≠ .engage ∧ (t.chan n).state ≠ .held ∧
        (t.chan n).holdWanted = (s.chan n).holdWanted) ∧
      t.rot.rate = 0 ∧ t.rot.search = none ∧ t.rot.nextStep = none ∧ t.rot.phase = s.rot.phase ∧
      (∀ n, t.drvOut n = false) ∧ t.phOut = 0 ∧
      sameOutside s t (fun a => published a ∨ (0x20 ≤ a ∧ a < 0x30) ∨ queuedResult s a ∨ (∃ n, channelResult s n a) ∨
        rotorResultArea s a ∨ passCount s a ∨ faultBytes a ∨ (0x1000 ≤ a ∧ a % 256 = 3))) ∧
  (∀ (s : State) (v : Nat) (l : Latch), s.nrstLow = false → reached s.scu.dt s.sched.houseDue = true →
    s.perf.latch = some l → s.csm.level = .brown → l.global.brownOff ≤ min 255 (256 * v / 2500000) →
    ¬(s.perf.state = .running ∧ s.reader.state = .linkWait) →
    let wants : ChanId → Prop := fun n =>
      (s.ccfg n).cls = .hold ∧ (s.chan n).state = .released ∧ (s.chan n).holdWanted = true
    ∃ t, exec (.housekeepingEvent v) s = .next t ∧ t.csm.level = .sag ∧
      t = { s with mem := t.mem, csm := t.csm, sched := t.sched, fq := t.fq, fqSeq := t.fqSeq, chans := t.chans
                   regs := s.regs.withFlag .supply } ∧
      s.fq.Sublist t.fq ∧ t.fqSeq + s.fq.length = s.fqSeq + t.fq.length ∧
      (∀ e ∈ t.fq, e ∈ s.fq ∨ ∃ n, wants n ∧ e.work = .engage none n ∧ s.fqSeq ≤ e.seq) ∧
      (∀ n, wants n →
        (t.chan n = { s.chan n with standing := false } ∧ ∃ e ∈ t.fq, e.work = .engage none n ∧ e.onset = s.scu.pt.toNat ∧
          e.fireTime = s.scu.pt.toNat ∧ e.wait = none ∧ s.fqSeq ≤ e.seq) ∨
        (t.chan n = { s.chan n with standing := true } ∧ 96 ≤ t.fq.length)) ∧
      (∀ n, ¬wants n → t.chan n = s.chan n) ∧
      sameOutside s t (fun a => published a ∨ (0x20 ≤ a ∧ a < 0x30))) ∧
  (∀ (s : State) (v : Nat) (l : Latch), s.nrstLow = false → reached s.scu.dt s.sched.houseDue = true →
    s.perf.latch = some l → s.csm.level = .sag → l.global.brownOn < min 255 (256 * v / 2500000) →
    l.global.sagOff ≤ min 255 (256 * v / 2500000) → ¬(s.perf.state = .running ∧ s.reader.state = .linkWait) →
    ∃ t, exec (.housekeepingEvent v) s = .next t ∧ t.csm.level = .normal ∧
      let x : State := State.grantTest { s with csm := t.csm, sched := t.sched }
      t = { x with mem := t.mem, regs := s.regs.withFlag .supply } ∧
      sameOutside x t (fun a => published a ∨ (0x20 ≤ a ∧ a < 0x30)))

/-- The report event, every 100,000 µs of DT, writes every channel's report entry as it stands, heat included, and nothing else (R164). -/
def Obligations.TheReportEventWritesEveryChannel : Prop :=
  ∀ s : State, s.nrstLow = false → reached s.scu.dt s.sched.reportDue = true → Memory.wf s.mem = true →
    ∃ t, exec .reportEvent s = .next t ∧
      t = { s with mem := t.mem, sched := { s.sched with reportDue := s.sched.reportDue + 100000 } } ∧
      (∀ n : ChanId, Memory.readBytes t.mem (0x540 + 8 * n.val) 8 =
        [BitVec.ofNat 8 ((s.chan n).state.code + 16 * (s.chan n).misses), BitVec.ofNat 8 (s.chan n).strays] ++
        leBytes 2 (s.chan n).heat ++ leBytes 2 (BitVec.ofInt 16 (s.chan n).trim).toNat ++ leBytes 2 (s.chan n).hits) ∧
      sameOutside s t (fun a => 0x540 ≤ a ∧ a < 0x740)

/-- The rate event, every 10,000 µs of DT, moves a turning rotor's rate toward its target by at most the acceleration. From 0 it takes its
first step at once, at 0 it takes no more; a FIXED or BEAT command is done at its target, an OFF command at rate 0, and a PARK arms the home
search at the park rate. In BROWN the rate stays as it is and a command is tested alike, which is how the model reads "at each rate event" (log
entry 31); at rest only the schedule moves on (R119 to R122, R124). -/
def Obligations.ARateEventMovesTheRateTowardItsTarget : Prop :=
  ∀ (s : State) (r : Nat), s.nrstLow = false → reached s.scu.dt s.rot.rateDue = true →
    r = (if s.rot.rate < s.rot.target then min s.rot.target (s.rot.rate + s.global.acceleration)
         else max s.rot.target (s.rot.rate - s.global.acceleration)) →
    s.rot.search = none ∨ s.rot.rate ≠ 0 →
    ∃ t, exec .rotorRateEvent s = .next t ∧
      (s.rot.state ≠ .running ∧ s.rot.state ≠ .parking →
        t = { s with rot := { s.rot with rateDue := s.rot.rateDue + 10000 } }) ∧
      (s.rot.state = .running ∨ s.rot.state = .parking → s.csm.level = .brown →
        let still : Rotor := { s.rot with rateDue := s.rot.rateDue + 10000 }
        ((∃ x, s.rot.cmd = some (.fixed x)) ∨ (∃ b, s.rot.cmd = some (.beat b)) →
          (s.rot.rate ≠ s.rot.target → t = { s with rot := still }) ∧
          (s.rot.rate = s.rot.target → publishes (State.rotorResolve { s with rot := still } .done) t)) ∧
        (s.rot.cmd = some .off → s.rot.state = .running →
          (s.rot.rate ≠ 0 → t = { s with rot := still }) ∧
          (s.rot.rate = 0 → publishes (State.rotorResolve
            { s with rot := { still with state := .stopped, rate := 0, target := 0, search := none, nextStep := none } } .done) t)) ∧
        (s.rot.cmd = some .park → t = { s with rot := still })) ∧
      (s.rot.state = .running ∨ s.rot.state = .parking → s.csm.level ≠ .brown →
        let turned : Rotor := { s.rot with
          rateDue := s.rot.rateDue + 10000, rate := r
          phase := if s.rot.rate = 0 ∧ 0 < r then (if s.global.reverse then s.rot.phase - 1 else s.rot.phase + 1)
                   else s.rot.phase
          nextStep := if r = 0 then none
                      else if s.rot.rate = 0 then some (s.scu.dt + BitVec.ofNat 32 (1000000 / r)) else s.rot.nextStep }
        ((∃ x, s.rot.cmd = some (.fixed x)) ∨ (∃ b, s.rot.cmd = some (.beat b)) →
          (r ≠ s.rot.target → publishes { s with rot := turned } t) ∧
          (r = s.rot.target → publishes (State.rotorResolve { s with rot := turned } .done) t)) ∧
        (s.rot.cmd = some .off → s.rot.state = .running →
          (r ≠ 0 → publishes { s with rot := turned } t) ∧
          (r = 0 → publishes (State.rotorResolve
            { s with rot := { turned with state := .stopped, rate := 0, target := 0, search := none, nextStep := none } } .done) t)) ∧
        (s.rot.cmd = some .park → s.rot.state = .parking →
          publishes { s with rot := { turned with
            search := if s.rot.search = none ∧ r = s.global.parkRate then some 0 else s.rot.search } } t))

/-- A scheduled step moves the phase by one in the latched direction and schedules the next at 1,000,000 / rate µs. While the home search is
armed it is counted; a HOME edge parks the rotor with its cue DONE, and a search of S + S / 8 steps without one is a HOME_FAULT with
CHANNEL set. A HOME edge outside a search only settles its filter (R119, R122, R129). -/
def Obligations.TheRotorStepsAndFindsItsHome : Prop :=
  (∀ (s : State) (d : DevTime), s.nrstLow = false → s.rot.nextStep = some d → reached s.scu.dt d = true →
    let stepped : Rotor := { s.rot with
      phase := if s.global.reverse then s.rot.phase - 1 else s.rot.phase + 1
      search := s.rot.search.map (· + 1)
      nextStep := if s.rot.rate = 0 then none else some (d + BitVec.ofNat 32 (1000000 / s.rot.rate)) }
    ∃ t, exec .rotorStep s = .next t ∧
      (s.rot.search = none → t = { s with rot := stepped }) ∧
      (∀ c, s.rot.search = some c → c + 1 < s.global.stepsPerRev + s.global.stepsPerRev / 8 →
        t = { s with rot := stepped }) ∧
      (∀ c, s.rot.search = some c → s.global.stepsPerRev + s.global.stepsPerRev / 8 ≤ c + 1 →
        publishes { State.rotorResolve
          { s with rot := { stepped with state := .homeFault, rate := 0, target := 0, search := none, nextStep := none } }
          .homeFault with regs := s.regs.withFlag .channel } t)) ∧
  (∀ (s : State) (q : Qual) (l : Latch), s.nrstLow = false → s.perf.latch = some l →
    s.siu.home = { settled := l.global.homeFalling, qual := some q } → q.bounce = none →
    reached s.scu.dt (q.holdStart + 1000) = true →
    let u : State := { s with siu := { s.siu with home := { settled := !l.global.homeFalling, qual := none } } }
    ∃ t, exec .homeEdge s = .next t ∧
      (s.rot.search = none → t = u) ∧
      (∀ c, s.rot.search = some c → publishes (State.rotorResolve
        { u with rot := { s.rot with state := .parked, rate := 0, target := 0, search := none, nextStep := none } }
        .done) t)) ∧
  (∀ (s : State) (o : CueOutcome),
    (∀ l, s.rot.owed = some l → s.rotorResolve o =
      { s with
        rot := { s.rot with owed := none }
        mem := Memory.writeBytes s.mem (cueAddr l + 8) ([BitVec.ofNat 8 o.code, 0] ++ leBytes 6 (s.scu.pt.toNat / 16)) }) ∧
    (s.rot.owed = none → s.rotorResolve o = s))

/-- A ROTOR command taken up supersedes the cue still pending, which it replaces, disarms the search and takes its own target: its rate for
FIXED, the beat rate for BEAT, 0 for OFF, the park rate for PARK. What is reached already is DONE at once, and a park in rehearsal is complete
at once (R120 to R122). -/
def Obligations.ARotorCommandReplacesTheLast : Prop :=
  ∀ (s : State) (l : CueLoc),
    let u : State := s.rotorResolve .superseded
    (∀ r, s.rotorCommand l (.fixed r) =
      let v : State := { u with rot := { u.rot with
        owed := some l, cmd := some (.fixed r), search := none, target := r, state := .running } }
      if s.rot.rate = r then v.rotorResolve .done else v) ∧
    (∀ b, s.rotorCommand l (.beat b) =
      let v : State := { u with rot := { u.rot with
        owed := some l, cmd := some (.beat b), search := none, state := .running
        target := min 2000 (b * 16000000 / (192 * s.scu.period)) } }
      if s.rot.rate = v.rot.target then v.rotorResolve .done else v) ∧
    (s.rot.state = .stopped ∨ s.rot.state = .parked ∨ s.rot.state = .homeFault ∨ s.rot.rate = 0 →
      s.rotorCommand l .off = State.rotorResolve { u with rot := { u.rot with
        owed := some l, cmd := some .off, search := none, state := .stopped, rate := 0, target := 0, nextStep := none } } .done) ∧
    (s.rot.state = .running ∨ s.rot.state = .parking → s.rot.rate ≠ 0 →
      s.rotorCommand l .off = { u with rot := { u.rot with
        owed := some l, cmd := some .off, search := none, state := .running, target := 0 } }) ∧
    (s.rot.state = .parked →
      s.rotorCommand l .park = State.rotorResolve { u with rot := { u.rot with
        owed := some l, cmd := some .park, search := none } } .done) ∧
    (s.rot.state ≠ .parked → s.rehearsal = true →
      s.rotorCommand l .park = State.rotorResolve { u with rot := { u.rot with
        owed := some l, cmd := some .park, search := none, state := .parked, rate := 0, target := 0, nextStep := none } } .done) ∧
    (s.rot.state ≠ .parked → s.rehearsal = false →
      s.rotorCommand l .park = { u with rot := { u.rot with
        owed := some l, cmd := some .park, state := .parking, target := s.global.parkRate
        search := if s.rot.rate = s.global.parkRate ∧ s.csm.level ≠ .brown then some 0 else none } })

/-- A draining performance parks a running rotor that no ROTOR entry or cue claims, as a PARK command without a cue; and it is complete
when nothing is queued, in flight, in the agenda or open and the rotor stands still: it ENDS with its end cause kept, and the hold channels
are released (R116, R122, R123, R153). -/
def Obligations.ADrainParksTheRotorAndCompletes : Prop :=
  (∀ s : State, s.nrstLow = false → s.perf.state = .draining → (∀ e ∈ s.fq, ∀ c cmd, e.work ≠ .rotor c cmd) →
    s.rot.owed = none → s.rot.state = .running →
    ∃ t, exec .drainPark s = .next t ∧
      (s.rehearsal = true → publishes { s with rot := { s.rot with
        cmd := some .park, state := .parked, rate := 0, target := 0, search := none, nextStep := none } } t) ∧
      (s.rehearsal = false → publishes { s with rot := { s.rot with
        cmd := some .park, state := .parking, target := s.global.parkRate
        search := if s.rot.rate = s.global.parkRate ∧ s.csm.level ≠ .brown then some 0 else none } } t)) ∧
  (∀ s : State, s.nrstLow = false → s.perf.state = .draining → s.fq = [] → s.scu.agenda = [] → s.passes = [] →
    (∀ n, (s.chan n).stroke = none ∧ (s.chan n).engage = none ∧ (s.chan n).state ≠ .engage) →
    s.rot.state = .parked ∨ s.rot.state = .stopped ∨ s.rot.state = .homeFault →
    ∃ t, exec .drainComplete s = .next t ∧
      publishes { s with
        chans := t.chans, perf := { s.perf with state := .ended, prior := none }, regs := s.regs.withFlag .ended } t ∧
      ∀ n, t.chan n =
        if (s.ccfg n).cls = .hold then { s.chan n with
          holdWanted := false, standing := false
          state := if (s.chan n).state = .held then .released else (s.chan n).state }
        else s.chan n)

/-! ### The sense inputs and the freeze -/

/-- A sample that shows a transition begins a qualification, marks a bounce in one, or restarts its hold; a candidate held for the filter
time in the direction that is not delivered only settles; a bounce held for the filter time abandons the qualification. A sample of the stop
lines moves the quiet qualifier, and a sample that shows DFLT deasserted ends its gating. None of them changes anything else (R126 to R130,
R132, R133). -/
def Obligations.SamplesMoveFiltersAndQualifiersAlone : Prop :=
  (∀ (s : State) (l : InLine), s.nrstLow = false →
    exec (.lineTransition l) s = .next (s.setFilter l { s.filter l with
      qual := match (s.filter l).qual with
        | none => some { rawDt := s.scu.dt, holdStart := s.scu.dt, bounce := none }
        | some q => if q.bounce.isSome then some { q with holdStart := s.scu.dt, bounce := none }
                    else some { q with bounce := some s.scu.dt } })) ∧
  (∀ (s : State) (l : InLine) (q : Qual), s.nrstLow = false → (s.filter l).qual = some q → q.bounce = none →
    reached s.scu.dt (q.holdStart + BitVec.ofNat 32 (s.filterTime l)) = true → s.delivers l = false →
    exec (.returnEdgeAccepted l) s = .next (s.setFilter l { settled := !(s.filter l).settled, qual := none })) ∧
  (∀ (s : State) (l : InLine) (q : Qual) (b : DevTime), s.nrstLow = false → (s.filter l).qual = some q → q.bounce = some b →
    reached s.scu.dt (b + BitVec.ofNat 32 (s.filterTime l)) = true →
    exec (.filterQualificationAbandoned l) s = .next (s.setFilter l { s.filter l with qual := none })) ∧
  (∀ s : State, s.filterTime .synci = 1000 ∧ s.filterTime .cuei = 1000 ∧ s.filterTime .home = 1000 ∧
    ∀ n, s.filterTime (.sns n) = (match s.perf.latch with
      | some l => l.global.contactFilter
      | none => 0)) ∧
  (∀ (s : State) (a b : Bool), s.nrstLow = false →
    exec (.quietQualifierChange a b) s = .next { s with siu := { s.siu with
      stopA := a, stopB := b
      quiet := if a = true ∧ b = false
               then (if s.siu.quiet = .opened then .qualifying s.scu.dt else s.siu.quiet) else .opened } }) ∧
  (∀ s : State, s.nrstLow = false →
    exec .dfltDeassertion s = .next { s with siu := { s.siu with dflt := false, dfltSeen := false } }) ∧
  (∀ s : State, s.nrstLow = false → s.siu.dfltSeen = true → exec .dfltAssertion s = .next s)

/-- A quiet request is taken 50,000 µs after both stop lines were asserted, a DFLT assertion at its sample. Each freezes a performance that plays.
In IDLE, LOADING or ENDED it makes the performance FROZEN with its end cause, a LOADING's staging copy is discarded (R149), and the rotor enters
STOPPED as R124 says of each that is taken, which is the model's reading where Table 7-2 names no block's action (log entry 36). That the rotor
keeps no command is the model's reading too (log entry 18). An already FROZEN performance keeps its end cause. A DFLT assertion also hands a drive
fault to the Status Writer, in every performance state: an EMPTY record takes its kind and detail with PT and DT, a HELD one only has its overlap
flag set (R130, R131, R133, R134, R166). That this flag is the value 1 is the model's choice (log entry 39), and that a freeze in LOADING leaves the
reader in the state it had is its reading (log entry 37). -/
def Obligations.AQuietRequestOrDfltFreezesThePerformance : Prop :=
  (∀ (s : State) (d : DevTime), s.nrstLow = false → s.siu.quiet = .qualifying d → reached s.scu.dt (d + 50000) = true →
    ∃ t, exec .quietRequest s = .next t ∧ t.siu = { s.siu with quiet := .taken } ∧
      (s.perf.state.plays → frozenFrom s t .quiet) ∧
      (s.perf.state = .idle ∨ s.perf.state = .loading ∨ s.perf.state = .ended →
        publishes { s.rotorResolve .quieted with
          siu := t.siu, perf := { s.perf with state := .frozen, endCause := .quiet, prior := none, staged := [] }
          rot := s.rot.quieted, regs := s.regs.withFlag .frozen } t) ∧
      (s.perf.state = .frozen → t = { s with siu := t.siu })) ∧
  (∀ s : State, s.nrstLow = false → s.siu.dfltSeen = false → Memory.wf s.mem = true →
    (∀ l, s.rot.owed = some l → l.inBlock) →
    ∃ t, exec .dfltAssertion s = .next t ∧ t.siu = { s.siu with dflt := true, dfltSeen := true } ∧ t.flag .fault = true ∧
      (s.perf.state.plays → frozenFrom s t .driveFault) ∧
      (s.perf.state = .idle ∨ s.perf.state = .loading ∨ s.perf.state = .ended →
        t = { s with
          mem := t.mem, siu := t.siu, rot := s.rot.quieted
          perf := { s.perf with state := .frozen, endCause := .driveFault, prior := none, staged := [] }
          regs := (s.regs.withFlag .frozen).withFlag .fault }) ∧
      (s.perf.state = .frozen → t = { s with mem := t.mem, siu := t.siu, regs := s.regs.withFlag .fault }) ∧
      (¬s.perf.state.plays → sameOutside s t (fun a => published a ∨ faultBytes a ∨ rotorResultArea s a)) ∧
      (¬s.perf.state.plays ∨ s.refsInBlocks → Memory.read s.mem 0x70 ≠ 1 →
        Memory.readBytes t.mem 0x70 4 = [1, 0, 3, 7] ∧ Memory.readBytes t.mem 0x40 8 = [0, 0, 0, 0, 0, 0, 0, 0] ∧
        Memory.readBytes t.mem 0x50 12 = leBytes 6 (s.scu.pt.toNat / 16) ++ [0, 0] ++ leBytes 4 s.scu.dt.toNat) ∧
      (¬s.perf.state.plays ∨ s.refsInBlocks → Memory.read s.mem 0x70 = 1 → Memory.read t.mem 0x71 = 1 ∧
        ∀ a, faultBytes a → a ≠ 0x71 → Memory.read t.mem a = Memory.read s.mem a))

/-! ### LOADING -/

/-- An unlocked LOADING accepts a staging copy exactly when its sync mode and supply thresholds are good, every channel's class is one of the three,
every STRIKE channel's partner, heat thresholds and map and every HOLD channel's heat thresholds are good, and its start block has a valid address,
the signature and a cue count of at most 15; a locked one looks at the start block alone (R145). One that fails ENDS with CONFIG_ERROR and a
configuration fault, keeping everything latched and discarding the staging copy (R146). The staging copy holds what LOADING has read; once all is
read no later write shows in it (R144). That LOADING_COMPLETE reads what has not been read yet, as it then stands, is the model's choice (log entry
9), and so is the value 1 of the overlap flag (log entry 39); that a failed LOADING leaves the reader in the state it had is its reading of R143
beside R44 and R146 (log entry 37). -/
def Obligations.LoadingChecksTheConfiguration : Prop :=
  (∀ s : State,
    s.loadingError = none ↔
      (s.perf.lock = false →
        (byteAt s.stagedGlobal 2).toNat ≤ 2 ∧
        (byteAt s.stagedGlobal 0x19).toNat < (byteAt s.stagedGlobal 0x1A).toNat ∧
        (byteAt s.stagedGlobal 0x1B).toNat < (byteAt s.stagedGlobal 0x1C).toNat ∧
        (byteAt s.stagedGlobal 0x1C).toNat ≤ (byteAt s.stagedGlobal 0x19).toNat ∧
        ∀ n : ChanId,
          let cls := (byteAt (s.stagedChan n) 0).toNat % 4
          let k := readChannel (s.stagedChan n)
          cls ≠ 3 ∧ (cls = 1 ∨ cls = 2 → k.warm ≤ k.hot ∧ k.resume < k.hot) ∧
          (cls = 1 →
            (∀ p, k.partner = some p → p ≠ n ∧ (byteAt (s.stagedChan p) 0).toNat % 4 = 1) ∧
            ∃ m, validateMap k.mapAddr (s.stagedRecord n) = .ok m)) ∧
      validBlockAddr s.stagedStart = true ∧
      leNat (s.stagedHeader.take 2) = 0x5A43 ∧ (byteAt s.stagedHeader 2).toNat ≤ 15) ∧
  (∀ s : State, s.perf.staged = [] →
    s.stagedStart = BitVec.ofNat 16 (leNat (Memory.readBytes s.mem 0x100 2)) ∧
    (validBlockAddr s.stagedStart = true → s.stagedHeader = Memory.readBytes s.mem s.stagedStart.toNat 16) ∧
    (s.perf.lock = false →
      s.stagedGlobal = Memory.readBytes s.mem 0x100 64 ∧
      ∀ n : ChanId,
        let record := Memory.readBytes s.mem (0x140 + 16 * n.val) 16
        s.stagedChan n = record ∧
        ((byteAt record 0).toNat % 4 = 1 → validMapAddr (readChannel record).mapAddr = true →
          s.stagedRecord n = Memory.readBytes s.mem (readChannel record).mapAddr.toNat 64))) ∧
  (∀ s t : State, 325 ≤ s.perf.staged.length → t.perf = s.perf →
    t.loadingError = s.loadingError ∧ t.stagedGlobal = s.stagedGlobal ∧
    ∀ n, t.stagedChan n = s.stagedChan n ∧ t.stagedRecord n = s.stagedRecord n) ∧
  (∀ (s : State) (e : ConfigError), s.nrstLow = false → s.perf.state = .loading → s.loadingError = some e →
    Memory.wf s.mem = true →
    ∃ t, exec .loadingComplete s = .next t ∧
      t = { s with
        mem := t.mem, staging := t.staging
        perf := { s.perf with state := .ended, endCause := .configError, prior := none, staged := [] }
        regs := (s.regs.withFlag .fault).withFlag .ended } ∧
      (Memory.read s.mem 0x70 ≠ 1 →
        Memory.readBytes t.mem 0x70 4 = [1, 0, 2, BitVec.ofNat 8 e.detail.code] ∧
        Memory.readBytes t.mem 0x40 3 = leBytes 2 e.block.toNat ++ [BitVec.ofNat 8 e.slot]) ∧
      (Memory.read s.mem 0x70 = 1 → Memory.read t.mem 0x71 = 1) ∧
      sameOutside s t (fun a => published a ∨ faultBytes a))

/-- A LOADING whose checks pass latches the staged configuration and maps (unlocked) or the start block alone (locked), places every channel by its
class, sets the score to tick 0 at PT 0, and enters RUNNING; the reader enters the start block on its header as it now stands: a header rewritten
since LOADING read it is a chain fault, a block without cues is left by its link, and a slot 0 without a readable cue is a chain fault too (R7, R25,
R26, R43, R48, R83, R108, R147). The model's choices and readings here: lines not read yet are read as they stand (log entry 9), the counts of a
HOLD channel are 0 (log entry 22), the reader stands in HORIZON when the step ends (log entry 17), and a SYNCO pulse still running runs on into the
new performance (log entry 38). -/
def Obligations.ASuccessfulLoadingStartsThePerformance : Prop :=
  ∀ s : State, s.nrstLow = false → s.perf.state = .loading → s.loadingError = none → s.passes = [] →
    ∃ t, exec .loadingComplete s = .next t ∧
      t = { s with
        mem := t.mem, scu := t.scu, reader := t.reader, passes := t.passes, passSeq := t.passSeq, chans := t.chans
        maps := t.maps, staging := t.staging, rot := { s.rot with target := t.rot.target }, perf := t.perf
        regs := { s.regs with flags := t.regs.flags } } ∧
      t.perf.latch = (if s.perf.lock then s.perf.latch.map fun l => { l with startBlock := s.stagedStart }
        else some { global := readGlobal s.stagedGlobal
                    chans := Vector.ofFn fun n => readChannel (s.stagedChan n)
                    startBlock := s.stagedStart }) ∧
      t.perf.lock = s.perf.lock ∧ t.perf.staged = [] ∧ (t.perf.state = .running ∨ t.perf.state = .draining) ∧
      t.scu = { s.scu with
        pt := 0, tick := 0, period := t.global.initialPeriod, tempo := { base := t.global.initialPeriod, ramp := none }
        cond := if t.global.syncMode = .follow then .unscheduled else .scheduled (t.global.lookAhead * 16000)
        sync := if t.global.syncMode = .follow then .acquire else .none
        holdExpiry := none, lossElapsed := none, prevPulse := none, resumed := false } ∧
      (∀ n : ChanId,
        (t.chan n).stroke = none ∧ (t.chan n).engage = none ∧ (t.chan n).holdWanted = false ∧
        (t.chan n).standing = false ∧ (t.chan n).heat = (s.chan n).heat ∧
        ((t.ccfg n).cls = .unused → (t.chan n).state = .off) ∧
        ((t.ccfg n).cls ≠ .unused →
          (t.chan n).misses = 0 ∧ (t.chan n).strays = 0 ∧ (t.chan n).hits = 0 ∧
          ((t.ccfg n).hot ≤ (s.chan n).heat → (t.chan n).state = .cooldown ∧ t.flag .channel = true)) ∧
        ((t.ccfg n).cls = .strike →
          (t.chan n).trim = (if s.perf.lock then (s.chan n).trim else (t.ccfg n).initialTrim) ∧
          ((s.chan n).heat < (t.ccfg n).hot → (t.chan n).state = .idle)) ∧
        ((t.ccfg n).cls = .hold → (s.chan n).heat < (t.ccfg n).hot → (t.chan n).state = .released) ∧
        t.maps[n] =
          (if s.perf.lock then s.maps[n]
           else if (t.ccfg n).cls = .strike then
             (validateMap (t.ccfg n).mapAddr (s.stagedRecord n)).toOption
           else none)) ∧
      sameOutside s t (fun a => published a ∨ faultBytes a ∨ (0x1000 ≤ a ∧ a % 256 = 3)) ∧
      (let start := s.stagedStart.toNat
       let count := (Memory.read s.mem (start + 2)).toNat
       let good := leNat (Memory.readBytes s.mem start 2) = 0x5A43 ∧ count ≤ 15
       let faulted := t.perf.state = .draining ∧ t.perf.endCause = .chainFault ∧ t.reader.state = .faulted ∧
         t.reader.pending = .none ∧ t.reader.pass = none ∧ t.passes = [] ∧ t.flag .fault = true
       (¬good → faulted ∧ t.reader.block = s.reader.block) ∧
       (good → t.reader.stack = [] ∧ (0 < count → t.reader.block = s.stagedStart ∧ t.reader.count = count)) ∧
       (good → 0 < count → readCue (Memory.readBytes s.mem (start + 16) 16) = none → faulted) ∧
       (good → count = 0 → (Memory.read s.mem (start + 4)).toNat = 1 →
         t.perf.state = .draining ∧ t.perf.endCause = .complete ∧ t.reader.state = .finished ∧ t.passes = []) ∧
       (good → count = 0 → (Memory.read s.mem (start + 4)).toNat = 2 →
         t.perf.state = .running ∧ t.reader.state = .linkWait ∧
         t.passes = [{ id := s.passSeq, block := s.stagedStart, outstanding := 0, readingDone := false }]) ∧
       ∀ c, good → 0 < count → readCue (Memory.readBytes s.mem (start + 16) 16) = some c →
         t.perf.state = .running ∧ t.perf.endCause = s.perf.endCause ∧
         t.reader = { state := .horizon, tick := c.delta.setWidth 32, block := s.stagedStart, slot := 0, count := count
                      pass := some s.passSeq, pending := .cue c, stack := [], starved := s.reader.starved } ∧
         t.passes = [{ id := s.passSeq, block := s.stagedStart, outstanding := 0, readingDone := false }])

/-! ### The reader -/

/-- The reader goes on: to the next slot of its pass, whose cue it reads or which is a chain fault BAD_CUE; past the last slot it acts on
the link word as it now stands: END finishes the reading, WAIT waits, NEXT enters the block named where there is room for another pass and its
header is good, stalls without room, and is a chain fault with a bad header, as is any other link kind. A block entered is read from its slot 0, whose
cue is read or a chain fault; one with a cue count of 0 is left by its own link at once (R22 to R26, R37, R40 to R42). That one step goes through at
most 241 empty blocks is the model's (log entry 7). -/
def Obligations.TheReaderGoesOnAsTheChainSays : Prop :=
  ∀ s : State,
    (s.reader.slot + 1 < s.reader.count →
      (∀ c, readCue (Memory.readBytes s.mem (s.reader.block.toNat + 16 * (s.reader.slot + 2)) 16) = some c →
        s.readNext = s.cueRead (s.reader.slot + 1) c) ∧
      (readCue (Memory.readBytes s.mem (s.reader.block.toNat + 16 * (s.reader.slot + 2)) 16) = none →
        s.readNext = s.chainFaulted .badCueKind s.reader.block (s.reader.slot + 1)
          (Memory.read s.mem (s.reader.block.toNat + 16 * (s.reader.slot + 2))).toNat)) ∧
    (s.reader.count ≤ s.reader.slot + 1 →
      let kind := (Memory.read s.mem (s.reader.block.toNat + 4)).toNat
      let a : Addr := BitVec.ofNat 16 (leNat (Memory.readBytes s.mem (s.reader.block.toNat + 6) 2))
      (kind = 1 → s.readNext =
        (State.passLeft { s with reader := { s.reader with state := .finished, pending := .none } }).drains .complete) ∧
      (kind = 2 → s.readNext = State.starvedTest { s with reader := { s.reader with
        state := .linkWait, pending := .none, starved := false } }) ∧
      (kind ≠ 1 ∧ kind ≠ 2 ∧ kind ≠ 3 → s.readNext = s.chainFaulted .badLinkKind s.reader.block 15 0) ∧
      (kind = 3 → 8 ≤ s.passes.length →
        s.readNext = { s with reader := { s.reader with state := .stalled, pending := .entry a } }) ∧
      (kind = 3 → s.passes.length < 8 → validBlockAddr a = false →
        s.readNext = s.chainFaulted .badLinkAddress s.reader.block 15 0) ∧
      (kind = 3 → s.passes.length < 8 → validBlockAddr a = true →
        leNat (Memory.readBytes s.mem a.toNat 2) ≠ 0x5A43 →
        s.readNext = s.chainFaulted .badLinkSignature s.reader.block 15 0) ∧
      (kind = 3 → s.passes.length < 8 → validBlockAddr a = true → leNat (Memory.readBytes s.mem a.toNat 2) = 0x5A43 →
        15 < (Memory.read s.mem (a.toNat + 2)).toNat →
        s.readNext = s.chainFaulted .badBlockCount a 15 0) ∧
      (∀ c, kind = 3 → s.passes.length < 8 → validBlockAddr a = true →
        leNat (Memory.readBytes s.mem a.toNat 2) = 0x5A43 →
        0 < (Memory.read s.mem (a.toNat + 2)).toNat → (Memory.read s.mem (a.toNat + 2)).toNat ≤ 15 →
        (∀ p ∈ s.passes, validBlockAddr p.block = true) →
        readCue (Memory.readBytes s.mem (a.toNat + 16) 16) = some c →
        s.readNext = (s.passLeft.passEntered a (Memory.read s.mem (a.toNat + 2)).toNat s.reader.stack).cueRead 0 c) ∧
      (kind = 3 → s.passes.length < 8 → validBlockAddr a = true → leNat (Memory.readBytes s.mem a.toNat 2) = 0x5A43 →
        0 < (Memory.read s.mem (a.toNat + 2)).toNat → (Memory.read s.mem (a.toNat + 2)).toNat ≤ 15 →
        (∀ p ∈ s.passes, validBlockAddr p.block = true) →
        readCue (Memory.readBytes s.mem (a.toNat + 16) 16) = none →
        s.readNext = (s.passLeft.passEntered a (Memory.read s.mem (a.toNat + 2)).toNat s.reader.stack).chainFaulted
          .badCueKind a 0 (Memory.read s.mem (a.toNat + 16)).toNat) ∧
      (kind = 3 → s.passes.length < 8 → validBlockAddr a = true → leNat (Memory.readBytes s.mem a.toNat 2) = 0x5A43 →
        Memory.read s.mem (a.toNat + 2) = 0 → (∀ p ∈ s.passes, validBlockAddr p.block = true) →
        s.readNext = (s.passLeft.passEntered a 0 s.reader.stack).linkTaken (entryFuel - 1)))

/-- A pending cue whose projected onset is within the look-ahead of PT goes on: a cue Table 2-3 refuses is REFUSED and the reader goes on (a
STRIKE's result with the REHEARSED mark in rehearsal, by R95 and R107 against the letter of R160: log entry 32); one whose collection is full stalls
the reader; any other places its work, with its planned values and fire time, and the reader goes on or, at a holdpoint, is HELD. A stalled cue goes
on in the same way, without the horizon, once there is room, and a stalled block entry is made (R27 to R33, R57, R65). -/
def Obligations.APendingCueIsAdmittedStalledOrRefused : Prop :=
  (∀ (s : State) (c : Cue) (onset : Int), s.nrstLow = false → s.perf.state = .running → s.reader.state = .horizon →
    s.reader.pending = .cue c → s.cueOnset c = some onset → onset ≤ s.scu.pt.toNat + 16000 * (s.global.lookAhead : Int) →
    ∃ t, exec .horizonPassed s = .next t ∧ publishes (s.takeOn c onset) t) ∧
  (∀ (s : State) (c : Cue) (onset : Int), s.nrstLow = false → s.perf.state = .running → s.reader.state = .stalled →
    s.reader.pending = .cue c → s.cueOnset c = some onset → s.pendingRoom = true →
    ∃ t, exec .stallReleased s = .next t ∧ publishes (s.takeOn c onset) t) ∧
  (∀ (s : State) (a : Addr), s.nrstLow = false → s.perf.state = .running → s.reader.state = .stalled →
    s.reader.pending = .entry a → s.passes.length < 8 →
    ∃ t, exec .stallReleased s = .next t ∧ publishes (s.enterBlock a .link entryFuel) t) ∧
  (∀ (s : State) (c : Cue) (onset : Int),
    ((∃ ch v m r, c.body = .strike ch v m r ∧ s.chanOf ch .strike = none) ∨
      (∃ ch op m, c.body = .hold ch op m ∧ (s.chanOf ch .hold = none ∨ op = none)) ∨
      c.body = .rotor none ∨ (∃ ch a r, c.body = .map ch a r ∧ s.chanOf ch .strike = none) →
      s.takeOn c onset = (State.readNext { s with
        mem := Memory.writeBytes s.mem (cueAddr s.cueLoc + 8)
          [7, (match c.body with
              | .strike .. => if s.rehearsal then 32 else 0
              | _ => 0), 0, 0, 0, 0, 0, 0] })) ∧
    (∀ (b : Byte) (cls : ChanClass) (n : ChanId),
      s.chanOf b cls = some n ↔ b.toNat = n.val ∧ (s.ccfg n).cls = cls) ∧
    (∀ ch v m r n, c.body = .strike ch v m r → s.chanOf ch .strike = some n → s.fq.length < 96 →
      s.takeOn c onset = s.cueQueued (.strike { cue := s.cueRef, chan := n, width := (s.planStrike n v onset).width
                                                lead := (s.planStrike n v onset).lead
                                                velocity := (s.planStrike n v onset).velocity, restrikeOk := r })
        onset (onset - 16 * ((s.planStrike n v onset).lead : Int))) ∧
    (∀ ch m n, c.body = .hold ch (some .engage) m → s.chanOf ch .hold = some n → s.fq.length < 96 →
      s.takeOn c onset = s.cueQueued (.engage (some s.cueRef) n) onset (onset - 16 * ((s.ccfg n).engageLead : Int))) ∧
    (∀ ch m n, c.body = .hold ch (some .release) m → s.chanOf ch .hold = some n → s.fq.length < 96 →
      s.takeOn c onset = s.cueQueued (.release s.cueRef n) onset (onset - 16 * ((s.ccfg n).releaseLead : Int))) ∧
    (∀ cmd, c.body = .rotor (some cmd) → s.fq.length < 96 →
      s.takeOn c onset = s.cueQueued (.rotor s.cueRef cmd) onset onset) ∧
    (∀ r, c.body = .mark r → s.fq.length < 96 → s.takeOn c onset = s.cueQueued (.mark s.cueRef r) onset onset) ∧
    (96 ≤ s.fq.length →
      (∃ ch v m r n, c.body = .strike ch v m r ∧ s.chanOf ch .strike = some n) ∨
        (∃ ch op m n, c.body = .hold ch (some op) m ∧ s.chanOf ch .hold = some n) ∨
        (∃ cmd, c.body = .rotor (some cmd)) ∨ (∃ r, c.body = .mark r) →
      s.takeOn c onset = { s with reader := { s.reader with state := .stalled } }) ∧
    (∀ p r, c.body = .tempo p r → s.scu.agenda.length < 4 →
      s.takeOn c onset = (s.agendaJoined (.tempo (max 1600 (min 1048575 p)) r)).readNext) ∧
    (∀ x y u d, c.body = .holdpoint x y u d → s.scu.agenda.length < 4 →
      s.takeOn c onset =
        (let v := s.agendaJoined (.holdpoint x y u d)
         { v with reader := { s.reader with state := .held, pending := .none } })) ∧
    (4 ≤ s.scu.agenda.length → (∃ p r, c.body = .tempo p r) ∨ (∃ x y u d, c.body = .holdpoint x y u d) →
      s.takeOn c onset = { s with reader := { s.reader with state := .stalled } }))

/-- A MAP cue is resolved as it is admitted: PROTECTED on a pinned channel, LATCHED with the channel's active map replaced, and its trim reset
where asked, or BAD_MAP with the first check that fails (R32, R46 to R50). A REPEAT cue goes on past itself, jumps back with its frame's count one
lower, or pushes a frame with the jump; the fifth frame is a chain fault, and a jump is an entry into its target with the stack change made at
its commit: it stalls without room, is a chain fault at the REPEAT where the target is bad, and reads the target from slot 0, or with a cue count of 0
acts on its link (R23 to R26, R34, R35, R42). -/
def Obligations.MapAndRepeatCuesAreTakenAtAdmission : Prop :=
  ∀ (s : State) (c : Cue) (onset : Int),
    (∀ ch a r n, c.body = .map ch a r → s.chanOf ch .strike = some n →
      let record := Memory.readBytes s.mem a.toNat 64
      let result := fun (x d k : Byte) => Memory.writeBytes s.mem (cueAddr s.cueLoc + 8) [x, d, k, 0, 0, 0, 0, 0]
      ((s.ccfg n).pinned = true → s.takeOn c onset = State.readNext { s with mem := result 12 0 0 }) ∧
      (∀ m, (s.ccfg n).pinned = false → validateMap a record = .ok m →
        s.takeOn c onset = State.readNext { s with
          mem := result 11 0 0, staging := record, maps := s.maps.set n (some m)
          chans := if r then s.chans.set n { s.chan n with trim := (s.ccfg n).initialTrim } else s.chans }) ∧
      (∀ d k, (s.ccfg n).pinned = false → validateMap a record = .error (d, k) →
        s.takeOn c onset = State.readNext { s with
          mem := result 13 (BitVec.ofNat 8 d.code) (BitVec.ofNat 8 k)
          staging := if validMapAddr a then record else s.staging })) ∧
    (∀ target count, c.body = .repeatJump target count →
      (∀ f fs, s.reader.stack = f :: fs → f.cue = s.cueLoc →
        (1 < f.remaining →
          s.takeOn c onset = s.enterBlock f.target (.jump ({ f with remaining := f.remaining - 1 } :: fs)) entryFuel) ∧
        (f.remaining ≤ 1 → s.takeOn c onset = State.readNext { s with reader := { s.reader with stack := fs } })) ∧
      ((∀ f, s.reader.stack.head? = some f → f.cue ≠ s.cueLoc) →
        (count ≤ 1 → s.takeOn c onset = s.readNext) ∧
        (1 < count → 4 ≤ s.reader.stack.length →
          s.takeOn c onset = s.chainFaulted .loopDepthFull s.reader.block s.reader.slot 8) ∧
        (1 < count → s.reader.stack.length < 4 →
          s.takeOn c onset = s.enterBlock target
            (.jump ({ cue := s.cueLoc, target := target, remaining := count - 1 } :: s.reader.stack)) entryFuel))) ∧
    (∀ a stack,
      (8 ≤ s.passes.length →
        s.enterBlock a (.jump stack) entryFuel = { s with reader := { s.reader with state := .stalled } }) ∧
      (s.passes.length < 8 → validBlockAddr a = false →
        s.enterBlock a (.jump stack) entryFuel = s.chainFaulted .badLinkAddress s.reader.block s.reader.slot 8) ∧
      (∀ d, s.passes.length < 8 → validBlockAddr a = true → leNat (Memory.readBytes s.mem a.toNat 2) = 0x5A43 →
        0 < (Memory.read s.mem (a.toNat + 2)).toNat → (Memory.read s.mem (a.toNat + 2)).toNat ≤ 15 →
        (∀ p ∈ s.passes, validBlockAddr p.block = true) →
        readCue (Memory.readBytes s.mem (a.toNat + 16) 16) = some d →
        s.enterBlock a (.jump stack) entryFuel =
          (s.passLeft.passEntered a (Memory.read s.mem (a.toNat + 2)).toNat stack).cueRead 0 d) ∧
      (s.passes.length < 8 → validBlockAddr a = true → leNat (Memory.readBytes s.mem a.toNat 2) ≠ 0x5A43 →
        s.enterBlock a (.jump stack) entryFuel = s.chainFaulted .badLinkSignature s.reader.block s.reader.slot 8) ∧
      (s.passes.length < 8 → validBlockAddr a = true → leNat (Memory.readBytes s.mem a.toNat 2) = 0x5A43 →
        15 < (Memory.read s.mem (a.toNat + 2)).toNat →
        s.enterBlock a (.jump stack) entryFuel = s.chainFaulted .badBlockCount a 15 0) ∧
      (s.passes.length < 8 → validBlockAddr a = true → leNat (Memory.readBytes s.mem a.toNat 2) = 0x5A43 →
        0 < (Memory.read s.mem (a.toNat + 2)).toNat → (Memory.read s.mem (a.toNat + 2)).toNat ≤ 15 →
        (∀ p ∈ s.passes, validBlockAddr p.block = true) →
        readCue (Memory.readBytes s.mem (a.toNat + 16) 16) = none →
        s.enterBlock a (.jump stack) entryFuel =
          (s.passLeft.passEntered a (Memory.read s.mem (a.toNat + 2)).toNat stack).chainFaulted .badCueKind a 0
            (Memory.read s.mem (a.toNat + 16)).toNat) ∧
      (s.passes.length < 8 → validBlockAddr a = true → leNat (Memory.readBytes s.mem a.toNat 2) = 0x5A43 →
        Memory.read s.mem (a.toNat + 2) = 0 → (∀ p ∈ s.passes, validBlockAddr p.block = true) →
        s.enterBlock a (.jump stack) entryFuel = (s.passLeft.passEntered a 0 stack).linkTaken (entryFuel - 1)))

/-! ### Invariants -/

/-- The identity line holds the vendor code, the part code, the revision, the channel count and the cue memory size after every step that
begins with them there, and a power-on or pin reset puts them there (R161). -/
def Obligations.TheIdentityLineNeverChanges : Prop :=
  ∀ (c : Instr) (s t : State), Memory.wf s.mem = true → s.refsInBlocks → exec c s = .next t →
    (identityShows s.mem → identityShows t.mem) ∧ (isFullReset c = true → identityShows t.mem)

/-- Every step keeps cue memory in its canonical form, and the part writes nothing but its own bytes: the status area and, in block space, the
completion counts and the result areas. Only MEM_WRITE and a power-on reset touch the configuration, the channel records, the map records
and the rest of the chain (R158, R172, R173). -/
def Obligations.ThePartWritesOnlyItsOwnBytes : Prop :=
  ∀ (c : Instr) (s t : State), Memory.wf s.mem = true → s.refsInBlocks → exec c s = .next t →
    Memory.wf t.mem = true ∧
    ((∀ a data, c ≠ .memWrite a data) → (∀ i, c ≠ .powerOnReset i) →
      ∀ x, ¬statusArea x → ¬partByteOfBlock x → Memory.read t.mem x = Memory.read s.mem x)

/-- Every block and cue the part refers to stays one of block space: the passes, the queue, the agenda, the strokes and engages, the rotor's
cue and the reader's place (R23, R36). -/
def Obligations.EveryReferenceStaysInBlockSpace : Prop :=
  ∀ (c : Instr) (s t : State), s.refsInBlocks → exec c s = .next t → t.refsInBlocks

/-- The snapshot lines A and C and the channel report table, heat apart, show the state after every step (R162 to R165). -/
def Obligations.ThePublishedStatusShowsTheState : Prop :=
  ∀ (c : Instr) (s t : State), Memory.wf s.mem = true → s.refsInBlocks → s.snapshotShows → s.tableShows → exec c s = .next t →
    t.snapshotShows ∧ t.tableShows

/-- No collection outgrows its size, the fire queue stays in the order of R64 with its entries numbered apart, every channel's counts, heat
and trim stay in their ranges, and every period stays within 1,600 to 1,048,575 su (R5, R8, R34, R36, R62, R64, R82). -/
def Obligations.EveryStepKeepsTheRanges : Prop :=
  ∀ (c : Instr) (s t : State), exec c s = .next t →
    (s.fits → t.fits) ∧
    (s.queueNumbered → fqOrdered s.fq → t.queueNumbered ∧ fqOrdered t.fq) ∧
    (s.trimsLatched → (∀ n, (s.chan n).inRange) → t.trimsLatched ∧ ∀ n, (t.chan n).inRange) ∧
    (s.periodsOk → t.periodsOk)

/-- A holding performance always has its holdpoint: every step keeps the agreement of performance state, agenda, reader and staging copy that
R12, R33, R143, R146, R147 and R150 give. -/
def Obligations.EveryStepKeepsHoldpointsAndPerformanceInAgreement : Prop :=
  ∀ (c : Instr) (s t : State), s.scoreOk → exec c s = .next t → t.scoreOk

/-- The drive slots bound the outputs in full drive: after every step the slots in use are exactly the outputs in full drive, never more than
the slot count, and nothing is driven, queued, in flight or wanted while the part rests (R71, R72, R74, R143). -/
def Obligations.FullDriveNeverExceedsTheSlots : Prop :=
  ∀ (c : Instr) (s t : State), s.driveOk → exec c s = .next t → t.driveOk
end

