-- ==== Sys2Proof/Laws/State.lean ====
section
/-! SUPPORT. One lemma per field per update of State, true by rfl. -/
namespace Sys2Proof.Machine
open Sys2Proof

section
variable (s : State) (x : Memory)
@[simp] theorem State.setMem_mem : (s.setMem x).mem = x := rfl
@[simp] theorem State.setMem_scu : (s.setMem x).scu = s.scu := rfl
@[simp] theorem State.setMem_reader : (s.setMem x).reader = s.reader := rfl
@[simp] theorem State.setMem_passes : (s.setMem x).passes = s.passes := rfl
@[simp] theorem State.setMem_passSeq : (s.setMem x).passSeq = s.passSeq := rfl
@[simp] theorem State.setMem_fq : (s.setMem x).fq = s.fq := rfl
@[simp] theorem State.setMem_fqSeq : (s.setMem x).fqSeq = s.fqSeq := rfl
@[simp] theorem State.setMem_slots : (s.setMem x).slots = s.slots := rfl
@[simp] theorem State.setMem_chans : (s.setMem x).chans = s.chans := rfl
@[simp] theorem State.setMem_maps : (s.setMem x).maps = s.maps := rfl
@[simp] theorem State.setMem_staging : (s.setMem x).staging = s.staging := rfl
@[simp] theorem State.setMem_siu : (s.setMem x).siu = s.siu := rfl
@[simp] theorem State.setMem_csm : (s.setMem x).csm = s.csm := rfl
@[simp] theorem State.setMem_rot : (s.setMem x).rot = s.rot := rfl
@[simp] theorem State.setMem_perf : (s.setMem x).perf = s.perf := rfl
@[simp] theorem State.setMem_regs : (s.setMem x).regs = s.regs := rfl
@[simp] theorem State.setMem_port : (s.setMem x).port = s.port := rfl
@[simp] theorem State.setMem_sched : (s.setMem x).sched = s.sched := rfl
@[simp] theorem State.setMem_nrstLow : (s.setMem x).nrstLow = s.nrstLow := rfl
@[simp] theorem State.setMem_pending : (s.setMem x).pending = s.pending := rfl
end

section
variable (s : State) (x : Scu)
@[simp] theorem State.setScu_mem : (s.setScu x).mem = s.mem := rfl
@[simp] theorem State.setScu_scu : (s.setScu x).scu = x := rfl
@[simp] theorem State.setScu_reader : (s.setScu x).reader = s.reader := rfl
@[simp] theorem State.setScu_passes : (s.setScu x).passes = s.passes := rfl
@[simp] theorem State.setScu_passSeq : (s.setScu x).passSeq = s.passSeq := rfl
@[simp] theorem State.setScu_fq : (s.setScu x).fq = s.fq := rfl
@[simp] theorem State.setScu_fqSeq : (s.setScu x).fqSeq = s.fqSeq := rfl
@[simp] theorem State.setScu_slots : (s.setScu x).slots = s.slots := rfl
@[simp] theorem State.setScu_chans : (s.setScu x).chans = s.chans := rfl
@[simp] theorem State.setScu_maps : (s.setScu x).maps = s.maps := rfl
@[simp] theorem State.setScu_staging : (s.setScu x).staging = s.staging := rfl
@[simp] theorem State.setScu_siu : (s.setScu x).siu = s.siu := rfl
@[simp] theorem State.setScu_csm : (s.setScu x).csm = s.csm := rfl
@[simp] theorem State.setScu_rot : (s.setScu x).rot = s.rot := rfl
@[simp] theorem State.setScu_perf : (s.setScu x).perf = s.perf := rfl
@[simp] theorem State.setScu_regs : (s.setScu x).regs = s.regs := rfl
@[simp] theorem State.setScu_port : (s.setScu x).port = s.port := rfl
@[simp] theorem State.setScu_sched : (s.setScu x).sched = s.sched := rfl
@[simp] theorem State.setScu_nrstLow : (s.setScu x).nrstLow = s.nrstLow := rfl
@[simp] theorem State.setScu_pending : (s.setScu x).pending = s.pending := rfl
end

section
variable (s : State) (x : Reader)
@[simp] theorem State.setReader_mem : (s.setReader x).mem = s.mem := rfl
@[simp] theorem State.setReader_scu : (s.setReader x).scu = s.scu := rfl
@[simp] theorem State.setReader_reader : (s.setReader x).reader = x := rfl
@[simp] theorem State.setReader_passes : (s.setReader x).passes = s.passes := rfl
@[simp] theorem State.setReader_passSeq : (s.setReader x).passSeq = s.passSeq := rfl
@[simp] theorem State.setReader_fq : (s.setReader x).fq = s.fq := rfl
@[simp] theorem State.setReader_fqSeq : (s.setReader x).fqSeq = s.fqSeq := rfl
@[simp] theorem State.setReader_slots : (s.setReader x).slots = s.slots := rfl
@[simp] theorem State.setReader_chans : (s.setReader x).chans = s.chans := rfl
@[simp] theorem State.setReader_maps : (s.setReader x).maps = s.maps := rfl
@[simp] theorem State.setReader_staging : (s.setReader x).staging = s.staging := rfl
@[simp] theorem State.setReader_siu : (s.setReader x).siu = s.siu := rfl
@[simp] theorem State.setReader_csm : (s.setReader x).csm = s.csm := rfl
@[simp] theorem State.setReader_rot : (s.setReader x).rot = s.rot := rfl
@[simp] theorem State.setReader_perf : (s.setReader x).perf = s.perf := rfl
@[simp] theorem State.setReader_regs : (s.setReader x).regs = s.regs := rfl
@[simp] theorem State.setReader_port : (s.setReader x).port = s.port := rfl
@[simp] theorem State.setReader_sched : (s.setReader x).sched = s.sched := rfl
@[simp] theorem State.setReader_nrstLow : (s.setReader x).nrstLow = s.nrstLow := rfl
@[simp] theorem State.setReader_pending : (s.setReader x).pending = s.pending := rfl
end

section
variable (s : State) (x : List Pass)
@[simp] theorem State.setPasses_mem : (s.setPasses x).mem = s.mem := rfl
@[simp] theorem State.setPasses_scu : (s.setPasses x).scu = s.scu := rfl
@[simp] theorem State.setPasses_reader : (s.setPasses x).reader = s.reader := rfl
@[simp] theorem State.setPasses_passes : (s.setPasses x).passes = x := rfl
@[simp] theorem State.setPasses_passSeq : (s.setPasses x).passSeq = s.passSeq := rfl
@[simp] theorem State.setPasses_fq : (s.setPasses x).fq = s.fq := rfl
@[simp] theorem State.setPasses_fqSeq : (s.setPasses x).fqSeq = s.fqSeq := rfl
@[simp] theorem State.setPasses_slots : (s.setPasses x).slots = s.slots := rfl
@[simp] theorem State.setPasses_chans : (s.setPasses x).chans = s.chans := rfl
@[simp] theorem State.setPasses_maps : (s.setPasses x).maps = s.maps := rfl
@[simp] theorem State.setPasses_staging : (s.setPasses x).staging = s.staging := rfl
@[simp] theorem State.setPasses_siu : (s.setPasses x).siu = s.siu := rfl
@[simp] theorem State.setPasses_csm : (s.setPasses x).csm = s.csm := rfl
@[simp] theorem State.setPasses_rot : (s.setPasses x).rot = s.rot := rfl
@[simp] theorem State.setPasses_perf : (s.setPasses x).perf = s.perf := rfl
@[simp] theorem State.setPasses_regs : (s.setPasses x).regs = s.regs := rfl
@[simp] theorem State.setPasses_port : (s.setPasses x).port = s.port := rfl
@[simp] theorem State.setPasses_sched : (s.setPasses x).sched = s.sched := rfl
@[simp] theorem State.setPasses_nrstLow : (s.setPasses x).nrstLow = s.nrstLow := rfl
@[simp] theorem State.setPasses_pending : (s.setPasses x).pending = s.pending := rfl
end

section
variable (s : State) (x : Nat)
@[simp] theorem State.setPassSeq_mem : (s.setPassSeq x).mem = s.mem := rfl
@[simp] theorem State.setPassSeq_scu : (s.setPassSeq x).scu = s.scu := rfl
@[simp] theorem State.setPassSeq_reader : (s.setPassSeq x).reader = s.reader := rfl
@[simp] theorem State.setPassSeq_passes : (s.setPassSeq x).passes = s.passes := rfl
@[simp] theorem State.setPassSeq_passSeq : (s.setPassSeq x).passSeq = x := rfl
@[simp] theorem State.setPassSeq_fq : (s.setPassSeq x).fq = s.fq := rfl
@[simp] theorem State.setPassSeq_fqSeq : (s.setPassSeq x).fqSeq = s.fqSeq := rfl
@[simp] theorem State.setPassSeq_slots : (s.setPassSeq x).slots = s.slots := rfl
@[simp] theorem State.setPassSeq_chans : (s.setPassSeq x).chans = s.chans := rfl
@[simp] theorem State.setPassSeq_maps : (s.setPassSeq x).maps = s.maps := rfl
@[simp] theorem State.setPassSeq_staging : (s.setPassSeq x).staging = s.staging := rfl
@[simp] theorem State.setPassSeq_siu : (s.setPassSeq x).siu = s.siu := rfl
@[simp] theorem State.setPassSeq_csm : (s.setPassSeq x).csm = s.csm := rfl
@[simp] theorem State.setPassSeq_rot : (s.setPassSeq x).rot = s.rot := rfl
@[simp] theorem State.setPassSeq_perf : (s.setPassSeq x).perf = s.perf := rfl
@[simp] theorem State.setPassSeq_regs : (s.setPassSeq x).regs = s.regs := rfl
@[simp] theorem State.setPassSeq_port : (s.setPassSeq x).port = s.port := rfl
@[simp] theorem State.setPassSeq_sched : (s.setPassSeq x).sched = s.sched := rfl
@[simp] theorem State.setPassSeq_nrstLow : (s.setPassSeq x).nrstLow = s.nrstLow := rfl
@[simp] theorem State.setPassSeq_pending : (s.setPassSeq x).pending = s.pending := rfl
end

section
variable (s : State) (x : List FqEntry)
@[simp] theorem State.setFq_mem : (s.setFq x).mem = s.mem := rfl
@[simp] theorem State.setFq_scu : (s.setFq x).scu = s.scu := rfl
@[simp] theorem State.setFq_reader : (s.setFq x).reader = s.reader := rfl
@[simp] theorem State.setFq_passes : (s.setFq x).passes = s.passes := rfl
@[simp] theorem State.setFq_passSeq : (s.setFq x).passSeq = s.passSeq := rfl
@[simp] theorem State.setFq_fq : (s.setFq x).fq = x := rfl
@[simp] theorem State.setFq_fqSeq : (s.setFq x).fqSeq = s.fqSeq := rfl
@[simp] theorem State.setFq_slots : (s.setFq x).slots = s.slots := rfl
@[simp] theorem State.setFq_chans : (s.setFq x).chans = s.chans := rfl
@[simp] theorem State.setFq_maps : (s.setFq x).maps = s.maps := rfl
@[simp] theorem State.setFq_staging : (s.setFq x).staging = s.staging := rfl
@[simp] theorem State.setFq_siu : (s.setFq x).siu = s.siu := rfl
@[simp] theorem State.setFq_csm : (s.setFq x).csm = s.csm := rfl
@[simp] theorem State.setFq_rot : (s.setFq x).rot = s.rot := rfl
@[simp] theorem State.setFq_perf : (s.setFq x).perf = s.perf := rfl
@[simp] theorem State.setFq_regs : (s.setFq x).regs = s.regs := rfl
@[simp] theorem State.setFq_port : (s.setFq x).port = s.port := rfl
@[simp] theorem State.setFq_sched : (s.setFq x).sched = s.sched := rfl
@[simp] theorem State.setFq_nrstLow : (s.setFq x).nrstLow = s.nrstLow := rfl
@[simp] theorem State.setFq_pending : (s.setFq x).pending = s.pending := rfl
end

section
variable (s : State) (x : Nat)
@[simp] theorem State.setFqSeq_mem : (s.setFqSeq x).mem = s.mem := rfl
@[simp] theorem State.setFqSeq_scu : (s.setFqSeq x).scu = s.scu := rfl
@[simp] theorem State.setFqSeq_reader : (s.setFqSeq x).reader = s.reader := rfl
@[simp] theorem State.setFqSeq_passes : (s.setFqSeq x).passes = s.passes := rfl
@[simp] theorem State.setFqSeq_passSeq : (s.setFqSeq x).passSeq = s.passSeq := rfl
@[simp] theorem State.setFqSeq_fq : (s.setFqSeq x).fq = s.fq := rfl
@[simp] theorem State.setFqSeq_fqSeq : (s.setFqSeq x).fqSeq = x := rfl
@[simp] theorem State.setFqSeq_slots : (s.setFqSeq x).slots = s.slots := rfl
@[simp] theorem State.setFqSeq_chans : (s.setFqSeq x).chans = s.chans := rfl
@[simp] theorem State.setFqSeq_maps : (s.setFqSeq x).maps = s.maps := rfl
@[simp] theorem State.setFqSeq_staging : (s.setFqSeq x).staging = s.staging := rfl
@[simp] theorem State.setFqSeq_siu : (s.setFqSeq x).siu = s.siu := rfl
@[simp] theorem State.setFqSeq_csm : (s.setFqSeq x).csm = s.csm := rfl
@[simp] theorem State.setFqSeq_rot : (s.setFqSeq x).rot = s.rot := rfl
@[simp] theorem State.setFqSeq_perf : (s.setFqSeq x).perf = s.perf := rfl
@[simp] theorem State.setFqSeq_regs : (s.setFqSeq x).regs = s.regs := rfl
@[simp] theorem State.setFqSeq_port : (s.setFqSeq x).port = s.port := rfl
@[simp] theorem State.setFqSeq_sched : (s.setFqSeq x).sched = s.sched := rfl
@[simp] theorem State.setFqSeq_nrstLow : (s.setFqSeq x).nrstLow = s.nrstLow := rfl
@[simp] theorem State.setFqSeq_pending : (s.setFqSeq x).pending = s.pending := rfl
end

section
variable (s : State) (x : Nat)
@[simp] theorem State.setSlots_mem : (s.setSlots x).mem = s.mem := rfl
@[simp] theorem State.setSlots_scu : (s.setSlots x).scu = s.scu := rfl
@[simp] theorem State.setSlots_reader : (s.setSlots x).reader = s.reader := rfl
@[simp] theorem State.setSlots_passes : (s.setSlots x).passes = s.passes := rfl
@[simp] theorem State.setSlots_passSeq : (s.setSlots x).passSeq = s.passSeq := rfl
@[simp] theorem State.setSlots_fq : (s.setSlots x).fq = s.fq := rfl
@[simp] theorem State.setSlots_fqSeq : (s.setSlots x).fqSeq = s.fqSeq := rfl
@[simp] theorem State.setSlots_slots : (s.setSlots x).slots = x := rfl
@[simp] theorem State.setSlots_chans : (s.setSlots x).chans = s.chans := rfl
@[simp] theorem State.setSlots_maps : (s.setSlots x).maps = s.maps := rfl
@[simp] theorem State.setSlots_staging : (s.setSlots x).staging = s.staging := rfl
@[simp] theorem State.setSlots_siu : (s.setSlots x).siu = s.siu := rfl
@[simp] theorem State.setSlots_csm : (s.setSlots x).csm = s.csm := rfl
@[simp] theorem State.setSlots_rot : (s.setSlots x).rot = s.rot := rfl
@[simp] theorem State.setSlots_perf : (s.setSlots x).perf = s.perf := rfl
@[simp] theorem State.setSlots_regs : (s.setSlots x).regs = s.regs := rfl
@[simp] theorem State.setSlots_port : (s.setSlots x).port = s.port := rfl
@[simp] theorem State.setSlots_sched : (s.setSlots x).sched = s.sched := rfl
@[simp] theorem State.setSlots_nrstLow : (s.setSlots x).nrstLow = s.nrstLow := rfl
@[simp] theorem State.setSlots_pending : (s.setSlots x).pending = s.pending := rfl
end

section
variable (s : State) (x : Vector Channel 64)
@[simp] theorem State.setChans_mem : (s.setChans x).mem = s.mem := rfl
@[simp] theorem State.setChans_scu : (s.setChans x).scu = s.scu := rfl
@[simp] theorem State.setChans_reader : (s.setChans x).reader = s.reader := rfl
@[simp] theorem State.setChans_passes : (s.setChans x).passes = s.passes := rfl
@[simp] theorem State.setChans_passSeq : (s.setChans x).passSeq = s.passSeq := rfl
@[simp] theorem State.setChans_fq : (s.setChans x).fq = s.fq := rfl
@[simp] theorem State.setChans_fqSeq : (s.setChans x).fqSeq = s.fqSeq := rfl
@[simp] theorem State.setChans_slots : (s.setChans x).slots = s.slots := rfl
@[simp] theorem State.setChans_chans : (s.setChans x).chans = x := rfl
@[simp] theorem State.setChans_maps : (s.setChans x).maps = s.maps := rfl
@[simp] theorem State.setChans_staging : (s.setChans x).staging = s.staging := rfl
@[simp] theorem State.setChans_siu : (s.setChans x).siu = s.siu := rfl
@[simp] theorem State.setChans_csm : (s.setChans x).csm = s.csm := rfl
@[simp] theorem State.setChans_rot : (s.setChans x).rot = s.rot := rfl
@[simp] theorem State.setChans_perf : (s.setChans x).perf = s.perf := rfl
@[simp] theorem State.setChans_regs : (s.setChans x).regs = s.regs := rfl
@[simp] theorem State.setChans_port : (s.setChans x).port = s.port := rfl
@[simp] theorem State.setChans_sched : (s.setChans x).sched = s.sched := rfl
@[simp] theorem State.setChans_nrstLow : (s.setChans x).nrstLow = s.nrstLow := rfl
@[simp] theorem State.setChans_pending : (s.setChans x).pending = s.pending := rfl
end

section
variable (s : State) (x : Vector (Option VelMap) 64)
@[simp] theorem State.setMaps_mem : (s.setMaps x).mem = s.mem := rfl
@[simp] theorem State.setMaps_scu : (s.setMaps x).scu = s.scu := rfl
@[simp] theorem State.setMaps_reader : (s.setMaps x).reader = s.reader := rfl
@[simp] theorem State.setMaps_passes : (s.setMaps x).passes = s.passes := rfl
@[simp] theorem State.setMaps_passSeq : (s.setMaps x).passSeq = s.passSeq := rfl
@[simp] theorem State.setMaps_fq : (s.setMaps x).fq = s.fq := rfl
@[simp] theorem State.setMaps_fqSeq : (s.setMaps x).fqSeq = s.fqSeq := rfl
@[simp] theorem State.setMaps_slots : (s.setMaps x).slots = s.slots := rfl
@[simp] theorem State.setMaps_chans : (s.setMaps x).chans = s.chans := rfl
@[simp] theorem State.setMaps_maps : (s.setMaps x).maps = x := rfl
@[simp] theorem State.setMaps_staging : (s.setMaps x).staging = s.staging := rfl
@[simp] theorem State.setMaps_siu : (s.setMaps x).siu = s.siu := rfl
@[simp] theorem State.setMaps_csm : (s.setMaps x).csm = s.csm := rfl
@[simp] theorem State.setMaps_rot : (s.setMaps x).rot = s.rot := rfl
@[simp] theorem State.setMaps_perf : (s.setMaps x).perf = s.perf := rfl
@[simp] theorem State.setMaps_regs : (s.setMaps x).regs = s.regs := rfl
@[simp] theorem State.setMaps_port : (s.setMaps x).port = s.port := rfl
@[simp] theorem State.setMaps_sched : (s.setMaps x).sched = s.sched := rfl
@[simp] theorem State.setMaps_nrstLow : (s.setMaps x).nrstLow = s.nrstLow := rfl
@[simp] theorem State.setMaps_pending : (s.setMaps x).pending = s.pending := rfl
end

section
variable (s : State) (x : List Byte)
@[simp] theorem State.setStaging_mem : (s.setStaging x).mem = s.mem := rfl
@[simp] theorem State.setStaging_scu : (s.setStaging x).scu = s.scu := rfl
@[simp] theorem State.setStaging_reader : (s.setStaging x).reader = s.reader := rfl
@[simp] theorem State.setStaging_passes : (s.setStaging x).passes = s.passes := rfl
@[simp] theorem State.setStaging_passSeq : (s.setStaging x).passSeq = s.passSeq := rfl
@[simp] theorem State.setStaging_fq : (s.setStaging x).fq = s.fq := rfl
@[simp] theorem State.setStaging_fqSeq : (s.setStaging x).fqSeq = s.fqSeq := rfl
@[simp] theorem State.setStaging_slots : (s.setStaging x).slots = s.slots := rfl
@[simp] theorem State.setStaging_chans : (s.setStaging x).chans = s.chans := rfl
@[simp] theorem State.setStaging_maps : (s.setStaging x).maps = s.maps := rfl
@[simp] theorem State.setStaging_staging : (s.setStaging x).staging = x := rfl
@[simp] theorem State.setStaging_siu : (s.setStaging x).siu = s.siu := rfl
@[simp] theorem State.setStaging_csm : (s.setStaging x).csm = s.csm := rfl
@[simp] theorem State.setStaging_rot : (s.setStaging x).rot = s.rot := rfl
@[simp] theorem State.setStaging_perf : (s.setStaging x).perf = s.perf := rfl
@[simp] theorem State.setStaging_regs : (s.setStaging x).regs = s.regs := rfl
@[simp] theorem State.setStaging_port : (s.setStaging x).port = s.port := rfl
@[simp] theorem State.setStaging_sched : (s.setStaging x).sched = s.sched := rfl
@[simp] theorem State.setStaging_nrstLow : (s.setStaging x).nrstLow = s.nrstLow := rfl
@[simp] theorem State.setStaging_pending : (s.setStaging x).pending = s.pending := rfl
end

section
variable (s : State) (x : Siu)
@[simp] theorem State.setSiu_mem : (s.setSiu x).mem = s.mem := rfl
@[simp] theorem State.setSiu_scu : (s.setSiu x).scu = s.scu := rfl
@[simp] theorem State.setSiu_reader : (s.setSiu x).reader = s.reader := rfl
@[simp] theorem State.setSiu_passes : (s.setSiu x).passes = s.passes := rfl
@[simp] theorem State.setSiu_passSeq : (s.setSiu x).passSeq = s.passSeq := rfl
@[simp] theorem State.setSiu_fq : (s.setSiu x).fq = s.fq := rfl
@[simp] theorem State.setSiu_fqSeq : (s.setSiu x).fqSeq = s.fqSeq := rfl
@[simp] theorem State.setSiu_slots : (s.setSiu x).slots = s.slots := rfl
@[simp] theorem State.setSiu_chans : (s.setSiu x).chans = s.chans := rfl
@[simp] theorem State.setSiu_maps : (s.setSiu x).maps = s.maps := rfl
@[simp] theorem State.setSiu_staging : (s.setSiu x).staging = s.staging := rfl
@[simp] theorem State.setSiu_siu : (s.setSiu x).siu = x := rfl
@[simp] theorem State.setSiu_csm : (s.setSiu x).csm = s.csm := rfl
@[simp] theorem State.setSiu_rot : (s.setSiu x).rot = s.rot := rfl
@[simp] theorem State.setSiu_perf : (s.setSiu x).perf = s.perf := rfl
@[simp] theorem State.setSiu_regs : (s.setSiu x).regs = s.regs := rfl
@[simp] theorem State.setSiu_port : (s.setSiu x).port = s.port := rfl
@[simp] theorem State.setSiu_sched : (s.setSiu x).sched = s.sched := rfl
@[simp] theorem State.setSiu_nrstLow : (s.setSiu x).nrstLow = s.nrstLow := rfl
@[simp] theorem State.setSiu_pending : (s.setSiu x).pending = s.pending := rfl
end

section
variable (s : State) (x : Csm)
@[simp] theorem State.setCsm_mem : (s.setCsm x).mem = s.mem := rfl
@[simp] theorem State.setCsm_scu : (s.setCsm x).scu = s.scu := rfl
@[simp] theorem State.setCsm_reader : (s.setCsm x).reader = s.reader := rfl
@[simp] theorem State.setCsm_passes : (s.setCsm x).passes = s.passes := rfl
@[simp] theorem State.setCsm_passSeq : (s.setCsm x).passSeq = s.passSeq := rfl
@[simp] theorem State.setCsm_fq : (s.setCsm x).fq = s.fq := rfl
@[simp] theorem State.setCsm_fqSeq : (s.setCsm x).fqSeq = s.fqSeq := rfl
@[simp] theorem State.setCsm_slots : (s.setCsm x).slots = s.slots := rfl
@[simp] theorem State.setCsm_chans : (s.setCsm x).chans = s.chans := rfl
@[simp] theorem State.setCsm_maps : (s.setCsm x).maps = s.maps := rfl
@[simp] theorem State.setCsm_staging : (s.setCsm x).staging = s.staging := rfl
@[simp] theorem State.setCsm_siu : (s.setCsm x).siu = s.siu := rfl
@[simp] theorem State.setCsm_csm : (s.setCsm x).csm = x := rfl
@[simp] theorem State.setCsm_rot : (s.setCsm x).rot = s.rot := rfl
@[simp] theorem State.setCsm_perf : (s.setCsm x).perf = s.perf := rfl
@[simp] theorem State.setCsm_regs : (s.setCsm x).regs = s.regs := rfl
@[simp] theorem State.setCsm_port : (s.setCsm x).port = s.port := rfl
@[simp] theorem State.setCsm_sched : (s.setCsm x).sched = s.sched := rfl
@[simp] theorem State.setCsm_nrstLow : (s.setCsm x).nrstLow = s.nrstLow := rfl
@[simp] theorem State.setCsm_pending : (s.setCsm x).pending = s.pending := rfl
end

section
variable (s : State) (x : Rotor)
@[simp] theorem State.setRot_mem : (s.setRot x).mem = s.mem := rfl
@[simp] theorem State.setRot_scu : (s.setRot x).scu = s.scu := rfl
@[simp] theorem State.setRot_reader : (s.setRot x).reader = s.reader := rfl
@[simp] theorem State.setRot_passes : (s.setRot x).passes = s.passes := rfl
@[simp] theorem State.setRot_passSeq : (s.setRot x).passSeq = s.passSeq := rfl
@[simp] theorem State.setRot_fq : (s.setRot x).fq = s.fq := rfl
@[simp] theorem State.setRot_fqSeq : (s.setRot x).fqSeq = s.fqSeq := rfl
@[simp] theorem State.setRot_slots : (s.setRot x).slots = s.slots := rfl
@[simp] theorem State.setRot_chans : (s.setRot x).chans = s.chans := rfl
@[simp] theorem State.setRot_maps : (s.setRot x).maps = s.maps := rfl
@[simp] theorem State.setRot_staging : (s.setRot x).staging = s.staging := rfl
@[simp] theorem State.setRot_siu : (s.setRot x).siu = s.siu := rfl
@[simp] theorem State.setRot_csm : (s.setRot x).csm = s.csm := rfl
@[simp] theorem State.setRot_rot : (s.setRot x).rot = x := rfl
@[simp] theorem State.setRot_perf : (s.setRot x).perf = s.perf := rfl
@[simp] theorem State.setRot_regs : (s.setRot x).regs = s.regs := rfl
@[simp] theorem State.setRot_port : (s.setRot x).port = s.port := rfl
@[simp] theorem State.setRot_sched : (s.setRot x).sched = s.sched := rfl
@[simp] theorem State.setRot_nrstLow : (s.setRot x).nrstLow = s.nrstLow := rfl
@[simp] theorem State.setRot_pending : (s.setRot x).pending = s.pending := rfl
end

section
variable (s : State) (x : Perf)
@[simp] theorem State.setPerf_mem : (s.setPerf x).mem = s.mem := rfl
@[simp] theorem State.setPerf_scu : (s.setPerf x).scu = s.scu := rfl
@[simp] theorem State.setPerf_reader : (s.setPerf x).reader = s.reader := rfl
@[simp] theorem State.setPerf_passes : (s.setPerf x).passes = s.passes := rfl
@[simp] theorem State.setPerf_passSeq : (s.setPerf x).passSeq = s.passSeq := rfl
@[simp] theorem State.setPerf_fq : (s.setPerf x).fq = s.fq := rfl
@[simp] theorem State.setPerf_fqSeq : (s.setPerf x).fqSeq = s.fqSeq := rfl
@[simp] theorem State.setPerf_slots : (s.setPerf x).slots = s.slots := rfl
@[simp] theorem State.setPerf_chans : (s.setPerf x).chans = s.chans := rfl
@[simp] theorem State.setPerf_maps : (s.setPerf x).maps = s.maps := rfl
@[simp] theorem State.setPerf_staging : (s.setPerf x).staging = s.staging := rfl
@[simp] theorem State.setPerf_siu : (s.setPerf x).siu = s.siu := rfl
@[simp] theorem State.setPerf_csm : (s.setPerf x).csm = s.csm := rfl
@[simp] theorem State.setPerf_rot : (s.setPerf x).rot = s.rot := rfl
@[simp] theorem State.setPerf_perf : (s.setPerf x).perf = x := rfl
@[simp] theorem State.setPerf_regs : (s.setPerf x).regs = s.regs := rfl
@[simp] theorem State.setPerf_port : (s.setPerf x).port = s.port := rfl
@[simp] theorem State.setPerf_sched : (s.setPerf x).sched = s.sched := rfl
@[simp] theorem State.setPerf_nrstLow : (s.setPerf x).nrstLow = s.nrstLow := rfl
@[simp] theorem State.setPerf_pending : (s.setPerf x).pending = s.pending := rfl
end

section
variable (s : State) (x : Regs)
@[simp] theorem State.setRegs_mem : (s.setRegs x).mem = s.mem := rfl
@[simp] theorem State.setRegs_scu : (s.setRegs x).scu = s.scu := rfl
@[simp] theorem State.setRegs_reader : (s.setRegs x).reader = s.reader := rfl
@[simp] theorem State.setRegs_passes : (s.setRegs x).passes = s.passes := rfl
@[simp] theorem State.setRegs_passSeq : (s.setRegs x).passSeq = s.passSeq := rfl
@[simp] theorem State.setRegs_fq : (s.setRegs x).fq = s.fq := rfl
@[simp] theorem State.setRegs_fqSeq : (s.setRegs x).fqSeq = s.fqSeq := rfl
@[simp] theorem State.setRegs_slots : (s.setRegs x).slots = s.slots := rfl
@[simp] theorem State.setRegs_chans : (s.setRegs x).chans = s.chans := rfl
@[simp] theorem State.setRegs_maps : (s.setRegs x).maps = s.maps := rfl
@[simp] theorem State.setRegs_staging : (s.setRegs x).staging = s.staging := rfl
@[simp] theorem State.setRegs_siu : (s.setRegs x).siu = s.siu := rfl
@[simp] theorem State.setRegs_csm : (s.setRegs x).csm = s.csm := rfl
@[simp] theorem State.setRegs_rot : (s.setRegs x).rot = s.rot := rfl
@[simp] theorem State.setRegs_perf : (s.setRegs x).perf = s.perf := rfl
@[simp] theorem State.setRegs_regs : (s.setRegs x).regs = x := rfl
@[simp] theorem State.setRegs_port : (s.setRegs x).port = s.port := rfl
@[simp] theorem State.setRegs_sched : (s.setRegs x).sched = s.sched := rfl
@[simp] theorem State.setRegs_nrstLow : (s.setRegs x).nrstLow = s.nrstLow := rfl
@[simp] theorem State.setRegs_pending : (s.setRegs x).pending = s.pending := rfl
end

section
variable (s : State) (x : Port)
@[simp] theorem State.setPort_mem : (s.setPort x).mem = s.mem := rfl
@[simp] theorem State.setPort_scu : (s.setPort x).scu = s.scu := rfl
@[simp] theorem State.setPort_reader : (s.setPort x).reader = s.reader := rfl
@[simp] theorem State.setPort_passes : (s.setPort x).passes = s.passes := rfl
@[simp] theorem State.setPort_passSeq : (s.setPort x).passSeq = s.passSeq := rfl
@[simp] theorem State.setPort_fq : (s.setPort x).fq = s.fq := rfl
@[simp] theorem State.setPort_fqSeq : (s.setPort x).fqSeq = s.fqSeq := rfl
@[simp] theorem State.setPort_slots : (s.setPort x).slots = s.slots := rfl
@[simp] theorem State.setPort_chans : (s.setPort x).chans = s.chans := rfl
@[simp] theorem State.setPort_maps : (s.setPort x).maps = s.maps := rfl
@[simp] theorem State.setPort_staging : (s.setPort x).staging = s.staging := rfl
@[simp] theorem State.setPort_siu : (s.setPort x).siu = s.siu := rfl
@[simp] theorem State.setPort_csm : (s.setPort x).csm = s.csm := rfl
@[simp] theorem State.setPort_rot : (s.setPort x).rot = s.rot := rfl
@[simp] theorem State.setPort_perf : (s.setPort x).perf = s.perf := rfl
@[simp] theorem State.setPort_regs : (s.setPort x).regs = s.regs := rfl
@[simp] theorem State.setPort_port : (s.setPort x).port = x := rfl
@[simp] theorem State.setPort_sched : (s.setPort x).sched = s.sched := rfl
@[simp] theorem State.setPort_nrstLow : (s.setPort x).nrstLow = s.nrstLow := rfl
@[simp] theorem State.setPort_pending : (s.setPort x).pending = s.pending := rfl
end

section
variable (s : State) (x : Sched)
@[simp] theorem State.setSched_mem : (s.setSched x).mem = s.mem := rfl
@[simp] theorem State.setSched_scu : (s.setSched x).scu = s.scu := rfl
@[simp] theorem State.setSched_reader : (s.setSched x).reader = s.reader := rfl
@[simp] theorem State.setSched_passes : (s.setSched x).passes = s.passes := rfl
@[simp] theorem State.setSched_passSeq : (s.setSched x).passSeq = s.passSeq := rfl
@[simp] theorem State.setSched_fq : (s.setSched x).fq = s.fq := rfl
@[simp] theorem State.setSched_fqSeq : (s.setSched x).fqSeq = s.fqSeq := rfl
@[simp] theorem State.setSched_slots : (s.setSched x).slots = s.slots := rfl
@[simp] theorem State.setSched_chans : (s.setSched x).chans = s.chans := rfl
@[simp] theorem State.setSched_maps : (s.setSched x).maps = s.maps := rfl
@[simp] theorem State.setSched_staging : (s.setSched x).staging = s.staging := rfl
@[simp] theorem State.setSched_siu : (s.setSched x).siu = s.siu := rfl
@[simp] theorem State.setSched_csm : (s.setSched x).csm = s.csm := rfl
@[simp] theorem State.setSched_rot : (s.setSched x).rot = s.rot := rfl
@[simp] theorem State.setSched_perf : (s.setSched x).perf = s.perf := rfl
@[simp] theorem State.setSched_regs : (s.setSched x).regs = s.regs := rfl
@[simp] theorem State.setSched_port : (s.setSched x).port = s.port := rfl
@[simp] theorem State.setSched_sched : (s.setSched x).sched = x := rfl
@[simp] theorem State.setSched_nrstLow : (s.setSched x).nrstLow = s.nrstLow := rfl
@[simp] theorem State.setSched_pending : (s.setSched x).pending = s.pending := rfl
end

section
variable (s : State) (x : Bool)
@[simp] theorem State.setNrstLow_mem : (s.setNrstLow x).mem = s.mem := rfl
@[simp] theorem State.setNrstLow_scu : (s.setNrstLow x).scu = s.scu := rfl
@[simp] theorem State.setNrstLow_reader : (s.setNrstLow x).reader = s.reader := rfl
@[simp] theorem State.setNrstLow_passes : (s.setNrstLow x).passes = s.passes := rfl
@[simp] theorem State.setNrstLow_passSeq : (s.setNrstLow x).passSeq = s.passSeq := rfl
@[simp] theorem State.setNrstLow_fq : (s.setNrstLow x).fq = s.fq := rfl
@[simp] theorem State.setNrstLow_fqSeq : (s.setNrstLow x).fqSeq = s.fqSeq := rfl
@[simp] theorem State.setNrstLow_slots : (s.setNrstLow x).slots = s.slots := rfl
@[simp] theorem State.setNrstLow_chans : (s.setNrstLow x).chans = s.chans := rfl
@[simp] theorem State.setNrstLow_maps : (s.setNrstLow x).maps = s.maps := rfl
@[simp] theorem State.setNrstLow_staging : (s.setNrstLow x).staging = s.staging := rfl
@[simp] theorem State.setNrstLow_siu : (s.setNrstLow x).siu = s.siu := rfl
@[simp] theorem State.setNrstLow_csm : (s.setNrstLow x).csm = s.csm := rfl
@[simp] theorem State.setNrstLow_rot : (s.setNrstLow x).rot = s.rot := rfl
@[simp] theorem State.setNrstLow_perf : (s.setNrstLow x).perf = s.perf := rfl
@[simp] theorem State.setNrstLow_regs : (s.setNrstLow x).regs = s.regs := rfl
@[simp] theorem State.setNrstLow_port : (s.setNrstLow x).port = s.port := rfl
@[simp] theorem State.setNrstLow_sched : (s.setNrstLow x).sched = s.sched := rfl
@[simp] theorem State.setNrstLow_nrstLow : (s.setNrstLow x).nrstLow = x := rfl
@[simp] theorem State.setNrstLow_pending : (s.setNrstLow x).pending = s.pending := rfl
end

end Sys2Proof.Machine
end

