-- ==== Sys2Proof/Laws/Frame.lean ====
section
/-! SUPPORT. What each operation of the model leaves as it was: one lemma per operation, each conjunct a simp rule. -/
namespace Sys2Proof.Machine
open Sys2Proof

/-- A fold of updates keeps what each update keeps. -/
theorem fold_keep {α β : Type} (g : State → β) {f : State → α → State} {l : List α} {s t : State}
    (h : ∀ s a, g (f s a) = g s) (e : g s = g t) : g (l.foldl f s) = g t := by
  induction l generalizing s with
  | nil => exact e
  | cons a l ih => exact ih ((h s a).trans e)

/-! ### Memory, channels and the open block table -/

@[simp] theorem State.poke_keeps (s : State) (a : Nat) (bs : List Byte) :
    (s.poke a bs).scu = s.scu ∧ (s.poke a bs).reader = s.reader ∧ (s.poke a bs).passes = s.passes ∧ (s.poke a bs).passSeq = s.passSeq ∧ (s.poke a bs).fq = s.fq ∧ (s.poke a bs).fqSeq = s.fqSeq ∧ (s.poke a bs).slots = s.slots ∧ (s.poke a bs).chans = s.chans ∧ (s.poke a bs).maps = s.maps ∧ (s.poke a bs).staging = s.staging ∧ (s.poke a bs).siu = s.siu ∧ (s.poke a bs).csm = s.csm ∧ (s.poke a bs).rot = s.rot ∧ (s.poke a bs).perf = s.perf ∧ (s.poke a bs).regs = s.regs ∧ (s.poke a bs).port = s.port ∧ (s.poke a bs).sched = s.sched ∧ (s.poke a bs).nrstLow = s.nrstLow ∧ (s.poke a bs).pending = s.pending := by
  simp only [State.poke]
  repeat' split
  all_goals simp

@[simp] theorem State.writeResult_keeps (s : State) (l : CueLoc) (r : List Byte) :
    (s.writeResult l r).scu = s.scu ∧ (s.writeResult l r).reader = s.reader ∧ (s.writeResult l r).passes = s.passes ∧ (s.writeResult l r).passSeq = s.passSeq ∧ (s.writeResult l r).fq = s.fq ∧ (s.writeResult l r).fqSeq = s.fqSeq ∧ (s.writeResult l r).slots = s.slots ∧ (s.writeResult l r).chans = s.chans ∧ (s.writeResult l r).maps = s.maps ∧ (s.writeResult l r).staging = s.staging ∧ (s.writeResult l r).siu = s.siu ∧ (s.writeResult l r).csm = s.csm ∧ (s.writeResult l r).rot = s.rot ∧ (s.writeResult l r).perf = s.perf ∧ (s.writeResult l r).regs = s.regs ∧ (s.writeResult l r).port = s.port ∧ (s.writeResult l r).sched = s.sched ∧ (s.writeResult l r).nrstLow = s.nrstLow ∧ (s.writeResult l r).pending = s.pending := by
  simp only [State.writeResult]
  repeat' split
  all_goals simp

@[simp] theorem State.countCompletion_keeps (s : State) (b : Addr) :
    (s.countCompletion b).scu = s.scu ∧ (s.countCompletion b).reader = s.reader ∧ (s.countCompletion b).passes = s.passes ∧ (s.countCompletion b).passSeq = s.passSeq ∧ (s.countCompletion b).fq = s.fq ∧ (s.countCompletion b).fqSeq = s.fqSeq ∧ (s.countCompletion b).slots = s.slots ∧ (s.countCompletion b).chans = s.chans ∧ (s.countCompletion b).maps = s.maps ∧ (s.countCompletion b).staging = s.staging ∧ (s.countCompletion b).siu = s.siu ∧ (s.countCompletion b).csm = s.csm ∧ (s.countCompletion b).rot = s.rot ∧ (s.countCompletion b).perf = s.perf ∧ (s.countCompletion b).regs = s.regs ∧ (s.countCompletion b).port = s.port ∧ (s.countCompletion b).sched = s.sched ∧ (s.countCompletion b).nrstLow = s.nrstLow ∧ (s.countCompletion b).pending = s.pending := by
  simp only [State.countCompletion]
  repeat' split
  all_goals simp

@[simp] theorem State.setChan_keeps (s : State) (n : ChanId) (c : Channel) :
    (s.setChan n c).mem = s.mem ∧ (s.setChan n c).scu = s.scu ∧ (s.setChan n c).reader = s.reader ∧ (s.setChan n c).passes = s.passes ∧ (s.setChan n c).passSeq = s.passSeq ∧ (s.setChan n c).fq = s.fq ∧ (s.setChan n c).fqSeq = s.fqSeq ∧ (s.setChan n c).slots = s.slots ∧ (s.setChan n c).maps = s.maps ∧ (s.setChan n c).staging = s.staging ∧ (s.setChan n c).siu = s.siu ∧ (s.setChan n c).csm = s.csm ∧ (s.setChan n c).rot = s.rot ∧ (s.setChan n c).perf = s.perf ∧ (s.setChan n c).regs = s.regs ∧ (s.setChan n c).port = s.port ∧ (s.setChan n c).sched = s.sched ∧ (s.setChan n c).nrstLow = s.nrstLow ∧ (s.setChan n c).pending = s.pending := by
  simp only [State.setChan]
  repeat' split
  all_goals simp

@[simp] theorem State.setChanState_keeps (s : State) (n : ChanId) (x : ChanState) :
    (s.setChanState n x).mem = s.mem ∧ (s.setChanState n x).scu = s.scu ∧ (s.setChanState n x).reader = s.reader ∧ (s.setChanState n x).passes = s.passes ∧ (s.setChanState n x).passSeq = s.passSeq ∧ (s.setChanState n x).fq = s.fq ∧ (s.setChanState n x).fqSeq = s.fqSeq ∧ (s.setChanState n x).slots = s.slots ∧ (s.setChanState n x).maps = s.maps ∧ (s.setChanState n x).staging = s.staging ∧ (s.setChanState n x).siu = s.siu ∧ (s.setChanState n x).csm = s.csm ∧ (s.setChanState n x).rot = s.rot ∧ (s.setChanState n x).perf = s.perf ∧ (s.setChanState n x).regs = s.regs ∧ (s.setChanState n x).port = s.port ∧ (s.setChanState n x).sched = s.sched ∧ (s.setChanState n x).nrstLow = s.nrstLow ∧ (s.setChanState n x).pending = s.pending := by
  simp only [State.setChanState]
  repeat' split
  all_goals simp

@[simp] theorem State.mapPass_keeps (s : State) (p : Nat) (f : Pass → Pass) :
    (s.mapPass p f).mem = s.mem ∧ (s.mapPass p f).scu = s.scu ∧ (s.mapPass p f).reader = s.reader ∧ (s.mapPass p f).passSeq = s.passSeq ∧ (s.mapPass p f).fq = s.fq ∧ (s.mapPass p f).fqSeq = s.fqSeq ∧ (s.mapPass p f).slots = s.slots ∧ (s.mapPass p f).chans = s.chans ∧ (s.mapPass p f).maps = s.maps ∧ (s.mapPass p f).staging = s.staging ∧ (s.mapPass p f).siu = s.siu ∧ (s.mapPass p f).csm = s.csm ∧ (s.mapPass p f).rot = s.rot ∧ (s.mapPass p f).perf = s.perf ∧ (s.mapPass p f).regs = s.regs ∧ (s.mapPass p f).port = s.port ∧ (s.mapPass p f).sched = s.sched ∧ (s.mapPass p f).nrstLow = s.nrstLow ∧ (s.mapPass p f).pending = s.pending := by
  simp only [State.mapPass]
  repeat' split
  all_goals simp

@[simp] theorem State.addItem_keeps (s : State) (p : Nat) :
    (s.addItem p).mem = s.mem ∧ (s.addItem p).scu = s.scu ∧ (s.addItem p).reader = s.reader ∧ (s.addItem p).passSeq = s.passSeq ∧ (s.addItem p).fq = s.fq ∧ (s.addItem p).fqSeq = s.fqSeq ∧ (s.addItem p).slots = s.slots ∧ (s.addItem p).chans = s.chans ∧ (s.addItem p).maps = s.maps ∧ (s.addItem p).staging = s.staging ∧ (s.addItem p).siu = s.siu ∧ (s.addItem p).csm = s.csm ∧ (s.addItem p).rot = s.rot ∧ (s.addItem p).perf = s.perf ∧ (s.addItem p).regs = s.regs ∧ (s.addItem p).port = s.port ∧ (s.addItem p).sched = s.sched ∧ (s.addItem p).nrstLow = s.nrstLow ∧ (s.addItem p).pending = s.pending := by
  simp only [State.addItem]
  repeat' split
  all_goals simp

@[simp] theorem State.closePass_keeps (s : State) (p : Nat) :
    (s.closePass p).scu = s.scu ∧ (s.closePass p).reader = s.reader ∧ (s.closePass p).passSeq = s.passSeq ∧ (s.closePass p).fq = s.fq ∧ (s.closePass p).fqSeq = s.fqSeq ∧ (s.closePass p).slots = s.slots ∧ (s.closePass p).chans = s.chans ∧ (s.closePass p).maps = s.maps ∧ (s.closePass p).staging = s.staging ∧ (s.closePass p).siu = s.siu ∧ (s.closePass p).csm = s.csm ∧ (s.closePass p).rot = s.rot ∧ (s.closePass p).perf = s.perf ∧ (s.closePass p).regs = s.regs ∧ (s.closePass p).port = s.port ∧ (s.closePass p).sched = s.sched ∧ (s.closePass p).nrstLow = s.nrstLow ∧ (s.closePass p).pending = s.pending := by
  simp only [State.closePass]
  repeat' split
  all_goals simp

@[simp] theorem State.endItem_keeps (s : State) (p : Nat) :
    (s.endItem p).scu = s.scu ∧ (s.endItem p).reader = s.reader ∧ (s.endItem p).passSeq = s.passSeq ∧ (s.endItem p).fq = s.fq ∧ (s.endItem p).fqSeq = s.fqSeq ∧ (s.endItem p).slots = s.slots ∧ (s.endItem p).chans = s.chans ∧ (s.endItem p).maps = s.maps ∧ (s.endItem p).staging = s.staging ∧ (s.endItem p).siu = s.siu ∧ (s.endItem p).csm = s.csm ∧ (s.endItem p).rot = s.rot ∧ (s.endItem p).perf = s.perf ∧ (s.endItem p).regs = s.regs ∧ (s.endItem p).port = s.port ∧ (s.endItem p).sched = s.sched ∧ (s.endItem p).nrstLow = s.nrstLow ∧ (s.endItem p).pending = s.pending := by
  simp only [State.endItem]
  repeat' split
  all_goals simp

@[simp] theorem State.markDone_keeps (s : State) (p : Nat) :
    (s.markDone p).scu = s.scu ∧ (s.markDone p).reader = s.reader ∧ (s.markDone p).passSeq = s.passSeq ∧ (s.markDone p).fq = s.fq ∧ (s.markDone p).fqSeq = s.fqSeq ∧ (s.markDone p).slots = s.slots ∧ (s.markDone p).chans = s.chans ∧ (s.markDone p).maps = s.maps ∧ (s.markDone p).staging = s.staging ∧ (s.markDone p).siu = s.siu ∧ (s.markDone p).csm = s.csm ∧ (s.markDone p).rot = s.rot ∧ (s.markDone p).perf = s.perf ∧ (s.markDone p).regs = s.regs ∧ (s.markDone p).port = s.port ∧ (s.markDone p).sched = s.sched ∧ (s.markDone p).nrstLow = s.nrstLow ∧ (s.markDone p).pending = s.pending := by
  simp only [State.markDone]
  repeat' split
  all_goals simp

@[simp] theorem State.resolve_keeps (s : State) (c : CueRef) (r : List Byte) :
    (s.resolve c r).scu = s.scu ∧ (s.resolve c r).reader = s.reader ∧ (s.resolve c r).passSeq = s.passSeq ∧ (s.resolve c r).fq = s.fq ∧ (s.resolve c r).fqSeq = s.fqSeq ∧ (s.resolve c r).slots = s.slots ∧ (s.resolve c r).chans = s.chans ∧ (s.resolve c r).maps = s.maps ∧ (s.resolve c r).staging = s.staging ∧ (s.resolve c r).siu = s.siu ∧ (s.resolve c r).csm = s.csm ∧ (s.resolve c r).rot = s.rot ∧ (s.resolve c r).perf = s.perf ∧ (s.resolve c r).regs = s.regs ∧ (s.resolve c r).port = s.port ∧ (s.resolve c r).sched = s.sched ∧ (s.resolve c r).nrstLow = s.nrstLow ∧ (s.resolve c r).pending = s.pending := by
  simp only [State.resolve]
  repeat' split
  all_goals simp

@[simp] theorem State.resolve?_keeps (s : State) (c : Option CueRef) (r : List Byte) :
    (s.resolve? c r).scu = s.scu ∧ (s.resolve? c r).reader = s.reader ∧ (s.resolve? c r).passSeq = s.passSeq ∧ (s.resolve? c r).fq = s.fq ∧ (s.resolve? c r).fqSeq = s.fqSeq ∧ (s.resolve? c r).slots = s.slots ∧ (s.resolve? c r).chans = s.chans ∧ (s.resolve? c r).maps = s.maps ∧ (s.resolve? c r).staging = s.staging ∧ (s.resolve? c r).siu = s.siu ∧ (s.resolve? c r).csm = s.csm ∧ (s.resolve? c r).rot = s.rot ∧ (s.resolve? c r).perf = s.perf ∧ (s.resolve? c r).regs = s.regs ∧ (s.resolve? c r).port = s.port ∧ (s.resolve? c r).sched = s.sched ∧ (s.resolve? c r).nrstLow = s.nrstLow ∧ (s.resolve? c r).pending = s.pending := by
  simp only [State.resolve?]
  repeat' split
  all_goals simp

/-! ### Flags and status -/

@[simp] theorem State.setFlag_keeps (s : State) (f : AttnFlag) :
    (s.setFlag f).mem = s.mem ∧ (s.setFlag f).scu = s.scu ∧ (s.setFlag f).reader = s.reader ∧ (s.setFlag f).passes = s.passes ∧ (s.setFlag f).passSeq = s.passSeq ∧ (s.setFlag f).fq = s.fq ∧ (s.setFlag f).fqSeq = s.fqSeq ∧ (s.setFlag f).slots = s.slots ∧ (s.setFlag f).chans = s.chans ∧ (s.setFlag f).maps = s.maps ∧ (s.setFlag f).staging = s.staging ∧ (s.setFlag f).siu = s.siu ∧ (s.setFlag f).csm = s.csm ∧ (s.setFlag f).rot = s.rot ∧ (s.setFlag f).perf = s.perf ∧ (s.setFlag f).port = s.port ∧ (s.setFlag f).sched = s.sched ∧ (s.setFlag f).nrstLow = s.nrstLow ∧ (s.setFlag f).pending = s.pending := by
  simp only [State.setFlag]
  repeat' split
  all_goals simp

@[simp] theorem State.writeLineA_keeps (s : State)  :
    s.writeLineA.scu = s.scu ∧ s.writeLineA.reader = s.reader ∧ s.writeLineA.passes = s.passes ∧ s.writeLineA.passSeq = s.passSeq ∧ s.writeLineA.fq = s.fq ∧ s.writeLineA.fqSeq = s.fqSeq ∧ s.writeLineA.slots = s.slots ∧ s.writeLineA.chans = s.chans ∧ s.writeLineA.maps = s.maps ∧ s.writeLineA.staging = s.staging ∧ s.writeLineA.siu = s.siu ∧ s.writeLineA.csm = s.csm ∧ s.writeLineA.rot = s.rot ∧ s.writeLineA.perf = s.perf ∧ s.writeLineA.regs = s.regs ∧ s.writeLineA.port = s.port ∧ s.writeLineA.sched = s.sched ∧ s.writeLineA.nrstLow = s.nrstLow ∧ s.writeLineA.pending = s.pending := by
  simp only [State.writeLineA]
  repeat' split
  all_goals simp

@[simp] theorem State.writeLineB_keeps (s : State)  :
    s.writeLineB.scu = s.scu ∧ s.writeLineB.reader = s.reader ∧ s.writeLineB.passes = s.passes ∧ s.writeLineB.passSeq = s.passSeq ∧ s.writeLineB.fq = s.fq ∧ s.writeLineB.fqSeq = s.fqSeq ∧ s.writeLineB.slots = s.slots ∧ s.writeLineB.chans = s.chans ∧ s.writeLineB.maps = s.maps ∧ s.writeLineB.staging = s.staging ∧ s.writeLineB.siu = s.siu ∧ s.writeLineB.csm = s.csm ∧ s.writeLineB.rot = s.rot ∧ s.writeLineB.perf = s.perf ∧ s.writeLineB.regs = s.regs ∧ s.writeLineB.port = s.port ∧ s.writeLineB.sched = s.sched ∧ s.writeLineB.nrstLow = s.nrstLow ∧ s.writeLineB.pending = s.pending := by
  simp only [State.writeLineB]
  repeat' split
  all_goals simp

@[simp] theorem State.writeLineC_keeps (s : State)  :
    s.writeLineC.scu = s.scu ∧ s.writeLineC.reader = s.reader ∧ s.writeLineC.passes = s.passes ∧ s.writeLineC.passSeq = s.passSeq ∧ s.writeLineC.fq = s.fq ∧ s.writeLineC.fqSeq = s.fqSeq ∧ s.writeLineC.slots = s.slots ∧ s.writeLineC.chans = s.chans ∧ s.writeLineC.maps = s.maps ∧ s.writeLineC.staging = s.staging ∧ s.writeLineC.siu = s.siu ∧ s.writeLineC.csm = s.csm ∧ s.writeLineC.rot = s.rot ∧ s.writeLineC.perf = s.perf ∧ s.writeLineC.regs = s.regs ∧ s.writeLineC.port = s.port ∧ s.writeLineC.sched = s.sched ∧ s.writeLineC.nrstLow = s.nrstLow ∧ s.writeLineC.pending = s.pending := by
  simp only [State.writeLineC]
  repeat' split
  all_goals simp

@[simp] theorem State.writeReport_keeps (s : State) (k : Fin 32) :
    (s.writeReport k).scu = s.scu ∧ (s.writeReport k).reader = s.reader ∧ (s.writeReport k).passes = s.passes ∧ (s.writeReport k).passSeq = s.passSeq ∧ (s.writeReport k).fq = s.fq ∧ (s.writeReport k).fqSeq = s.fqSeq ∧ (s.writeReport k).slots = s.slots ∧ (s.writeReport k).chans = s.chans ∧ (s.writeReport k).maps = s.maps ∧ (s.writeReport k).staging = s.staging ∧ (s.writeReport k).siu = s.siu ∧ (s.writeReport k).csm = s.csm ∧ (s.writeReport k).rot = s.rot ∧ (s.writeReport k).perf = s.perf ∧ (s.writeReport k).regs = s.regs ∧ (s.writeReport k).port = s.port ∧ (s.writeReport k).sched = s.sched ∧ (s.writeReport k).nrstLow = s.nrstLow ∧ (s.writeReport k).pending = s.pending := by
  simp only [State.writeReport]
  repeat' split
  all_goals simp

@[simp] theorem State.refreshReport_keeps (s : State) (b : State) (k : Fin 32) :
    (State.refreshReport b s k).scu = s.scu ∧ (State.refreshReport b s k).reader = s.reader ∧ (State.refreshReport b s k).passes = s.passes ∧ (State.refreshReport b s k).passSeq = s.passSeq ∧ (State.refreshReport b s k).fq = s.fq ∧ (State.refreshReport b s k).fqSeq = s.fqSeq ∧ (State.refreshReport b s k).slots = s.slots ∧ (State.refreshReport b s k).chans = s.chans ∧ (State.refreshReport b s k).maps = s.maps ∧ (State.refreshReport b s k).staging = s.staging ∧ (State.refreshReport b s k).siu = s.siu ∧ (State.refreshReport b s k).csm = s.csm ∧ (State.refreshReport b s k).rot = s.rot ∧ (State.refreshReport b s k).perf = s.perf ∧ (State.refreshReport b s k).regs = s.regs ∧ (State.refreshReport b s k).port = s.port ∧ (State.refreshReport b s k).sched = s.sched ∧ (State.refreshReport b s k).nrstLow = s.nrstLow ∧ (State.refreshReport b s k).pending = s.pending := by
  simp only [State.refreshReport]
  repeat' split
  all_goals simp

@[simp] theorem publish_keeps (s : State) (b : State) :
    (publish b s).scu = s.scu ∧ (publish b s).reader = s.reader ∧ (publish b s).passes = s.passes ∧ (publish b s).passSeq = s.passSeq ∧ (publish b s).fq = s.fq ∧ (publish b s).fqSeq = s.fqSeq ∧ (publish b s).slots = s.slots ∧ (publish b s).chans = s.chans ∧ (publish b s).maps = s.maps ∧ (publish b s).staging = s.staging ∧ (publish b s).siu = s.siu ∧ (publish b s).csm = s.csm ∧ (publish b s).rot = s.rot ∧ (publish b s).perf = s.perf ∧ (publish b s).regs = s.regs ∧ (publish b s).port = s.port ∧ (publish b s).sched = s.sched ∧ (publish b s).nrstLow = s.nrstLow ∧ (publish b s).pending = s.pending := by
  simp only [publish]
  repeat' split
  all_goals first | (simp; done) | skip
  all_goals refine ⟨fold_keep State.scu (by simp) (by simp), fold_keep State.reader (by simp) (by simp), fold_keep State.passes (by simp) (by simp), fold_keep State.passSeq (by simp) (by simp), fold_keep State.fq (by simp) (by simp), fold_keep State.fqSeq (by simp) (by simp), fold_keep State.slots (by simp) (by simp), fold_keep State.chans (by simp) (by simp), fold_keep State.maps (by simp) (by simp), fold_keep State.staging (by simp) (by simp), fold_keep State.siu (by simp) (by simp), fold_keep State.csm (by simp) (by simp), fold_keep State.rot (by simp) (by simp), fold_keep State.perf (by simp) (by simp), fold_keep State.regs (by simp) (by simp), fold_keep State.port (by simp) (by simp), fold_keep State.sched (by simp) (by simp), fold_keep State.nrstLow (by simp) (by simp), fold_keep State.pending (by simp) (by simp)⟩

@[simp] theorem State.handFault_keeps (s : State) (f : FaultInfo) :
    (s.handFault f).scu = s.scu ∧ (s.handFault f).reader = s.reader ∧ (s.handFault f).passes = s.passes ∧ (s.handFault f).passSeq = s.passSeq ∧ (s.handFault f).fq = s.fq ∧ (s.handFault f).fqSeq = s.fqSeq ∧ (s.handFault f).slots = s.slots ∧ (s.handFault f).chans = s.chans ∧ (s.handFault f).maps = s.maps ∧ (s.handFault f).staging = s.staging ∧ (s.handFault f).siu = s.siu ∧ (s.handFault f).csm = s.csm ∧ (s.handFault f).rot = s.rot ∧ (s.handFault f).perf = s.perf ∧ (s.handFault f).port = s.port ∧ (s.handFault f).sched = s.sched ∧ (s.handFault f).nrstLow = s.nrstLow ∧ (s.handFault f).pending = s.pending := by
  simp only [State.handFault]
  repeat' split
  all_goals simp

@[simp] theorem State.enterEnded_keeps (s : State)  :
    s.enterEnded.mem = s.mem ∧ s.enterEnded.scu = s.scu ∧ s.enterEnded.reader = s.reader ∧ s.enterEnded.passes = s.passes ∧ s.enterEnded.passSeq = s.passSeq ∧ s.enterEnded.fq = s.fq ∧ s.enterEnded.fqSeq = s.fqSeq ∧ s.enterEnded.slots = s.slots ∧ s.enterEnded.chans = s.chans ∧ s.enterEnded.maps = s.maps ∧ s.enterEnded.staging = s.staging ∧ s.enterEnded.siu = s.siu ∧ s.enterEnded.csm = s.csm ∧ s.enterEnded.rot = s.rot ∧ s.enterEnded.port = s.port ∧ s.enterEnded.sched = s.sched ∧ s.enterEnded.nrstLow = s.nrstLow ∧ s.enterEnded.pending = s.pending := by
  simp only [State.enterEnded]
  repeat' split
  all_goals simp

@[simp] theorem State.enterDraining_keeps (s : State) (c : EndCause) :
    (s.enterDraining c).mem = s.mem ∧ (s.enterDraining c).scu = s.scu ∧ (s.enterDraining c).reader = s.reader ∧ (s.enterDraining c).passes = s.passes ∧ (s.enterDraining c).passSeq = s.passSeq ∧ (s.enterDraining c).fq = s.fq ∧ (s.enterDraining c).fqSeq = s.fqSeq ∧ (s.enterDraining c).slots = s.slots ∧ (s.enterDraining c).chans = s.chans ∧ (s.enterDraining c).maps = s.maps ∧ (s.enterDraining c).staging = s.staging ∧ (s.enterDraining c).siu = s.siu ∧ (s.enterDraining c).csm = s.csm ∧ (s.enterDraining c).rot = s.rot ∧ (s.enterDraining c).regs = s.regs ∧ (s.enterDraining c).port = s.port ∧ (s.enterDraining c).sched = s.sched ∧ (s.enterDraining c).nrstLow = s.nrstLow ∧ (s.enterDraining c).pending = s.pending := by
  simp only [State.enterDraining]
  repeat' split
  all_goals simp

/-! ### The rotor -/

@[simp] theorem State.setPeriod_keeps (s : State) (p : Nat) :
    (s.setPeriod p).mem = s.mem ∧ (s.setPeriod p).reader = s.reader ∧ (s.setPeriod p).passes = s.passes ∧ (s.setPeriod p).passSeq = s.passSeq ∧ (s.setPeriod p).fq = s.fq ∧ (s.setPeriod p).fqSeq = s.fqSeq ∧ (s.setPeriod p).slots = s.slots ∧ (s.setPeriod p).chans = s.chans ∧ (s.setPeriod p).maps = s.maps ∧ (s.setPeriod p).staging = s.staging ∧ (s.setPeriod p).siu = s.siu ∧ (s.setPeriod p).csm = s.csm ∧ (s.setPeriod p).perf = s.perf ∧ (s.setPeriod p).regs = s.regs ∧ (s.setPeriod p).port = s.port ∧ (s.setPeriod p).sched = s.sched ∧ (s.setPeriod p).nrstLow = s.nrstLow ∧ (s.setPeriod p).pending = s.pending := by
  simp only [State.setPeriod]
  repeat' split
  all_goals simp

@[simp] theorem State.rotorResolve_keeps (s : State) (o : CueOutcome) :
    (s.rotorResolve o).scu = s.scu ∧ (s.rotorResolve o).reader = s.reader ∧ (s.rotorResolve o).passes = s.passes ∧ (s.rotorResolve o).passSeq = s.passSeq ∧ (s.rotorResolve o).fq = s.fq ∧ (s.rotorResolve o).fqSeq = s.fqSeq ∧ (s.rotorResolve o).slots = s.slots ∧ (s.rotorResolve o).chans = s.chans ∧ (s.rotorResolve o).maps = s.maps ∧ (s.rotorResolve o).staging = s.staging ∧ (s.rotorResolve o).siu = s.siu ∧ (s.rotorResolve o).csm = s.csm ∧ (s.rotorResolve o).perf = s.perf ∧ (s.rotorResolve o).regs = s.regs ∧ (s.rotorResolve o).port = s.port ∧ (s.rotorResolve o).sched = s.sched ∧ (s.rotorResolve o).nrstLow = s.nrstLow ∧ (s.rotorResolve o).pending = s.pending := by
  simp only [State.rotorResolve]
  repeat' split
  all_goals simp

@[simp] theorem State.rotorRest_keeps (s : State) (x : RotorState) :
    (s.rotorRest x).mem = s.mem ∧ (s.rotorRest x).scu = s.scu ∧ (s.rotorRest x).reader = s.reader ∧ (s.rotorRest x).passes = s.passes ∧ (s.rotorRest x).passSeq = s.passSeq ∧ (s.rotorRest x).fq = s.fq ∧ (s.rotorRest x).fqSeq = s.fqSeq ∧ (s.rotorRest x).slots = s.slots ∧ (s.rotorRest x).chans = s.chans ∧ (s.rotorRest x).maps = s.maps ∧ (s.rotorRest x).staging = s.staging ∧ (s.rotorRest x).siu = s.siu ∧ (s.rotorRest x).csm = s.csm ∧ (s.rotorRest x).perf = s.perf ∧ (s.rotorRest x).regs = s.regs ∧ (s.rotorRest x).port = s.port ∧ (s.rotorRest x).sched = s.sched ∧ (s.rotorRest x).nrstLow = s.nrstLow ∧ (s.rotorRest x).pending = s.pending := by
  simp only [State.rotorRest]
  repeat' split
  all_goals simp

@[simp] theorem State.rotorArm_keeps (s : State)  :
    s.rotorArm.mem = s.mem ∧ s.rotorArm.scu = s.scu ∧ s.rotorArm.reader = s.reader ∧ s.rotorArm.passes = s.passes ∧ s.rotorArm.passSeq = s.passSeq ∧ s.rotorArm.fq = s.fq ∧ s.rotorArm.fqSeq = s.fqSeq ∧ s.rotorArm.slots = s.slots ∧ s.rotorArm.chans = s.chans ∧ s.rotorArm.maps = s.maps ∧ s.rotorArm.staging = s.staging ∧ s.rotorArm.siu = s.siu ∧ s.rotorArm.csm = s.csm ∧ s.rotorArm.perf = s.perf ∧ s.rotorArm.regs = s.regs ∧ s.rotorArm.port = s.port ∧ s.rotorArm.sched = s.sched ∧ s.rotorArm.nrstLow = s.nrstLow ∧ s.rotorArm.pending = s.pending := by
  simp only [State.rotorArm]
  repeat' split
  all_goals simp

@[simp] theorem State.rotorTest_keeps (s : State)  :
    s.rotorTest.scu = s.scu ∧ s.rotorTest.reader = s.reader ∧ s.rotorTest.passes = s.passes ∧ s.rotorTest.passSeq = s.passSeq ∧ s.rotorTest.fq = s.fq ∧ s.rotorTest.fqSeq = s.fqSeq ∧ s.rotorTest.slots = s.slots ∧ s.rotorTest.chans = s.chans ∧ s.rotorTest.maps = s.maps ∧ s.rotorTest.staging = s.staging ∧ s.rotorTest.siu = s.siu ∧ s.rotorTest.csm = s.csm ∧ s.rotorTest.perf = s.perf ∧ s.rotorTest.regs = s.regs ∧ s.rotorTest.port = s.port ∧ s.rotorTest.sched = s.sched ∧ s.rotorTest.nrstLow = s.nrstLow ∧ s.rotorTest.pending = s.pending := by
  simp only [State.rotorTest]
  repeat' split
  all_goals simp

@[simp] theorem State.rotorPark_keeps (s : State)  :
    s.rotorPark.scu = s.scu ∧ s.rotorPark.reader = s.reader ∧ s.rotorPark.passes = s.passes ∧ s.rotorPark.passSeq = s.passSeq ∧ s.rotorPark.fq = s.fq ∧ s.rotorPark.fqSeq = s.fqSeq ∧ s.rotorPark.slots = s.slots ∧ s.rotorPark.chans = s.chans ∧ s.rotorPark.maps = s.maps ∧ s.rotorPark.staging = s.staging ∧ s.rotorPark.siu = s.siu ∧ s.rotorPark.csm = s.csm ∧ s.rotorPark.perf = s.perf ∧ s.rotorPark.regs = s.regs ∧ s.rotorPark.port = s.port ∧ s.rotorPark.sched = s.sched ∧ s.rotorPark.nrstLow = s.nrstLow ∧ s.rotorPark.pending = s.pending := by
  simp only [State.rotorPark]
  repeat' split
  all_goals simp

@[simp] theorem State.rotorCommand_keeps (s : State) (l : CueLoc) (c : RotorCmd) :
    (s.rotorCommand l c).scu = s.scu ∧ (s.rotorCommand l c).reader = s.reader ∧ (s.rotorCommand l c).passes = s.passes ∧ (s.rotorCommand l c).passSeq = s.passSeq ∧ (s.rotorCommand l c).fq = s.fq ∧ (s.rotorCommand l c).fqSeq = s.fqSeq ∧ (s.rotorCommand l c).slots = s.slots ∧ (s.rotorCommand l c).chans = s.chans ∧ (s.rotorCommand l c).maps = s.maps ∧ (s.rotorCommand l c).staging = s.staging ∧ (s.rotorCommand l c).siu = s.siu ∧ (s.rotorCommand l c).csm = s.csm ∧ (s.rotorCommand l c).perf = s.perf ∧ (s.rotorCommand l c).regs = s.regs ∧ (s.rotorCommand l c).port = s.port ∧ (s.rotorCommand l c).sched = s.sched ∧ (s.rotorCommand l c).nrstLow = s.nrstLow ∧ (s.rotorCommand l c).pending = s.pending := by
  simp only [State.rotorCommand]
  repeat' split
  all_goals simp

@[simp] theorem State.rotorHomeFault_keeps (s : State)  :
    s.rotorHomeFault.scu = s.scu ∧ s.rotorHomeFault.reader = s.reader ∧ s.rotorHomeFault.passes = s.passes ∧ s.rotorHomeFault.passSeq = s.passSeq ∧ s.rotorHomeFault.fq = s.fq ∧ s.rotorHomeFault.fqSeq = s.fqSeq ∧ s.rotorHomeFault.slots = s.slots ∧ s.rotorHomeFault.chans = s.chans ∧ s.rotorHomeFault.maps = s.maps ∧ s.rotorHomeFault.staging = s.staging ∧ s.rotorHomeFault.siu = s.siu ∧ s.rotorHomeFault.csm = s.csm ∧ s.rotorHomeFault.perf = s.perf ∧ s.rotorHomeFault.port = s.port ∧ s.rotorHomeFault.sched = s.sched ∧ s.rotorHomeFault.nrstLow = s.nrstLow ∧ s.rotorHomeFault.pending = s.pending := by
  simp only [State.rotorHomeFault]
  repeat' split
  all_goals simp

@[simp] theorem State.rotorStepAt_keeps (s : State) (d : DevTime) :
    (s.rotorStepAt d).scu = s.scu ∧ (s.rotorStepAt d).reader = s.reader ∧ (s.rotorStepAt d).passes = s.passes ∧ (s.rotorStepAt d).passSeq = s.passSeq ∧ (s.rotorStepAt d).fq = s.fq ∧ (s.rotorStepAt d).fqSeq = s.fqSeq ∧ (s.rotorStepAt d).slots = s.slots ∧ (s.rotorStepAt d).chans = s.chans ∧ (s.rotorStepAt d).maps = s.maps ∧ (s.rotorStepAt d).staging = s.staging ∧ (s.rotorStepAt d).siu = s.siu ∧ (s.rotorStepAt d).csm = s.csm ∧ (s.rotorStepAt d).perf = s.perf ∧ (s.rotorStepAt d).port = s.port ∧ (s.rotorStepAt d).sched = s.sched ∧ (s.rotorStepAt d).nrstLow = s.nrstLow ∧ (s.rotorStepAt d).pending = s.pending := by
  simp only [State.rotorStepAt]
  repeat' split
  all_goals simp

@[simp] theorem State.rotorSetRate_keeps (s : State) (x : Nat) :
    (s.rotorSetRate x).scu = s.scu ∧ (s.rotorSetRate x).reader = s.reader ∧ (s.rotorSetRate x).passes = s.passes ∧ (s.rotorSetRate x).passSeq = s.passSeq ∧ (s.rotorSetRate x).fq = s.fq ∧ (s.rotorSetRate x).fqSeq = s.fqSeq ∧ (s.rotorSetRate x).slots = s.slots ∧ (s.rotorSetRate x).chans = s.chans ∧ (s.rotorSetRate x).maps = s.maps ∧ (s.rotorSetRate x).staging = s.staging ∧ (s.rotorSetRate x).siu = s.siu ∧ (s.rotorSetRate x).csm = s.csm ∧ (s.rotorSetRate x).perf = s.perf ∧ (s.rotorSetRate x).port = s.port ∧ (s.rotorSetRate x).sched = s.sched ∧ (s.rotorSetRate x).nrstLow = s.nrstLow ∧ (s.rotorSetRate x).pending = s.pending := by
  simp only [State.rotorSetRate]
  repeat' split
  all_goals simp

@[simp] theorem State.rotorAccelerate_keeps (s : State)  :
    s.rotorAccelerate.scu = s.scu ∧ s.rotorAccelerate.reader = s.reader ∧ s.rotorAccelerate.passes = s.passes ∧ s.rotorAccelerate.passSeq = s.passSeq ∧ s.rotorAccelerate.fq = s.fq ∧ s.rotorAccelerate.fqSeq = s.fqSeq ∧ s.rotorAccelerate.slots = s.slots ∧ s.rotorAccelerate.chans = s.chans ∧ s.rotorAccelerate.maps = s.maps ∧ s.rotorAccelerate.staging = s.staging ∧ s.rotorAccelerate.siu = s.siu ∧ s.rotorAccelerate.csm = s.csm ∧ s.rotorAccelerate.perf = s.perf ∧ s.rotorAccelerate.port = s.port ∧ s.rotorAccelerate.sched = s.sched ∧ s.rotorAccelerate.nrstLow = s.nrstLow ∧ s.rotorAccelerate.pending = s.pending := by
  simp only [State.rotorAccelerate]
  repeat' split
  all_goals simp

@[simp] theorem State.rotorStepTaken_keeps (s : State)  :
    s.rotorStepTaken.scu = s.scu ∧ s.rotorStepTaken.reader = s.reader ∧ s.rotorStepTaken.passes = s.passes ∧ s.rotorStepTaken.passSeq = s.passSeq ∧ s.rotorStepTaken.fq = s.fq ∧ s.rotorStepTaken.fqSeq = s.fqSeq ∧ s.rotorStepTaken.slots = s.slots ∧ s.rotorStepTaken.chans = s.chans ∧ s.rotorStepTaken.maps = s.maps ∧ s.rotorStepTaken.staging = s.staging ∧ s.rotorStepTaken.siu = s.siu ∧ s.rotorStepTaken.csm = s.csm ∧ s.rotorStepTaken.perf = s.perf ∧ s.rotorStepTaken.port = s.port ∧ s.rotorStepTaken.sched = s.sched ∧ s.rotorStepTaken.nrstLow = s.nrstLow ∧ s.rotorStepTaken.pending = s.pending := by
  simp only [State.rotorStepTaken]
  repeat' split
  all_goals simp

@[simp] theorem State.rotorHome_keeps (s : State)  :
    s.rotorHome.scu = s.scu ∧ s.rotorHome.reader = s.reader ∧ s.rotorHome.passes = s.passes ∧ s.rotorHome.passSeq = s.passSeq ∧ s.rotorHome.fq = s.fq ∧ s.rotorHome.fqSeq = s.fqSeq ∧ s.rotorHome.slots = s.slots ∧ s.rotorHome.chans = s.chans ∧ s.rotorHome.maps = s.maps ∧ s.rotorHome.staging = s.staging ∧ s.rotorHome.siu = s.siu ∧ s.rotorHome.csm = s.csm ∧ s.rotorHome.perf = s.perf ∧ s.rotorHome.regs = s.regs ∧ s.rotorHome.port = s.port ∧ s.rotorHome.sched = s.sched ∧ s.rotorHome.nrstLow = s.nrstLow ∧ s.rotorHome.pending = s.pending := by
  simp only [State.rotorHome]
  repeat' split
  all_goals simp

@[simp] theorem State.rotorBrown_keeps (s : State)  :
    s.rotorBrown.scu = s.scu ∧ s.rotorBrown.reader = s.reader ∧ s.rotorBrown.passes = s.passes ∧ s.rotorBrown.passSeq = s.passSeq ∧ s.rotorBrown.fq = s.fq ∧ s.rotorBrown.fqSeq = s.fqSeq ∧ s.rotorBrown.slots = s.slots ∧ s.rotorBrown.chans = s.chans ∧ s.rotorBrown.maps = s.maps ∧ s.rotorBrown.staging = s.staging ∧ s.rotorBrown.siu = s.siu ∧ s.rotorBrown.csm = s.csm ∧ s.rotorBrown.perf = s.perf ∧ s.rotorBrown.regs = s.regs ∧ s.rotorBrown.port = s.port ∧ s.rotorBrown.sched = s.sched ∧ s.rotorBrown.nrstLow = s.nrstLow ∧ s.rotorBrown.pending = s.pending := by
  simp only [State.rotorBrown]
  repeat' split
  all_goals simp

@[simp] theorem State.rotorQuiet_keeps (s : State)  :
    s.rotorQuiet.scu = s.scu ∧ s.rotorQuiet.reader = s.reader ∧ s.rotorQuiet.passes = s.passes ∧ s.rotorQuiet.passSeq = s.passSeq ∧ s.rotorQuiet.fq = s.fq ∧ s.rotorQuiet.fqSeq = s.fqSeq ∧ s.rotorQuiet.slots = s.slots ∧ s.rotorQuiet.chans = s.chans ∧ s.rotorQuiet.maps = s.maps ∧ s.rotorQuiet.staging = s.staging ∧ s.rotorQuiet.siu = s.siu ∧ s.rotorQuiet.csm = s.csm ∧ s.rotorQuiet.perf = s.perf ∧ s.rotorQuiet.regs = s.regs ∧ s.rotorQuiet.port = s.port ∧ s.rotorQuiet.sched = s.sched ∧ s.rotorQuiet.nrstLow = s.nrstLow ∧ s.rotorQuiet.pending = s.pending := by
  simp only [State.rotorQuiet]
  repeat' split
  all_goals simp

@[simp] theorem State.rotorStop_keeps (s : State)  :
    s.rotorStop.scu = s.scu ∧ s.rotorStop.reader = s.reader ∧ s.rotorStop.passes = s.passes ∧ s.rotorStop.passSeq = s.passSeq ∧ s.rotorStop.fq = s.fq ∧ s.rotorStop.fqSeq = s.fqSeq ∧ s.rotorStop.slots = s.slots ∧ s.rotorStop.chans = s.chans ∧ s.rotorStop.maps = s.maps ∧ s.rotorStop.staging = s.staging ∧ s.rotorStop.siu = s.siu ∧ s.rotorStop.csm = s.csm ∧ s.rotorStop.perf = s.perf ∧ s.rotorStop.regs = s.regs ∧ s.rotorStop.port = s.port ∧ s.rotorStop.sched = s.sched ∧ s.rotorStop.nrstLow = s.nrstLow ∧ s.rotorStop.pending = s.pending := by
  simp only [State.rotorStop]
  repeat' split
  all_goals simp

/-! ### The planner and the fire queue -/

@[simp] theorem State.stageMap_keeps (s : State) (a : Addr) :
    (s.stageMap a).mem = s.mem ∧ (s.stageMap a).scu = s.scu ∧ (s.stageMap a).reader = s.reader ∧ (s.stageMap a).passes = s.passes ∧ (s.stageMap a).passSeq = s.passSeq ∧ (s.stageMap a).fq = s.fq ∧ (s.stageMap a).fqSeq = s.fqSeq ∧ (s.stageMap a).slots = s.slots ∧ (s.stageMap a).chans = s.chans ∧ (s.stageMap a).maps = s.maps ∧ (s.stageMap a).siu = s.siu ∧ (s.stageMap a).csm = s.csm ∧ (s.stageMap a).rot = s.rot ∧ (s.stageMap a).perf = s.perf ∧ (s.stageMap a).regs = s.regs ∧ (s.stageMap a).port = s.port ∧ (s.stageMap a).sched = s.sched ∧ (s.stageMap a).nrstLow = s.nrstLow ∧ (s.stageMap a).pending = s.pending := by
  simp only [State.stageMap]
  repeat' split
  all_goals simp

@[simp] theorem State.latchMap_keeps (s : State) (n : ChanId) (m : VelMap) (b : Bool) :
    (s.latchMap n m b).mem = s.mem ∧ (s.latchMap n m b).scu = s.scu ∧ (s.latchMap n m b).reader = s.reader ∧ (s.latchMap n m b).passes = s.passes ∧ (s.latchMap n m b).passSeq = s.passSeq ∧ (s.latchMap n m b).fq = s.fq ∧ (s.latchMap n m b).fqSeq = s.fqSeq ∧ (s.latchMap n m b).slots = s.slots ∧ (s.latchMap n m b).staging = s.staging ∧ (s.latchMap n m b).siu = s.siu ∧ (s.latchMap n m b).csm = s.csm ∧ (s.latchMap n m b).rot = s.rot ∧ (s.latchMap n m b).perf = s.perf ∧ (s.latchMap n m b).regs = s.regs ∧ (s.latchMap n m b).port = s.port ∧ (s.latchMap n m b).sched = s.sched ∧ (s.latchMap n m b).nrstLow = s.nrstLow ∧ (s.latchMap n m b).pending = s.pending := by
  simp only [State.latchMap]
  repeat' split
  all_goals simp

@[simp] theorem State.resolveMap_keeps (s : State) (l : CueLoc) (n : ChanId) (a : Addr) (b : Bool) :
    (s.resolveMap l n a b).scu = s.scu ∧ (s.resolveMap l n a b).reader = s.reader ∧ (s.resolveMap l n a b).passes = s.passes ∧ (s.resolveMap l n a b).passSeq = s.passSeq ∧ (s.resolveMap l n a b).fq = s.fq ∧ (s.resolveMap l n a b).fqSeq = s.fqSeq ∧ (s.resolveMap l n a b).slots = s.slots ∧ (s.resolveMap l n a b).siu = s.siu ∧ (s.resolveMap l n a b).csm = s.csm ∧ (s.resolveMap l n a b).rot = s.rot ∧ (s.resolveMap l n a b).perf = s.perf ∧ (s.resolveMap l n a b).regs = s.regs ∧ (s.resolveMap l n a b).port = s.port ∧ (s.resolveMap l n a b).sched = s.sched ∧ (s.resolveMap l n a b).nrstLow = s.nrstLow ∧ (s.resolveMap l n a b).pending = s.pending := by
  simp only [State.resolveMap]
  repeat' split
  all_goals simp

@[simp] theorem State.fqJoin_keeps (s : State) (w : Work) (o f : Int) :
    (s.fqJoin w o f).mem = s.mem ∧ (s.fqJoin w o f).scu = s.scu ∧ (s.fqJoin w o f).reader = s.reader ∧ (s.fqJoin w o f).passSeq = s.passSeq ∧ (s.fqJoin w o f).slots = s.slots ∧ (s.fqJoin w o f).chans = s.chans ∧ (s.fqJoin w o f).maps = s.maps ∧ (s.fqJoin w o f).staging = s.staging ∧ (s.fqJoin w o f).siu = s.siu ∧ (s.fqJoin w o f).csm = s.csm ∧ (s.fqJoin w o f).rot = s.rot ∧ (s.fqJoin w o f).perf = s.perf ∧ (s.fqJoin w o f).regs = s.regs ∧ (s.fqJoin w o f).port = s.port ∧ (s.fqJoin w o f).sched = s.sched ∧ (s.fqJoin w o f).nrstLow = s.nrstLow ∧ (s.fqJoin w o f).pending = s.pending := by
  simp only [State.fqJoin]
  repeat' split
  all_goals simp

@[simp] theorem State.fqRemove_keeps (s : State) (e : FqEntry) :
    (s.fqRemove e).mem = s.mem ∧ (s.fqRemove e).scu = s.scu ∧ (s.fqRemove e).reader = s.reader ∧ (s.fqRemove e).passes = s.passes ∧ (s.fqRemove e).passSeq = s.passSeq ∧ (s.fqRemove e).fqSeq = s.fqSeq ∧ (s.fqRemove e).slots = s.slots ∧ (s.fqRemove e).chans = s.chans ∧ (s.fqRemove e).maps = s.maps ∧ (s.fqRemove e).staging = s.staging ∧ (s.fqRemove e).siu = s.siu ∧ (s.fqRemove e).csm = s.csm ∧ (s.fqRemove e).rot = s.rot ∧ (s.fqRemove e).perf = s.perf ∧ (s.fqRemove e).regs = s.regs ∧ (s.fqRemove e).port = s.port ∧ (s.fqRemove e).sched = s.sched ∧ (s.fqRemove e).nrstLow = s.nrstLow ∧ (s.fqRemove e).pending = s.pending := by
  simp only [State.fqRemove]
  repeat' split
  all_goals simp

@[simp] theorem State.fqResolve_keeps (s : State) (e : FqEntry) (o : CueOutcome) (c : DropCause) (b : Bool) :
    (s.fqResolve e o c b).scu = s.scu ∧ (s.fqResolve e o c b).reader = s.reader ∧ (s.fqResolve e o c b).passSeq = s.passSeq ∧ (s.fqResolve e o c b).fqSeq = s.fqSeq ∧ (s.fqResolve e o c b).slots = s.slots ∧ (s.fqResolve e o c b).chans = s.chans ∧ (s.fqResolve e o c b).maps = s.maps ∧ (s.fqResolve e o c b).staging = s.staging ∧ (s.fqResolve e o c b).siu = s.siu ∧ (s.fqResolve e o c b).csm = s.csm ∧ (s.fqResolve e o c b).rot = s.rot ∧ (s.fqResolve e o c b).perf = s.perf ∧ (s.fqResolve e o c b).regs = s.regs ∧ (s.fqResolve e o c b).port = s.port ∧ (s.fqResolve e o c b).sched = s.sched ∧ (s.fqResolve e o c b).nrstLow = s.nrstLow ∧ (s.fqResolve e o c b).pending = s.pending := by
  simp only [State.fqResolve]
  repeat' split
  all_goals simp

@[simp] theorem State.resolveEngages_keeps (s : State) (n : ChanId) :
    (s.resolveEngages n).scu = s.scu ∧ (s.resolveEngages n).reader = s.reader ∧ (s.resolveEngages n).passSeq = s.passSeq ∧ (s.resolveEngages n).fqSeq = s.fqSeq ∧ (s.resolveEngages n).slots = s.slots ∧ (s.resolveEngages n).chans = s.chans ∧ (s.resolveEngages n).maps = s.maps ∧ (s.resolveEngages n).staging = s.staging ∧ (s.resolveEngages n).siu = s.siu ∧ (s.resolveEngages n).csm = s.csm ∧ (s.resolveEngages n).rot = s.rot ∧ (s.resolveEngages n).perf = s.perf ∧ (s.resolveEngages n).regs = s.regs ∧ (s.resolveEngages n).port = s.port ∧ (s.resolveEngages n).sched = s.sched ∧ (s.resolveEngages n).nrstLow = s.nrstLow ∧ (s.resolveEngages n).pending = s.pending := by
  simp only [State.resolveEngages]
  repeat' split
  all_goals first | (simp; done) | skip
  all_goals refine ⟨fold_keep State.scu (by simp) (by simp), fold_keep State.reader (by simp) (by simp), fold_keep State.passSeq (by simp) (by simp), fold_keep State.fqSeq (by simp) (by simp), fold_keep State.slots (by simp) (by simp), fold_keep State.chans (by simp) (by simp), fold_keep State.maps (by simp) (by simp), fold_keep State.staging (by simp) (by simp), fold_keep State.siu (by simp) (by simp), fold_keep State.csm (by simp) (by simp), fold_keep State.rot (by simp) (by simp), fold_keep State.perf (by simp) (by simp), fold_keep State.regs (by simp) (by simp), fold_keep State.port (by simp) (by simp), fold_keep State.sched (by simp) (by simp), fold_keep State.nrstLow (by simp) (by simp), fold_keep State.pending (by simp) (by simp)⟩

@[simp] theorem State.granted_keeps (s : State) (n : ChanId) (c : Channel) :
    (s.granted n c).scu = s.scu ∧ (s.granted n c).reader = s.reader ∧ (s.granted n c).passes = s.passes ∧ (s.granted n c).passSeq = s.passSeq ∧ (s.granted n c).fq = s.fq ∧ (s.granted n c).fqSeq = s.fqSeq ∧ (s.granted n c).slots = s.slots ∧ (s.granted n c).maps = s.maps ∧ (s.granted n c).staging = s.staging ∧ (s.granted n c).siu = s.siu ∧ (s.granted n c).csm = s.csm ∧ (s.granted n c).rot = s.rot ∧ (s.granted n c).perf = s.perf ∧ (s.granted n c).regs = s.regs ∧ (s.granted n c).port = s.port ∧ (s.granted n c).sched = s.sched ∧ (s.granted n c).nrstLow = s.nrstLow ∧ (s.granted n c).pending = s.pending := by
  simp only [State.granted]
  repeat' split
  all_goals simp

@[simp] theorem State.grant_keeps (s : State) (e : FqEntry) (n : ChanId) :
    (s.grant e n).scu = s.scu ∧ (s.grant e n).reader = s.reader ∧ (s.grant e n).passSeq = s.passSeq ∧ (s.grant e n).fqSeq = s.fqSeq ∧ (s.grant e n).maps = s.maps ∧ (s.grant e n).staging = s.staging ∧ (s.grant e n).siu = s.siu ∧ (s.grant e n).csm = s.csm ∧ (s.grant e n).rot = s.rot ∧ (s.grant e n).perf = s.perf ∧ (s.grant e n).regs = s.regs ∧ (s.grant e n).port = s.port ∧ (s.grant e n).sched = s.sched ∧ (s.grant e n).nrstLow = s.nrstLow ∧ (s.grant e n).pending = s.pending := by
  simp only [State.grant]
  repeat' split
  all_goals simp

@[simp] theorem State.grantTurn_keeps (s : State) (q : Nat) :
    (s.grantTurn q).scu = s.scu ∧ (s.grantTurn q).reader = s.reader ∧ (s.grantTurn q).passSeq = s.passSeq ∧ (s.grantTurn q).fqSeq = s.fqSeq ∧ (s.grantTurn q).maps = s.maps ∧ (s.grantTurn q).staging = s.staging ∧ (s.grantTurn q).siu = s.siu ∧ (s.grantTurn q).csm = s.csm ∧ (s.grantTurn q).rot = s.rot ∧ (s.grantTurn q).perf = s.perf ∧ (s.grantTurn q).regs = s.regs ∧ (s.grantTurn q).port = s.port ∧ (s.grantTurn q).sched = s.sched ∧ (s.grantTurn q).nrstLow = s.nrstLow ∧ (s.grantTurn q).pending = s.pending := by
  simp only [State.grantTurn]
  repeat' split
  all_goals simp

@[simp] theorem State.grantTest_keeps (s : State)  :
    s.grantTest.scu = s.scu ∧ s.grantTest.reader = s.reader ∧ s.grantTest.passSeq = s.passSeq ∧ s.grantTest.fqSeq = s.fqSeq ∧ s.grantTest.maps = s.maps ∧ s.grantTest.staging = s.staging ∧ s.grantTest.siu = s.siu ∧ s.grantTest.csm = s.csm ∧ s.grantTest.rot = s.rot ∧ s.grantTest.perf = s.perf ∧ s.grantTest.regs = s.regs ∧ s.grantTest.port = s.port ∧ s.grantTest.sched = s.sched ∧ s.grantTest.nrstLow = s.nrstLow ∧ s.grantTest.pending = s.pending := by
  simp only [State.grantTest]
  repeat' split
  all_goals first | (simp; done) | skip
  all_goals refine ⟨fold_keep State.scu (by simp) (by simp), fold_keep State.reader (by simp) (by simp), fold_keep State.passSeq (by simp) (by simp), fold_keep State.fqSeq (by simp) (by simp), fold_keep State.maps (by simp) (by simp), fold_keep State.staging (by simp) (by simp), fold_keep State.siu (by simp) (by simp), fold_keep State.csm (by simp) (by simp), fold_keep State.rot (by simp) (by simp), fold_keep State.perf (by simp) (by simp), fold_keep State.regs (by simp) (by simp), fold_keep State.port (by simp) (by simp), fold_keep State.sched (by simp) (by simp), fold_keep State.nrstLow (by simp) (by simp), fold_keep State.pending (by simp) (by simp)⟩

@[simp] theorem State.freeSlot_keeps (s : State)  :
    s.freeSlot.scu = s.scu ∧ s.freeSlot.reader = s.reader ∧ s.freeSlot.passSeq = s.passSeq ∧ s.freeSlot.fqSeq = s.fqSeq ∧ s.freeSlot.maps = s.maps ∧ s.freeSlot.staging = s.staging ∧ s.freeSlot.siu = s.siu ∧ s.freeSlot.csm = s.csm ∧ s.freeSlot.rot = s.rot ∧ s.freeSlot.perf = s.perf ∧ s.freeSlot.regs = s.regs ∧ s.freeSlot.port = s.port ∧ s.freeSlot.sched = s.sched ∧ s.freeSlot.nrstLow = s.nrstLow ∧ s.freeSlot.pending = s.pending := by
  simp only [State.freeSlot]
  repeat' split
  all_goals simp

@[simp] theorem State.dropExpired_keeps (s : State) (e : FqEntry) :
    (s.dropExpired e).scu = s.scu ∧ (s.dropExpired e).reader = s.reader ∧ (s.dropExpired e).passSeq = s.passSeq ∧ (s.dropExpired e).fqSeq = s.fqSeq ∧ (s.dropExpired e).slots = s.slots ∧ (s.dropExpired e).chans = s.chans ∧ (s.dropExpired e).maps = s.maps ∧ (s.dropExpired e).staging = s.staging ∧ (s.dropExpired e).siu = s.siu ∧ (s.dropExpired e).csm = s.csm ∧ (s.dropExpired e).rot = s.rot ∧ (s.dropExpired e).perf = s.perf ∧ (s.dropExpired e).regs = s.regs ∧ (s.dropExpired e).port = s.port ∧ (s.dropExpired e).sched = s.sched ∧ (s.dropExpired e).nrstLow = s.nrstLow ∧ (s.dropExpired e).pending = s.pending := by
  simp only [State.dropExpired]
  repeat' split
  all_goals simp

@[simp] theorem State.skewExpiry_keeps (s : State)  :
    s.skewExpiry.scu = s.scu ∧ s.skewExpiry.reader = s.reader ∧ s.skewExpiry.passSeq = s.passSeq ∧ s.skewExpiry.fqSeq = s.fqSeq ∧ s.skewExpiry.slots = s.slots ∧ s.skewExpiry.chans = s.chans ∧ s.skewExpiry.maps = s.maps ∧ s.skewExpiry.staging = s.staging ∧ s.skewExpiry.siu = s.siu ∧ s.skewExpiry.csm = s.csm ∧ s.skewExpiry.rot = s.rot ∧ s.skewExpiry.perf = s.perf ∧ s.skewExpiry.regs = s.regs ∧ s.skewExpiry.port = s.port ∧ s.skewExpiry.sched = s.sched ∧ s.skewExpiry.nrstLow = s.nrstLow ∧ s.skewExpiry.pending = s.pending := by
  simp only [State.skewExpiry]
  repeat' split
  all_goals simp

@[simp] theorem State.dropWaiting_keeps (s : State)  :
    s.dropWaiting.scu = s.scu ∧ s.dropWaiting.reader = s.reader ∧ s.dropWaiting.passSeq = s.passSeq ∧ s.dropWaiting.fqSeq = s.fqSeq ∧ s.dropWaiting.slots = s.slots ∧ s.dropWaiting.chans = s.chans ∧ s.dropWaiting.maps = s.maps ∧ s.dropWaiting.staging = s.staging ∧ s.dropWaiting.siu = s.siu ∧ s.dropWaiting.csm = s.csm ∧ s.dropWaiting.rot = s.rot ∧ s.dropWaiting.perf = s.perf ∧ s.dropWaiting.regs = s.regs ∧ s.dropWaiting.port = s.port ∧ s.dropWaiting.sched = s.sched ∧ s.dropWaiting.nrstLow = s.nrstLow ∧ s.dropWaiting.pending = s.pending := by
  simp only [State.dropWaiting]
  repeat' split
  all_goals first | (simp; done) | skip
  all_goals refine ⟨fold_keep State.scu (by simp) (by simp), fold_keep State.reader (by simp) (by simp), fold_keep State.passSeq (by simp) (by simp), fold_keep State.fqSeq (by simp) (by simp), fold_keep State.slots (by simp) (by simp), fold_keep State.chans (by simp) (by simp), fold_keep State.maps (by simp) (by simp), fold_keep State.staging (by simp) (by simp), fold_keep State.siu (by simp) (by simp), fold_keep State.csm (by simp) (by simp), fold_keep State.rot (by simp) (by simp), fold_keep State.perf (by simp) (by simp), fold_keep State.regs (by simp) (by simp), fold_keep State.port (by simp) (by simp), fold_keep State.sched (by simp) (by simp), fold_keep State.nrstLow (by simp) (by simp), fold_keep State.pending (by simp) (by simp)⟩

@[simp] theorem State.enterWait_keeps (s : State) (e : FqEntry) :
    (s.enterWait e).scu = s.scu ∧ (s.enterWait e).reader = s.reader ∧ (s.enterWait e).passSeq = s.passSeq ∧ (s.enterWait e).fqSeq = s.fqSeq ∧ (s.enterWait e).maps = s.maps ∧ (s.enterWait e).staging = s.staging ∧ (s.enterWait e).siu = s.siu ∧ (s.enterWait e).csm = s.csm ∧ (s.enterWait e).rot = s.rot ∧ (s.enterWait e).perf = s.perf ∧ (s.enterWait e).regs = s.regs ∧ (s.enterWait e).port = s.port ∧ (s.enterWait e).sched = s.sched ∧ (s.enterWait e).nrstLow = s.nrstLow ∧ (s.enterWait e).pending = s.pending := by
  simp only [State.enterWait]
  repeat' split
  all_goals simp

@[simp] theorem State.countMiss_keeps (s : State) (n : ChanId) :
    (s.countMiss n).mem = s.mem ∧ (s.countMiss n).scu = s.scu ∧ (s.countMiss n).reader = s.reader ∧ (s.countMiss n).passes = s.passes ∧ (s.countMiss n).passSeq = s.passSeq ∧ (s.countMiss n).fq = s.fq ∧ (s.countMiss n).fqSeq = s.fqSeq ∧ (s.countMiss n).slots = s.slots ∧ (s.countMiss n).maps = s.maps ∧ (s.countMiss n).staging = s.staging ∧ (s.countMiss n).siu = s.siu ∧ (s.countMiss n).csm = s.csm ∧ (s.countMiss n).rot = s.rot ∧ (s.countMiss n).perf = s.perf ∧ (s.countMiss n).port = s.port ∧ (s.countMiss n).sched = s.sched ∧ (s.countMiss n).nrstLow = s.nrstLow ∧ (s.countMiss n).pending = s.pending := by
  simp only [State.countMiss]
  repeat' split
  all_goals simp

@[simp] theorem State.cancelEntry_keeps (s : State) (e : FqEntry) :
    (s.cancelEntry e).scu = s.scu ∧ (s.cancelEntry e).reader = s.reader ∧ (s.cancelEntry e).passSeq = s.passSeq ∧ (s.cancelEntry e).fqSeq = s.fqSeq ∧ (s.cancelEntry e).slots = s.slots ∧ (s.cancelEntry e).maps = s.maps ∧ (s.cancelEntry e).staging = s.staging ∧ (s.cancelEntry e).siu = s.siu ∧ (s.cancelEntry e).csm = s.csm ∧ (s.cancelEntry e).rot = s.rot ∧ (s.cancelEntry e).perf = s.perf ∧ (s.cancelEntry e).port = s.port ∧ (s.cancelEntry e).sched = s.sched ∧ (s.cancelEntry e).nrstLow = s.nrstLow ∧ (s.cancelEntry e).pending = s.pending := by
  simp only [State.cancelEntry]
  repeat' split
  all_goals simp

@[simp] theorem State.cancelQueue_keeps (s : State)  :
    s.cancelQueue.scu = s.scu ∧ s.cancelQueue.reader = s.reader ∧ s.cancelQueue.passSeq = s.passSeq ∧ s.cancelQueue.fqSeq = s.fqSeq ∧ s.cancelQueue.slots = s.slots ∧ s.cancelQueue.maps = s.maps ∧ s.cancelQueue.staging = s.staging ∧ s.cancelQueue.siu = s.siu ∧ s.cancelQueue.csm = s.csm ∧ s.cancelQueue.rot = s.rot ∧ s.cancelQueue.perf = s.perf ∧ s.cancelQueue.port = s.port ∧ s.cancelQueue.sched = s.sched ∧ s.cancelQueue.nrstLow = s.nrstLow ∧ s.cancelQueue.pending = s.pending := by
  simp only [State.cancelQueue]
  repeat' split
  all_goals first | (simp; done) | skip
  all_goals refine ⟨fold_keep State.scu (by simp) (by simp), fold_keep State.reader (by simp) (by simp), fold_keep State.passSeq (by simp) (by simp), fold_keep State.fqSeq (by simp) (by simp), fold_keep State.slots (by simp) (by simp), fold_keep State.maps (by simp) (by simp), fold_keep State.staging (by simp) (by simp), fold_keep State.siu (by simp) (by simp), fold_keep State.csm (by simp) (by simp), fold_keep State.rot (by simp) (by simp), fold_keep State.perf (by simp) (by simp), fold_keep State.port (by simp) (by simp), fold_keep State.sched (by simp) (by simp), fold_keep State.nrstLow (by simp) (by simp), fold_keep State.pending (by simp) (by simp)⟩

@[simp] theorem State.quietQueue_keeps (s : State)  :
    s.quietQueue.scu = s.scu ∧ s.quietQueue.reader = s.reader ∧ s.quietQueue.passSeq = s.passSeq ∧ s.quietQueue.fqSeq = s.fqSeq ∧ s.quietQueue.slots = s.slots ∧ s.quietQueue.chans = s.chans ∧ s.quietQueue.maps = s.maps ∧ s.quietQueue.staging = s.staging ∧ s.quietQueue.siu = s.siu ∧ s.quietQueue.csm = s.csm ∧ s.quietQueue.rot = s.rot ∧ s.quietQueue.perf = s.perf ∧ s.quietQueue.regs = s.regs ∧ s.quietQueue.port = s.port ∧ s.quietQueue.sched = s.sched ∧ s.quietQueue.nrstLow = s.nrstLow ∧ s.quietQueue.pending = s.pending := by
  simp only [State.quietQueue]
  repeat' split
  all_goals first | (simp; done) | skip
  all_goals refine ⟨fold_keep State.scu (by simp) (by simp), fold_keep State.reader (by simp) (by simp), fold_keep State.passSeq (by simp) (by simp), fold_keep State.fqSeq (by simp) (by simp), fold_keep State.slots (by simp) (by simp), fold_keep State.chans (by simp) (by simp), fold_keep State.maps (by simp) (by simp), fold_keep State.staging (by simp) (by simp), fold_keep State.siu (by simp) (by simp), fold_keep State.csm (by simp) (by simp), fold_keep State.rot (by simp) (by simp), fold_keep State.perf (by simp) (by simp), fold_keep State.regs (by simp) (by simp), fold_keep State.port (by simp) (by simp), fold_keep State.sched (by simp) (by simp), fold_keep State.nrstLow (by simp) (by simp), fold_keep State.pending (by simp) (by simp)⟩

/-! ### Striker channels -/

@[simp] theorem State.addHeat_keeps (s : State) (n : ChanId) (d : Nat) :
    (s.addHeat n d).mem = s.mem ∧ (s.addHeat n d).scu = s.scu ∧ (s.addHeat n d).reader = s.reader ∧ (s.addHeat n d).passes = s.passes ∧ (s.addHeat n d).passSeq = s.passSeq ∧ (s.addHeat n d).fq = s.fq ∧ (s.addHeat n d).fqSeq = s.fqSeq ∧ (s.addHeat n d).slots = s.slots ∧ (s.addHeat n d).maps = s.maps ∧ (s.addHeat n d).staging = s.staging ∧ (s.addHeat n d).siu = s.siu ∧ (s.addHeat n d).csm = s.csm ∧ (s.addHeat n d).rot = s.rot ∧ (s.addHeat n d).perf = s.perf ∧ (s.addHeat n d).regs = s.regs ∧ (s.addHeat n d).port = s.port ∧ (s.addHeat n d).sched = s.sched ∧ (s.addHeat n d).nrstLow = s.nrstLow ∧ (s.addHeat n d).pending = s.pending := by
  simp only [State.addHeat]
  repeat' split
  all_goals simp

@[simp] theorem State.strokeLeaves_keeps (s : State) (n : ChanId) :
    (s.strokeLeaves n).scu = s.scu ∧ (s.strokeLeaves n).reader = s.reader ∧ (s.strokeLeaves n).passSeq = s.passSeq ∧ (s.strokeLeaves n).fq = s.fq ∧ (s.strokeLeaves n).fqSeq = s.fqSeq ∧ (s.strokeLeaves n).slots = s.slots ∧ (s.strokeLeaves n).maps = s.maps ∧ (s.strokeLeaves n).staging = s.staging ∧ (s.strokeLeaves n).siu = s.siu ∧ (s.strokeLeaves n).csm = s.csm ∧ (s.strokeLeaves n).rot = s.rot ∧ (s.strokeLeaves n).perf = s.perf ∧ (s.strokeLeaves n).regs = s.regs ∧ (s.strokeLeaves n).port = s.port ∧ (s.strokeLeaves n).sched = s.sched ∧ (s.strokeLeaves n).nrstLow = s.nrstLow ∧ (s.strokeLeaves n).pending = s.pending := by
  simp only [State.strokeLeaves]
  repeat' split
  all_goals simp

@[simp] theorem State.recoveryDone_keeps (s : State) (n : ChanId) :
    (s.recoveryDone n).scu = s.scu ∧ (s.recoveryDone n).reader = s.reader ∧ (s.recoveryDone n).passSeq = s.passSeq ∧ (s.recoveryDone n).fqSeq = s.fqSeq ∧ (s.recoveryDone n).maps = s.maps ∧ (s.recoveryDone n).staging = s.staging ∧ (s.recoveryDone n).siu = s.siu ∧ (s.recoveryDone n).csm = s.csm ∧ (s.recoveryDone n).rot = s.rot ∧ (s.recoveryDone n).perf = s.perf ∧ (s.recoveryDone n).port = s.port ∧ (s.recoveryDone n).sched = s.sched ∧ (s.recoveryDone n).nrstLow = s.nrstLow ∧ (s.recoveryDone n).pending = s.pending := by
  simp only [State.recoveryDone]
  repeat' split
  all_goals simp

@[simp] theorem State.enterRecover_keeps (s : State) (n : ChanId) (d : DevTime) :
    (s.enterRecover n d).scu = s.scu ∧ (s.enterRecover n d).reader = s.reader ∧ (s.enterRecover n d).passSeq = s.passSeq ∧ (s.enterRecover n d).fqSeq = s.fqSeq ∧ (s.enterRecover n d).maps = s.maps ∧ (s.enterRecover n d).staging = s.staging ∧ (s.enterRecover n d).siu = s.siu ∧ (s.enterRecover n d).csm = s.csm ∧ (s.enterRecover n d).rot = s.rot ∧ (s.enterRecover n d).perf = s.perf ∧ (s.enterRecover n d).port = s.port ∧ (s.enterRecover n d).sched = s.sched ∧ (s.enterRecover n d).nrstLow = s.nrstLow ∧ (s.enterRecover n d).pending = s.pending := by
  simp only [State.enterRecover]
  repeat' split
  all_goals simp

@[simp] theorem State.markResolved_keeps (s : State) (n : ChanId) (k : Stroke) :
    (s.markResolved n k).mem = s.mem ∧ (s.markResolved n k).scu = s.scu ∧ (s.markResolved n k).reader = s.reader ∧ (s.markResolved n k).passes = s.passes ∧ (s.markResolved n k).passSeq = s.passSeq ∧ (s.markResolved n k).fq = s.fq ∧ (s.markResolved n k).fqSeq = s.fqSeq ∧ (s.markResolved n k).slots = s.slots ∧ (s.markResolved n k).maps = s.maps ∧ (s.markResolved n k).staging = s.staging ∧ (s.markResolved n k).siu = s.siu ∧ (s.markResolved n k).csm = s.csm ∧ (s.markResolved n k).rot = s.rot ∧ (s.markResolved n k).perf = s.perf ∧ (s.markResolved n k).regs = s.regs ∧ (s.markResolved n k).port = s.port ∧ (s.markResolved n k).sched = s.sched ∧ (s.markResolved n k).nrstLow = s.nrstLow ∧ (s.markResolved n k).pending = s.pending := by
  simp only [State.markResolved]
  repeat' split
  all_goals simp

@[simp] theorem State.resolvePlayed_keeps (s : State) (n : ChanId) (k : Stroke) :
    (s.resolvePlayed n k).scu = s.scu ∧ (s.resolvePlayed n k).reader = s.reader ∧ (s.resolvePlayed n k).passes = s.passes ∧ (s.resolvePlayed n k).passSeq = s.passSeq ∧ (s.resolvePlayed n k).fq = s.fq ∧ (s.resolvePlayed n k).fqSeq = s.fqSeq ∧ (s.resolvePlayed n k).slots = s.slots ∧ (s.resolvePlayed n k).maps = s.maps ∧ (s.resolvePlayed n k).staging = s.staging ∧ (s.resolvePlayed n k).siu = s.siu ∧ (s.resolvePlayed n k).csm = s.csm ∧ (s.resolvePlayed n k).rot = s.rot ∧ (s.resolvePlayed n k).perf = s.perf ∧ (s.resolvePlayed n k).regs = s.regs ∧ (s.resolvePlayed n k).port = s.port ∧ (s.resolvePlayed n k).sched = s.sched ∧ (s.resolvePlayed n k).nrstLow = s.nrstLow ∧ (s.resolvePlayed n k).pending = s.pending := by
  simp only [State.resolvePlayed]
  repeat' split
  all_goals simp

@[simp] theorem State.afterPulse_keeps (s : State) (n : ChanId) :
    (s.afterPulse n).scu = s.scu ∧ (s.afterPulse n).reader = s.reader ∧ (s.afterPulse n).passSeq = s.passSeq ∧ (s.afterPulse n).fqSeq = s.fqSeq ∧ (s.afterPulse n).maps = s.maps ∧ (s.afterPulse n).staging = s.staging ∧ (s.afterPulse n).siu = s.siu ∧ (s.afterPulse n).csm = s.csm ∧ (s.afterPulse n).rot = s.rot ∧ (s.afterPulse n).perf = s.perf ∧ (s.afterPulse n).port = s.port ∧ (s.afterPulse n).sched = s.sched ∧ (s.afterPulse n).nrstLow = s.nrstLow ∧ (s.afterPulse n).pending = s.pending := by
  simp only [State.afterPulse]
  repeat' split
  all_goals simp

@[simp] theorem State.pulseOff_keeps (s : State) (n : ChanId) (d : DevTime) :
    (s.pulseOff n d).scu = s.scu ∧ (s.pulseOff n d).reader = s.reader ∧ (s.pulseOff n d).passSeq = s.passSeq ∧ (s.pulseOff n d).fqSeq = s.fqSeq ∧ (s.pulseOff n d).maps = s.maps ∧ (s.pulseOff n d).staging = s.staging ∧ (s.pulseOff n d).siu = s.siu ∧ (s.pulseOff n d).csm = s.csm ∧ (s.pulseOff n d).rot = s.rot ∧ (s.pulseOff n d).perf = s.perf ∧ (s.pulseOff n d).regs = s.regs ∧ (s.pulseOff n d).port = s.port ∧ (s.pulseOff n d).sched = s.sched ∧ (s.pulseOff n d).nrstLow = s.nrstLow ∧ (s.pulseOff n d).pending = s.pending := by
  simp only [State.pulseOff]
  repeat' split
  all_goals simp

@[simp] theorem State.pulseEnds_keeps (s : State) (n : ChanId) :
    (s.pulseEnds n).scu = s.scu ∧ (s.pulseEnds n).reader = s.reader ∧ (s.pulseEnds n).passSeq = s.passSeq ∧ (s.pulseEnds n).fqSeq = s.fqSeq ∧ (s.pulseEnds n).maps = s.maps ∧ (s.pulseEnds n).staging = s.staging ∧ (s.pulseEnds n).siu = s.siu ∧ (s.pulseEnds n).csm = s.csm ∧ (s.pulseEnds n).rot = s.rot ∧ (s.pulseEnds n).perf = s.perf ∧ (s.pulseEnds n).port = s.port ∧ (s.pulseEnds n).sched = s.sched ∧ (s.pulseEnds n).nrstLow = s.nrstLow ∧ (s.pulseEnds n).pending = s.pending := by
  simp only [State.pulseEnds]
  repeat' split
  all_goals simp

@[simp] theorem State.truncatePulse_keeps (s : State) (n : ChanId) :
    (s.truncatePulse n).scu = s.scu ∧ (s.truncatePulse n).reader = s.reader ∧ (s.truncatePulse n).passSeq = s.passSeq ∧ (s.truncatePulse n).fqSeq = s.fqSeq ∧ (s.truncatePulse n).maps = s.maps ∧ (s.truncatePulse n).staging = s.staging ∧ (s.truncatePulse n).siu = s.siu ∧ (s.truncatePulse n).csm = s.csm ∧ (s.truncatePulse n).rot = s.rot ∧ (s.truncatePulse n).perf = s.perf ∧ (s.truncatePulse n).port = s.port ∧ (s.truncatePulse n).sched = s.sched ∧ (s.truncatePulse n).nrstLow = s.nrstLow ∧ (s.truncatePulse n).pending = s.pending := by
  simp only [State.truncatePulse]
  repeat' split
  all_goals simp

@[simp] theorem State.recordHit_keeps (s : State) (n : ChanId) (k : Stroke) (d : DevTime) :
    (s.recordHit n k d).scu = s.scu ∧ (s.recordHit n k d).reader = s.reader ∧ (s.recordHit n k d).passes = s.passes ∧ (s.recordHit n k d).passSeq = s.passSeq ∧ (s.recordHit n k d).fq = s.fq ∧ (s.recordHit n k d).fqSeq = s.fqSeq ∧ (s.recordHit n k d).slots = s.slots ∧ (s.recordHit n k d).maps = s.maps ∧ (s.recordHit n k d).staging = s.staging ∧ (s.recordHit n k d).siu = s.siu ∧ (s.recordHit n k d).csm = s.csm ∧ (s.recordHit n k d).rot = s.rot ∧ (s.recordHit n k d).perf = s.perf ∧ (s.recordHit n k d).regs = s.regs ∧ (s.recordHit n k d).port = s.port ∧ (s.recordHit n k d).sched = s.sched ∧ (s.recordHit n k d).nrstLow = s.nrstLow ∧ (s.recordHit n k d).pending = s.pending := by
  simp only [State.recordHit]
  repeat' split
  all_goals simp

@[simp] theorem State.hit_keeps (s : State) (n : ChanId) (k : Stroke) (d : DevTime) :
    (s.hit n k d).scu = s.scu ∧ (s.hit n k d).reader = s.reader ∧ (s.hit n k d).passSeq = s.passSeq ∧ (s.hit n k d).fqSeq = s.fqSeq ∧ (s.hit n k d).maps = s.maps ∧ (s.hit n k d).staging = s.staging ∧ (s.hit n k d).siu = s.siu ∧ (s.hit n k d).csm = s.csm ∧ (s.hit n k d).rot = s.rot ∧ (s.hit n k d).perf = s.perf ∧ (s.hit n k d).port = s.port ∧ (s.hit n k d).sched = s.sched ∧ (s.hit n k d).nrstLow = s.nrstLow ∧ (s.hit n k d).pending = s.pending := by
  simp only [State.hit]
  repeat' split
  all_goals simp

@[simp] theorem State.stray_keeps (s : State) (n : ChanId) :
    (s.stray n).mem = s.mem ∧ (s.stray n).scu = s.scu ∧ (s.stray n).reader = s.reader ∧ (s.stray n).passes = s.passes ∧ (s.stray n).passSeq = s.passSeq ∧ (s.stray n).fq = s.fq ∧ (s.stray n).fqSeq = s.fqSeq ∧ (s.stray n).slots = s.slots ∧ (s.stray n).maps = s.maps ∧ (s.stray n).staging = s.staging ∧ (s.stray n).siu = s.siu ∧ (s.stray n).csm = s.csm ∧ (s.stray n).rot = s.rot ∧ (s.stray n).perf = s.perf ∧ (s.stray n).regs = s.regs ∧ (s.stray n).port = s.port ∧ (s.stray n).sched = s.sched ∧ (s.stray n).nrstLow = s.nrstLow ∧ (s.stray n).pending = s.pending := by
  simp only [State.stray]
  repeat' split
  all_goals simp

@[simp] theorem State.contact_keeps (s : State) (n : ChanId) (d : DevTime) :
    (s.contact n d).scu = s.scu ∧ (s.contact n d).reader = s.reader ∧ (s.contact n d).passSeq = s.passSeq ∧ (s.contact n d).fqSeq = s.fqSeq ∧ (s.contact n d).maps = s.maps ∧ (s.contact n d).staging = s.staging ∧ (s.contact n d).siu = s.siu ∧ (s.contact n d).csm = s.csm ∧ (s.contact n d).rot = s.rot ∧ (s.contact n d).perf = s.perf ∧ (s.contact n d).port = s.port ∧ (s.contact n d).sched = s.sched ∧ (s.contact n d).nrstLow = s.nrstLow ∧ (s.contact n d).pending = s.pending := by
  simp only [State.contact]
  repeat' split
  all_goals simp

@[simp] theorem State.synthesise_keeps (s : State) (n : ChanId) :
    (s.synthesise n).scu = s.scu ∧ (s.synthesise n).reader = s.reader ∧ (s.synthesise n).passSeq = s.passSeq ∧ (s.synthesise n).fqSeq = s.fqSeq ∧ (s.synthesise n).maps = s.maps ∧ (s.synthesise n).staging = s.staging ∧ (s.synthesise n).siu = s.siu ∧ (s.synthesise n).csm = s.csm ∧ (s.synthesise n).rot = s.rot ∧ (s.synthesise n).perf = s.perf ∧ (s.synthesise n).port = s.port ∧ (s.synthesise n).sched = s.sched ∧ (s.synthesise n).nrstLow = s.nrstLow ∧ (s.synthesise n).pending = s.pending := by
  simp only [State.synthesise]
  repeat' split
  all_goals simp

@[simp] theorem State.decideMiss_keeps (s : State) (n : ChanId) (k : Stroke) :
    (s.decideMiss n k).scu = s.scu ∧ (s.decideMiss n k).reader = s.reader ∧ (s.decideMiss n k).passSeq = s.passSeq ∧ (s.decideMiss n k).slots = s.slots ∧ (s.decideMiss n k).maps = s.maps ∧ (s.decideMiss n k).staging = s.staging ∧ (s.decideMiss n k).siu = s.siu ∧ (s.decideMiss n k).csm = s.csm ∧ (s.decideMiss n k).rot = s.rot ∧ (s.decideMiss n k).perf = s.perf ∧ (s.decideMiss n k).port = s.port ∧ (s.decideMiss n k).sched = s.sched ∧ (s.decideMiss n k).nrstLow = s.nrstLow ∧ (s.decideMiss n k).pending = s.pending := by
  simp only [State.decideMiss]
  repeat' split
  all_goals simp

@[simp] theorem State.settle_keeps (s : State) (n : ChanId) :
    (s.settle n).scu = s.scu ∧ (s.settle n).reader = s.reader ∧ (s.settle n).passSeq = s.passSeq ∧ (s.settle n).maps = s.maps ∧ (s.settle n).staging = s.staging ∧ (s.settle n).siu = s.siu ∧ (s.settle n).csm = s.csm ∧ (s.settle n).rot = s.rot ∧ (s.settle n).perf = s.perf ∧ (s.settle n).port = s.port ∧ (s.settle n).sched = s.sched ∧ (s.settle n).nrstLow = s.nrstLow ∧ (s.settle n).pending = s.pending := by
  simp only [State.settle]
  repeat' split
  all_goals simp

@[simp] theorem State.quietStrike_keeps (s : State) (n : ChanId) :
    (s.quietStrike n).scu = s.scu ∧ (s.quietStrike n).reader = s.reader ∧ (s.quietStrike n).passSeq = s.passSeq ∧ (s.quietStrike n).fqSeq = s.fqSeq ∧ (s.quietStrike n).maps = s.maps ∧ (s.quietStrike n).staging = s.staging ∧ (s.quietStrike n).siu = s.siu ∧ (s.quietStrike n).csm = s.csm ∧ (s.quietStrike n).rot = s.rot ∧ (s.quietStrike n).perf = s.perf ∧ (s.quietStrike n).regs = s.regs ∧ (s.quietStrike n).port = s.port ∧ (s.quietStrike n).sched = s.sched ∧ (s.quietStrike n).nrstLow = s.nrstLow ∧ (s.quietStrike n).pending = s.pending := by
  simp only [State.quietStrike]
  repeat' split
  all_goals simp

/-! ### Hold channels -/

@[simp] theorem State.placeReengage_keeps (s : State) (n : ChanId) :
    (s.placeReengage n).mem = s.mem ∧ (s.placeReengage n).scu = s.scu ∧ (s.placeReengage n).reader = s.reader ∧ (s.placeReengage n).passSeq = s.passSeq ∧ (s.placeReengage n).slots = s.slots ∧ (s.placeReengage n).chans = s.chans ∧ (s.placeReengage n).maps = s.maps ∧ (s.placeReengage n).staging = s.staging ∧ (s.placeReengage n).siu = s.siu ∧ (s.placeReengage n).csm = s.csm ∧ (s.placeReengage n).rot = s.rot ∧ (s.placeReengage n).perf = s.perf ∧ (s.placeReengage n).regs = s.regs ∧ (s.placeReengage n).port = s.port ∧ (s.placeReengage n).sched = s.sched ∧ (s.placeReengage n).nrstLow = s.nrstLow ∧ (s.placeReengage n).pending = s.pending := by
  simp only [State.placeReengage]
  repeat' split
  all_goals simp

@[simp] theorem State.placeStanding_keeps (s : State) (n : ChanId) :
    (s.placeStanding n).mem = s.mem ∧ (s.placeStanding n).scu = s.scu ∧ (s.placeStanding n).reader = s.reader ∧ (s.placeStanding n).passSeq = s.passSeq ∧ (s.placeStanding n).slots = s.slots ∧ (s.placeStanding n).maps = s.maps ∧ (s.placeStanding n).staging = s.staging ∧ (s.placeStanding n).siu = s.siu ∧ (s.placeStanding n).csm = s.csm ∧ (s.placeStanding n).rot = s.rot ∧ (s.placeStanding n).perf = s.perf ∧ (s.placeStanding n).regs = s.regs ∧ (s.placeStanding n).port = s.port ∧ (s.placeStanding n).sched = s.sched ∧ (s.placeStanding n).nrstLow = s.nrstLow ∧ (s.placeStanding n).pending = s.pending := by
  simp only [State.placeStanding]
  repeat' split
  all_goals simp

@[simp] theorem State.requestReengage_keeps (s : State) (n : ChanId) :
    (s.requestReengage n).mem = s.mem ∧ (s.requestReengage n).scu = s.scu ∧ (s.requestReengage n).reader = s.reader ∧ (s.requestReengage n).passSeq = s.passSeq ∧ (s.requestReengage n).slots = s.slots ∧ (s.requestReengage n).maps = s.maps ∧ (s.requestReengage n).staging = s.staging ∧ (s.requestReengage n).siu = s.siu ∧ (s.requestReengage n).csm = s.csm ∧ (s.requestReengage n).rot = s.rot ∧ (s.requestReengage n).perf = s.perf ∧ (s.requestReengage n).regs = s.regs ∧ (s.requestReengage n).port = s.port ∧ (s.requestReengage n).sched = s.sched ∧ (s.requestReengage n).nrstLow = s.nrstLow ∧ (s.requestReengage n).pending = s.pending := by
  simp only [State.requestReengage]
  repeat' split
  all_goals simp

@[simp] theorem State.reengageAfterBrown_keeps (s : State) (n : ChanId) :
    (State.reengageAfterBrown n s).mem = s.mem ∧ (State.reengageAfterBrown n s).scu = s.scu ∧ (State.reengageAfterBrown n s).reader = s.reader ∧ (State.reengageAfterBrown n s).passSeq = s.passSeq ∧ (State.reengageAfterBrown n s).slots = s.slots ∧ (State.reengageAfterBrown n s).maps = s.maps ∧ (State.reengageAfterBrown n s).staging = s.staging ∧ (State.reengageAfterBrown n s).siu = s.siu ∧ (State.reengageAfterBrown n s).csm = s.csm ∧ (State.reengageAfterBrown n s).rot = s.rot ∧ (State.reengageAfterBrown n s).perf = s.perf ∧ (State.reengageAfterBrown n s).regs = s.regs ∧ (State.reengageAfterBrown n s).port = s.port ∧ (State.reengageAfterBrown n s).sched = s.sched ∧ (State.reengageAfterBrown n s).nrstLow = s.nrstLow ∧ (State.reengageAfterBrown n s).pending = s.pending := by
  simp only [State.reengageAfterBrown]
  repeat' split
  all_goals simp

@[simp] theorem State.engageOver_keeps (s : State) (n : ChanId) (d : DevTime) (o : CueOutcome) (c : DropCause) :
    (s.engageOver n d o c).scu = s.scu ∧ (s.engageOver n d o c).reader = s.reader ∧ (s.engageOver n d o c).passSeq = s.passSeq ∧ (s.engageOver n d o c).fqSeq = s.fqSeq ∧ (s.engageOver n d o c).maps = s.maps ∧ (s.engageOver n d o c).staging = s.staging ∧ (s.engageOver n d o c).siu = s.siu ∧ (s.engageOver n d o c).csm = s.csm ∧ (s.engageOver n d o c).rot = s.rot ∧ (s.engageOver n d o c).perf = s.perf ∧ (s.engageOver n d o c).regs = s.regs ∧ (s.engageOver n d o c).port = s.port ∧ (s.engageOver n d o c).sched = s.sched ∧ (s.engageOver n d o c).nrstLow = s.nrstLow ∧ (s.engageOver n d o c).pending = s.pending := by
  simp only [State.engageOver]
  repeat' split
  all_goals simp

@[simp] theorem State.cutEngage_keeps (s : State) (n : ChanId) (o : CueOutcome) (c : DropCause) :
    (s.cutEngage n o c).scu = s.scu ∧ (s.cutEngage n o c).reader = s.reader ∧ (s.cutEngage n o c).passSeq = s.passSeq ∧ (s.cutEngage n o c).fqSeq = s.fqSeq ∧ (s.cutEngage n o c).maps = s.maps ∧ (s.cutEngage n o c).staging = s.staging ∧ (s.cutEngage n o c).siu = s.siu ∧ (s.cutEngage n o c).csm = s.csm ∧ (s.cutEngage n o c).rot = s.rot ∧ (s.cutEngage n o c).perf = s.perf ∧ (s.cutEngage n o c).regs = s.regs ∧ (s.cutEngage n o c).port = s.port ∧ (s.cutEngage n o c).sched = s.sched ∧ (s.cutEngage n o c).nrstLow = s.nrstLow ∧ (s.cutEngage n o c).pending = s.pending := by
  simp only [State.cutEngage]
  repeat' split
  all_goals simp

@[simp] theorem State.afterEngage_keeps (s : State) (n : ChanId) :
    (s.afterEngage n).mem = s.mem ∧ (s.afterEngage n).scu = s.scu ∧ (s.afterEngage n).reader = s.reader ∧ (s.afterEngage n).passes = s.passes ∧ (s.afterEngage n).passSeq = s.passSeq ∧ (s.afterEngage n).fq = s.fq ∧ (s.afterEngage n).fqSeq = s.fqSeq ∧ (s.afterEngage n).slots = s.slots ∧ (s.afterEngage n).maps = s.maps ∧ (s.afterEngage n).staging = s.staging ∧ (s.afterEngage n).siu = s.siu ∧ (s.afterEngage n).csm = s.csm ∧ (s.afterEngage n).rot = s.rot ∧ (s.afterEngage n).perf = s.perf ∧ (s.afterEngage n).port = s.port ∧ (s.afterEngage n).sched = s.sched ∧ (s.afterEngage n).nrstLow = s.nrstLow ∧ (s.afterEngage n).pending = s.pending := by
  simp only [State.afterEngage]
  repeat' split
  all_goals simp

@[simp] theorem State.engageEnds_keeps (s : State) (n : ChanId) :
    (s.engageEnds n).scu = s.scu ∧ (s.engageEnds n).reader = s.reader ∧ (s.engageEnds n).passSeq = s.passSeq ∧ (s.engageEnds n).fqSeq = s.fqSeq ∧ (s.engageEnds n).maps = s.maps ∧ (s.engageEnds n).staging = s.staging ∧ (s.engageEnds n).siu = s.siu ∧ (s.engageEnds n).csm = s.csm ∧ (s.engageEnds n).rot = s.rot ∧ (s.engageEnds n).perf = s.perf ∧ (s.engageEnds n).port = s.port ∧ (s.engageEnds n).sched = s.sched ∧ (s.engageEnds n).nrstLow = s.nrstLow ∧ (s.engageEnds n).pending = s.pending := by
  simp only [State.engageEnds]
  repeat' split
  all_goals simp

@[simp] theorem State.unwant_keeps (s : State) (n : ChanId) :
    (s.unwant n).mem = s.mem ∧ (s.unwant n).scu = s.scu ∧ (s.unwant n).reader = s.reader ∧ (s.unwant n).passes = s.passes ∧ (s.unwant n).passSeq = s.passSeq ∧ (s.unwant n).fq = s.fq ∧ (s.unwant n).fqSeq = s.fqSeq ∧ (s.unwant n).slots = s.slots ∧ (s.unwant n).maps = s.maps ∧ (s.unwant n).staging = s.staging ∧ (s.unwant n).siu = s.siu ∧ (s.unwant n).csm = s.csm ∧ (s.unwant n).rot = s.rot ∧ (s.unwant n).perf = s.perf ∧ (s.unwant n).regs = s.regs ∧ (s.unwant n).port = s.port ∧ (s.unwant n).sched = s.sched ∧ (s.unwant n).nrstLow = s.nrstLow ∧ (s.unwant n).pending = s.pending := by
  simp only [State.unwant]
  repeat' split
  all_goals simp

@[simp] theorem State.releaseHold_keeps (s : State) (n : ChanId) :
    (s.releaseHold n).scu = s.scu ∧ (s.releaseHold n).reader = s.reader ∧ (s.releaseHold n).passSeq = s.passSeq ∧ (s.releaseHold n).fqSeq = s.fqSeq ∧ (s.releaseHold n).maps = s.maps ∧ (s.releaseHold n).staging = s.staging ∧ (s.releaseHold n).siu = s.siu ∧ (s.releaseHold n).csm = s.csm ∧ (s.releaseHold n).rot = s.rot ∧ (s.releaseHold n).perf = s.perf ∧ (s.releaseHold n).regs = s.regs ∧ (s.releaseHold n).port = s.port ∧ (s.releaseHold n).sched = s.sched ∧ (s.releaseHold n).nrstLow = s.nrstLow ∧ (s.releaseHold n).pending = s.pending := by
  simp only [State.releaseHold]
  repeat' split
  all_goals simp

@[simp] theorem State.forceRelease_keeps (s : State) (n : ChanId) (o : CueOutcome) (c : DropCause) :
    (s.forceRelease n o c).scu = s.scu ∧ (s.forceRelease n o c).reader = s.reader ∧ (s.forceRelease n o c).passSeq = s.passSeq ∧ (s.forceRelease n o c).fqSeq = s.fqSeq ∧ (s.forceRelease n o c).maps = s.maps ∧ (s.forceRelease n o c).staging = s.staging ∧ (s.forceRelease n o c).siu = s.siu ∧ (s.forceRelease n o c).csm = s.csm ∧ (s.forceRelease n o c).rot = s.rot ∧ (s.forceRelease n o c).perf = s.perf ∧ (s.forceRelease n o c).regs = s.regs ∧ (s.forceRelease n o c).port = s.port ∧ (s.forceRelease n o c).sched = s.sched ∧ (s.forceRelease n o c).nrstLow = s.nrstLow ∧ (s.forceRelease n o c).pending = s.pending := by
  simp only [State.forceRelease]
  repeat' split
  all_goals simp

@[simp] theorem State.brownHold_keeps (s : State) (n : ChanId) :
    (State.brownHold n s).scu = s.scu ∧ (State.brownHold n s).reader = s.reader ∧ (State.brownHold n s).passSeq = s.passSeq ∧ (State.brownHold n s).fqSeq = s.fqSeq ∧ (State.brownHold n s).maps = s.maps ∧ (State.brownHold n s).staging = s.staging ∧ (State.brownHold n s).siu = s.siu ∧ (State.brownHold n s).csm = s.csm ∧ (State.brownHold n s).rot = s.rot ∧ (State.brownHold n s).perf = s.perf ∧ (State.brownHold n s).regs = s.regs ∧ (State.brownHold n s).port = s.port ∧ (State.brownHold n s).sched = s.sched ∧ (State.brownHold n s).nrstLow = s.nrstLow ∧ (State.brownHold n s).pending = s.pending := by
  simp only [State.brownHold]
  repeat' split
  all_goals simp

@[simp] theorem State.endHold_keeps (s : State) (o : CueOutcome) (n : ChanId) :
    (State.endHold o n s).scu = s.scu ∧ (State.endHold o n s).reader = s.reader ∧ (State.endHold o n s).passSeq = s.passSeq ∧ (State.endHold o n s).fqSeq = s.fqSeq ∧ (State.endHold o n s).maps = s.maps ∧ (State.endHold o n s).staging = s.staging ∧ (State.endHold o n s).siu = s.siu ∧ (State.endHold o n s).csm = s.csm ∧ (State.endHold o n s).rot = s.rot ∧ (State.endHold o n s).perf = s.perf ∧ (State.endHold o n s).regs = s.regs ∧ (State.endHold o n s).port = s.port ∧ (State.endHold o n s).sched = s.sched ∧ (State.endHold o n s).nrstLow = s.nrstLow ∧ (State.endHold o n s).pending = s.pending := by
  simp only [State.endHold]
  repeat' split
  all_goals simp

@[simp] theorem State.releaseHolds_keeps (s : State) (o : CueOutcome) :
    (s.releaseHolds o).scu = s.scu ∧ (s.releaseHolds o).reader = s.reader ∧ (s.releaseHolds o).passSeq = s.passSeq ∧ (s.releaseHolds o).fqSeq = s.fqSeq ∧ (s.releaseHolds o).maps = s.maps ∧ (s.releaseHolds o).staging = s.staging ∧ (s.releaseHolds o).siu = s.siu ∧ (s.releaseHolds o).csm = s.csm ∧ (s.releaseHolds o).rot = s.rot ∧ (s.releaseHolds o).perf = s.perf ∧ (s.releaseHolds o).regs = s.regs ∧ (s.releaseHolds o).port = s.port ∧ (s.releaseHolds o).sched = s.sched ∧ (s.releaseHolds o).nrstLow = s.nrstLow ∧ (s.releaseHolds o).pending = s.pending := by
  simp only [State.releaseHolds, State.forChans]
  repeat' split
  all_goals first | (simp; done) | skip
  all_goals refine ⟨fold_keep State.scu (by simp) (by simp), fold_keep State.reader (by simp) (by simp), fold_keep State.passSeq (by simp) (by simp), fold_keep State.fqSeq (by simp) (by simp), fold_keep State.maps (by simp) (by simp), fold_keep State.staging (by simp) (by simp), fold_keep State.siu (by simp) (by simp), fold_keep State.csm (by simp) (by simp), fold_keep State.rot (by simp) (by simp), fold_keep State.perf (by simp) (by simp), fold_keep State.regs (by simp) (by simp), fold_keep State.port (by simp) (by simp), fold_keep State.sched (by simp) (by simp), fold_keep State.nrstLow (by simp) (by simp), fold_keep State.pending (by simp) (by simp)⟩

@[simp] theorem State.setHeat_keeps (s : State) (n : ChanId) (h : Nat) :
    (s.setHeat n h).mem = s.mem ∧ (s.setHeat n h).scu = s.scu ∧ (s.setHeat n h).reader = s.reader ∧ (s.setHeat n h).passes = s.passes ∧ (s.setHeat n h).passSeq = s.passSeq ∧ (s.setHeat n h).fq = s.fq ∧ (s.setHeat n h).fqSeq = s.fqSeq ∧ (s.setHeat n h).slots = s.slots ∧ (s.setHeat n h).maps = s.maps ∧ (s.setHeat n h).staging = s.staging ∧ (s.setHeat n h).siu = s.siu ∧ (s.setHeat n h).csm = s.csm ∧ (s.setHeat n h).rot = s.rot ∧ (s.setHeat n h).perf = s.perf ∧ (s.setHeat n h).regs = s.regs ∧ (s.setHeat n h).port = s.port ∧ (s.setHeat n h).sched = s.sched ∧ (s.setHeat n h).nrstLow = s.nrstLow ∧ (s.setHeat n h).pending = s.pending := by
  simp only [State.setHeat]
  repeat' split
  all_goals simp

@[simp] theorem State.holdHeatEvent_keeps (s : State) (n : ChanId) :
    (s.holdHeatEvent n).mem = s.mem ∧ (s.holdHeatEvent n).scu = s.scu ∧ (s.holdHeatEvent n).reader = s.reader ∧ (s.holdHeatEvent n).passSeq = s.passSeq ∧ (s.holdHeatEvent n).slots = s.slots ∧ (s.holdHeatEvent n).maps = s.maps ∧ (s.holdHeatEvent n).staging = s.staging ∧ (s.holdHeatEvent n).siu = s.siu ∧ (s.holdHeatEvent n).csm = s.csm ∧ (s.holdHeatEvent n).rot = s.rot ∧ (s.holdHeatEvent n).perf = s.perf ∧ (s.holdHeatEvent n).port = s.port ∧ (s.holdHeatEvent n).sched = s.sched ∧ (s.holdHeatEvent n).nrstLow = s.nrstLow ∧ (s.holdHeatEvent n).pending = s.pending := by
  simp only [State.holdHeatEvent]
  repeat' split
  all_goals simp

@[simp] theorem State.strikeHeatEvent_keeps (s : State) (n : ChanId) :
    (s.strikeHeatEvent n).scu = s.scu ∧ (s.strikeHeatEvent n).reader = s.reader ∧ (s.strikeHeatEvent n).passSeq = s.passSeq ∧ (s.strikeHeatEvent n).fqSeq = s.fqSeq ∧ (s.strikeHeatEvent n).maps = s.maps ∧ (s.strikeHeatEvent n).staging = s.staging ∧ (s.strikeHeatEvent n).siu = s.siu ∧ (s.strikeHeatEvent n).csm = s.csm ∧ (s.strikeHeatEvent n).rot = s.rot ∧ (s.strikeHeatEvent n).perf = s.perf ∧ (s.strikeHeatEvent n).regs = s.regs ∧ (s.strikeHeatEvent n).port = s.port ∧ (s.strikeHeatEvent n).sched = s.sched ∧ (s.strikeHeatEvent n).nrstLow = s.nrstLow ∧ (s.strikeHeatEvent n).pending = s.pending := by
  simp only [State.strikeHeatEvent]
  repeat' split
  all_goals simp

@[simp] theorem State.heatEvent_keeps (s : State) (n : ChanId) :
    (s.heatEvent n).scu = s.scu ∧ (s.heatEvent n).reader = s.reader ∧ (s.heatEvent n).passSeq = s.passSeq ∧ (s.heatEvent n).maps = s.maps ∧ (s.heatEvent n).staging = s.staging ∧ (s.heatEvent n).siu = s.siu ∧ (s.heatEvent n).csm = s.csm ∧ (s.heatEvent n).rot = s.rot ∧ (s.heatEvent n).perf = s.perf ∧ (s.heatEvent n).port = s.port ∧ (s.heatEvent n).sched = s.sched ∧ (s.heatEvent n).nrstLow = s.nrstLow ∧ (s.heatEvent n).pending = s.pending := by
  simp only [State.heatEvent]
  repeat' split
  all_goals simp

@[simp] theorem State.arriveEngage_keeps (s : State) (e : FqEntry) (c : Option CueRef) (n : ChanId) :
    (s.arriveEngage e c n).scu = s.scu ∧ (s.arriveEngage e c n).reader = s.reader ∧ (s.arriveEngage e c n).passSeq = s.passSeq ∧ (s.arriveEngage e c n).fqSeq = s.fqSeq ∧ (s.arriveEngage e c n).maps = s.maps ∧ (s.arriveEngage e c n).staging = s.staging ∧ (s.arriveEngage e c n).siu = s.siu ∧ (s.arriveEngage e c n).csm = s.csm ∧ (s.arriveEngage e c n).rot = s.rot ∧ (s.arriveEngage e c n).perf = s.perf ∧ (s.arriveEngage e c n).regs = s.regs ∧ (s.arriveEngage e c n).port = s.port ∧ (s.arriveEngage e c n).sched = s.sched ∧ (s.arriveEngage e c n).nrstLow = s.nrstLow ∧ (s.arriveEngage e c n).pending = s.pending := by
  simp only [State.arriveEngage]
  repeat' split
  all_goals simp

/-! ### Arrivals -/

@[simp] theorem State.arriveMark_keeps (s : State) (e : FqEntry) (c : CueRef) (b : Bool) :
    (s.arriveMark e c b).scu = s.scu ∧ (s.arriveMark e c b).reader = s.reader ∧ (s.arriveMark e c b).passSeq = s.passSeq ∧ (s.arriveMark e c b).fqSeq = s.fqSeq ∧ (s.arriveMark e c b).slots = s.slots ∧ (s.arriveMark e c b).chans = s.chans ∧ (s.arriveMark e c b).maps = s.maps ∧ (s.arriveMark e c b).staging = s.staging ∧ (s.arriveMark e c b).siu = s.siu ∧ (s.arriveMark e c b).csm = s.csm ∧ (s.arriveMark e c b).rot = s.rot ∧ (s.arriveMark e c b).perf = s.perf ∧ (s.arriveMark e c b).port = s.port ∧ (s.arriveMark e c b).sched = s.sched ∧ (s.arriveMark e c b).nrstLow = s.nrstLow ∧ (s.arriveMark e c b).pending = s.pending := by
  simp only [State.arriveMark]
  repeat' split
  all_goals simp

@[simp] theorem State.arriveRotor_keeps (s : State) (e : FqEntry) (c : CueRef) (x : RotorCmd) :
    (s.arriveRotor e c x).scu = s.scu ∧ (s.arriveRotor e c x).reader = s.reader ∧ (s.arriveRotor e c x).passSeq = s.passSeq ∧ (s.arriveRotor e c x).fqSeq = s.fqSeq ∧ (s.arriveRotor e c x).slots = s.slots ∧ (s.arriveRotor e c x).chans = s.chans ∧ (s.arriveRotor e c x).maps = s.maps ∧ (s.arriveRotor e c x).staging = s.staging ∧ (s.arriveRotor e c x).siu = s.siu ∧ (s.arriveRotor e c x).csm = s.csm ∧ (s.arriveRotor e c x).perf = s.perf ∧ (s.arriveRotor e c x).regs = s.regs ∧ (s.arriveRotor e c x).port = s.port ∧ (s.arriveRotor e c x).sched = s.sched ∧ (s.arriveRotor e c x).nrstLow = s.nrstLow ∧ (s.arriveRotor e c x).pending = s.pending := by
  simp only [State.arriveRotor]
  repeat' split
  all_goals simp

@[simp] theorem State.arriveRelease_keeps (s : State) (e : FqEntry) (c : CueRef) (n : ChanId) :
    (s.arriveRelease e c n).scu = s.scu ∧ (s.arriveRelease e c n).reader = s.reader ∧ (s.arriveRelease e c n).passSeq = s.passSeq ∧ (s.arriveRelease e c n).fqSeq = s.fqSeq ∧ (s.arriveRelease e c n).maps = s.maps ∧ (s.arriveRelease e c n).staging = s.staging ∧ (s.arriveRelease e c n).siu = s.siu ∧ (s.arriveRelease e c n).csm = s.csm ∧ (s.arriveRelease e c n).rot = s.rot ∧ (s.arriveRelease e c n).perf = s.perf ∧ (s.arriveRelease e c n).regs = s.regs ∧ (s.arriveRelease e c n).port = s.port ∧ (s.arriveRelease e c n).sched = s.sched ∧ (s.arriveRelease e c n).nrstLow = s.nrstLow ∧ (s.arriveRelease e c n).pending = s.pending := by
  simp only [State.arriveRelease]
  repeat' split
  all_goals simp

@[simp] theorem State.arriveStroke_keeps (s : State) (e : FqEntry) :
    (s.arriveStroke e).scu = s.scu ∧ (s.arriveStroke e).reader = s.reader ∧ (s.arriveStroke e).passSeq = s.passSeq ∧ (s.arriveStroke e).fqSeq = s.fqSeq ∧ (s.arriveStroke e).maps = s.maps ∧ (s.arriveStroke e).staging = s.staging ∧ (s.arriveStroke e).siu = s.siu ∧ (s.arriveStroke e).csm = s.csm ∧ (s.arriveStroke e).rot = s.rot ∧ (s.arriveStroke e).perf = s.perf ∧ (s.arriveStroke e).regs = s.regs ∧ (s.arriveStroke e).port = s.port ∧ (s.arriveStroke e).sched = s.sched ∧ (s.arriveStroke e).nrstLow = s.nrstLow ∧ (s.arriveStroke e).pending = s.pending := by
  simp only [State.arriveStroke]
  repeat' split
  all_goals simp

@[simp] theorem State.arrive_keeps (s : State) (e : FqEntry) :
    (s.arrive e).scu = s.scu ∧ (s.arrive e).reader = s.reader ∧ (s.arrive e).passSeq = s.passSeq ∧ (s.arrive e).fqSeq = s.fqSeq ∧ (s.arrive e).maps = s.maps ∧ (s.arrive e).staging = s.staging ∧ (s.arrive e).siu = s.siu ∧ (s.arrive e).csm = s.csm ∧ (s.arrive e).perf = s.perf ∧ (s.arrive e).port = s.port ∧ (s.arrive e).sched = s.sched ∧ (s.arrive e).nrstLow = s.nrstLow ∧ (s.arrive e).pending = s.pending := by
  simp only [State.arrive]
  repeat' split
  all_goals simp

@[simp] theorem State.arriveTurn_keeps (s : State) (q : Nat) :
    (s.arriveTurn q).scu = s.scu ∧ (s.arriveTurn q).reader = s.reader ∧ (s.arriveTurn q).passSeq = s.passSeq ∧ (s.arriveTurn q).fqSeq = s.fqSeq ∧ (s.arriveTurn q).maps = s.maps ∧ (s.arriveTurn q).staging = s.staging ∧ (s.arriveTurn q).siu = s.siu ∧ (s.arriveTurn q).csm = s.csm ∧ (s.arriveTurn q).perf = s.perf ∧ (s.arriveTurn q).port = s.port ∧ (s.arriveTurn q).sched = s.sched ∧ (s.arriveTurn q).nrstLow = s.nrstLow ∧ (s.arriveTurn q).pending = s.pending := by
  simp only [State.arriveTurn]
  repeat' split
  all_goals simp

@[simp] theorem State.arriveAll_keeps (s : State)  :
    s.arriveAll.scu = s.scu ∧ s.arriveAll.reader = s.reader ∧ s.arriveAll.passSeq = s.passSeq ∧ s.arriveAll.fqSeq = s.fqSeq ∧ s.arriveAll.maps = s.maps ∧ s.arriveAll.staging = s.staging ∧ s.arriveAll.siu = s.siu ∧ s.arriveAll.csm = s.csm ∧ s.arriveAll.perf = s.perf ∧ s.arriveAll.port = s.port ∧ s.arriveAll.sched = s.sched ∧ s.arriveAll.nrstLow = s.nrstLow ∧ s.arriveAll.pending = s.pending := by
  simp only [State.arriveAll]
  repeat' split
  all_goals first | (simp; done) | skip
  all_goals refine ⟨fold_keep State.scu (by simp) (by simp), fold_keep State.reader (by simp) (by simp), fold_keep State.passSeq (by simp) (by simp), fold_keep State.fqSeq (by simp) (by simp), fold_keep State.maps (by simp) (by simp), fold_keep State.staging (by simp) (by simp), fold_keep State.siu (by simp) (by simp), fold_keep State.csm (by simp) (by simp), fold_keep State.perf (by simp) (by simp), fold_keep State.port (by simp) (by simp), fold_keep State.sched (by simp) (by simp), fold_keep State.nrstLow (by simp) (by simp), fold_keep State.pending (by simp) (by simp)⟩

/-! ### Score time -/

@[simp] theorem State.starvedTest_keeps (s : State)  :
    s.starvedTest.mem = s.mem ∧ s.starvedTest.scu = s.scu ∧ s.starvedTest.passes = s.passes ∧ s.starvedTest.passSeq = s.passSeq ∧ s.starvedTest.fq = s.fq ∧ s.starvedTest.fqSeq = s.fqSeq ∧ s.starvedTest.slots = s.slots ∧ s.starvedTest.chans = s.chans ∧ s.starvedTest.maps = s.maps ∧ s.starvedTest.staging = s.staging ∧ s.starvedTest.siu = s.siu ∧ s.starvedTest.csm = s.csm ∧ s.starvedTest.rot = s.rot ∧ s.starvedTest.perf = s.perf ∧ s.starvedTest.port = s.port ∧ s.starvedTest.sched = s.sched ∧ s.starvedTest.nrstLow = s.nrstLow ∧ s.starvedTest.pending = s.pending := by
  simp only [State.starvedTest]
  repeat' split
  all_goals simp

@[simp] theorem State.tempoAtBoundary_keeps (s : State) (x : Tick) (e : AgendaEntry) (p n : Nat) :
    (s.tempoAtBoundary x e p n).reader = s.reader ∧ (s.tempoAtBoundary x e p n).passSeq = s.passSeq ∧ (s.tempoAtBoundary x e p n).fq = s.fq ∧ (s.tempoAtBoundary x e p n).fqSeq = s.fqSeq ∧ (s.tempoAtBoundary x e p n).slots = s.slots ∧ (s.tempoAtBoundary x e p n).chans = s.chans ∧ (s.tempoAtBoundary x e p n).maps = s.maps ∧ (s.tempoAtBoundary x e p n).staging = s.staging ∧ (s.tempoAtBoundary x e p n).siu = s.siu ∧ (s.tempoAtBoundary x e p n).csm = s.csm ∧ (s.tempoAtBoundary x e p n).rot = s.rot ∧ (s.tempoAtBoundary x e p n).perf = s.perf ∧ (s.tempoAtBoundary x e p n).regs = s.regs ∧ (s.tempoAtBoundary x e p n).port = s.port ∧ (s.tempoAtBoundary x e p n).sched = s.sched ∧ (s.tempoAtBoundary x e p n).nrstLow = s.nrstLow ∧ (s.tempoAtBoundary x e p n).pending = s.pending := by
  simp only [State.tempoAtBoundary]
  repeat' split
  all_goals simp

@[simp] theorem State.holdAt_keeps (s : State) (b : Int) (u : Nat) :
    (s.holdAt b u).mem = s.mem ∧ (s.holdAt b u).reader = s.reader ∧ (s.holdAt b u).passes = s.passes ∧ (s.holdAt b u).passSeq = s.passSeq ∧ (s.holdAt b u).fq = s.fq ∧ (s.holdAt b u).fqSeq = s.fqSeq ∧ (s.holdAt b u).slots = s.slots ∧ (s.holdAt b u).chans = s.chans ∧ (s.holdAt b u).maps = s.maps ∧ (s.holdAt b u).staging = s.staging ∧ (s.holdAt b u).siu = s.siu ∧ (s.holdAt b u).csm = s.csm ∧ (s.holdAt b u).rot = s.rot ∧ (s.holdAt b u).port = s.port ∧ (s.holdAt b u).sched = s.sched ∧ (s.holdAt b u).nrstLow = s.nrstLow ∧ (s.holdAt b u).pending = s.pending := by
  simp only [State.holdAt]
  repeat' split
  all_goals simp

@[simp] theorem State.beginTick_keeps (s : State) (x : Tick) (b : Int) :
    (s.beginTick x b).mem = s.mem ∧ (s.beginTick x b).reader = s.reader ∧ (s.beginTick x b).passes = s.passes ∧ (s.beginTick x b).passSeq = s.passSeq ∧ (s.beginTick x b).fq = s.fq ∧ (s.beginTick x b).fqSeq = s.fqSeq ∧ (s.beginTick x b).slots = s.slots ∧ (s.beginTick x b).chans = s.chans ∧ (s.beginTick x b).maps = s.maps ∧ (s.beginTick x b).staging = s.staging ∧ (s.beginTick x b).siu = s.siu ∧ (s.beginTick x b).csm = s.csm ∧ (s.beginTick x b).perf = s.perf ∧ (s.beginTick x b).regs = s.regs ∧ (s.beginTick x b).port = s.port ∧ (s.beginTick x b).sched = s.sched ∧ (s.beginTick x b).nrstLow = s.nrstLow ∧ (s.beginTick x b).pending = s.pending := by
  simp only [State.beginTick]
  repeat' split
  all_goals simp

@[simp] theorem State.agendaAt_keeps (s : State) (x : Tick) (b : Int) (l : List AgendaEntry) :
    (s.agendaAt x b l).reader = s.reader ∧ (s.agendaAt x b l).passSeq = s.passSeq ∧ (s.agendaAt x b l).fq = s.fq ∧ (s.agendaAt x b l).fqSeq = s.fqSeq ∧ (s.agendaAt x b l).slots = s.slots ∧ (s.agendaAt x b l).chans = s.chans ∧ (s.agendaAt x b l).maps = s.maps ∧ (s.agendaAt x b l).staging = s.staging ∧ (s.agendaAt x b l).siu = s.siu ∧ (s.agendaAt x b l).csm = s.csm ∧ (s.agendaAt x b l).port = s.port ∧ (s.agendaAt x b l).sched = s.sched ∧ (s.agendaAt x b l).nrstLow = s.nrstLow ∧ (s.agendaAt x b l).pending = s.pending := by
  induction l generalizing s with
  | nil => simp [State.agendaAt]
  | cons e es ih =>
    simp only [State.agendaAt]
    repeat' split
    all_goals simp [ih]

@[simp] theorem State.boundaryAt_keeps (s : State) (b : Int) :
    (s.boundaryAt b).passSeq = s.passSeq ∧ (s.boundaryAt b).fq = s.fq ∧ (s.boundaryAt b).fqSeq = s.fqSeq ∧ (s.boundaryAt b).slots = s.slots ∧ (s.boundaryAt b).chans = s.chans ∧ (s.boundaryAt b).maps = s.maps ∧ (s.boundaryAt b).staging = s.staging ∧ (s.boundaryAt b).siu = s.siu ∧ (s.boundaryAt b).csm = s.csm ∧ (s.boundaryAt b).port = s.port ∧ (s.boundaryAt b).sched = s.sched ∧ (s.boundaryAt b).nrstLow = s.nrstLow ∧ (s.boundaryAt b).pending = s.pending := by
  simp only [State.boundaryAt]
  repeat' split
  all_goals simp

@[simp] theorem State.boundary_keeps (s : State)  :
    s.boundary.passSeq = s.passSeq ∧ s.boundary.fq = s.fq ∧ s.boundary.fqSeq = s.fqSeq ∧ s.boundary.slots = s.slots ∧ s.boundary.chans = s.chans ∧ s.boundary.maps = s.maps ∧ s.boundary.staging = s.staging ∧ s.boundary.siu = s.siu ∧ s.boundary.csm = s.csm ∧ s.boundary.port = s.port ∧ s.boundary.sched = s.sched ∧ s.boundary.nrstLow = s.nrstLow ∧ s.boundary.pending = s.pending := by
  simp only [State.boundary]
  repeat' split
  all_goals simp

@[simp] theorem State.syncoOff_keeps (s : State)  :
    s.syncoOff.mem = s.mem ∧ s.syncoOff.reader = s.reader ∧ s.syncoOff.passes = s.passes ∧ s.syncoOff.passSeq = s.passSeq ∧ s.syncoOff.fq = s.fq ∧ s.syncoOff.fqSeq = s.fqSeq ∧ s.syncoOff.slots = s.slots ∧ s.syncoOff.chans = s.chans ∧ s.syncoOff.maps = s.maps ∧ s.syncoOff.staging = s.staging ∧ s.syncoOff.siu = s.siu ∧ s.syncoOff.csm = s.csm ∧ s.syncoOff.rot = s.rot ∧ s.syncoOff.perf = s.perf ∧ s.syncoOff.regs = s.regs ∧ s.syncoOff.port = s.port ∧ s.syncoOff.sched = s.sched ∧ s.syncoOff.nrstLow = s.nrstLow ∧ s.syncoOff.pending = s.pending := by
  simp only [State.syncoOff]
  repeat' split
  all_goals simp

@[simp] theorem State.agendaEnds_keeps (s : State) (o : CueOutcome) :
    (s.agendaEnds o).reader = s.reader ∧ (s.agendaEnds o).passSeq = s.passSeq ∧ (s.agendaEnds o).fq = s.fq ∧ (s.agendaEnds o).fqSeq = s.fqSeq ∧ (s.agendaEnds o).slots = s.slots ∧ (s.agendaEnds o).chans = s.chans ∧ (s.agendaEnds o).maps = s.maps ∧ (s.agendaEnds o).staging = s.staging ∧ (s.agendaEnds o).siu = s.siu ∧ (s.agendaEnds o).csm = s.csm ∧ (s.agendaEnds o).rot = s.rot ∧ (s.agendaEnds o).perf = s.perf ∧ (s.agendaEnds o).regs = s.regs ∧ (s.agendaEnds o).port = s.port ∧ (s.agendaEnds o).sched = s.sched ∧ (s.agendaEnds o).nrstLow = s.nrstLow ∧ (s.agendaEnds o).pending = s.pending := by
  simp only [State.agendaEnds]
  repeat' split
  all_goals first | (simp; done) | skip
  all_goals refine ⟨fold_keep State.reader (by simp) (by simp), fold_keep State.passSeq (by simp) (by simp), fold_keep State.fq (by simp) (by simp), fold_keep State.fqSeq (by simp) (by simp), fold_keep State.slots (by simp) (by simp), fold_keep State.chans (by simp) (by simp), fold_keep State.maps (by simp) (by simp), fold_keep State.staging (by simp) (by simp), fold_keep State.siu (by simp) (by simp), fold_keep State.csm (by simp) (by simp), fold_keep State.rot (by simp) (by simp), fold_keep State.perf (by simp) (by simp), fold_keep State.regs (by simp) (by simp), fold_keep State.port (by simp) (by simp), fold_keep State.sched (by simp) (by simp), fold_keep State.nrstLow (by simp) (by simp), fold_keep State.pending (by simp) (by simp)⟩

@[simp] theorem State.regulate_keeps (s : State) (t : Int) :
    (s.regulate t).mem = s.mem ∧ (s.regulate t).reader = s.reader ∧ (s.regulate t).passes = s.passes ∧ (s.regulate t).passSeq = s.passSeq ∧ (s.regulate t).fq = s.fq ∧ (s.regulate t).fqSeq = s.fqSeq ∧ (s.regulate t).slots = s.slots ∧ (s.regulate t).chans = s.chans ∧ (s.regulate t).maps = s.maps ∧ (s.regulate t).staging = s.staging ∧ (s.regulate t).siu = s.siu ∧ (s.regulate t).csm = s.csm ∧ (s.regulate t).perf = s.perf ∧ (s.regulate t).regs = s.regs ∧ (s.regulate t).port = s.port ∧ (s.regulate t).sched = s.sched ∧ (s.regulate t).nrstLow = s.nrstLow ∧ (s.regulate t).pending = s.pending := by
  simp only [State.regulate]
  repeat' split
  all_goals simp

@[simp] theorem State.recordPulse_keeps (s : State) (t : Int) :
    (s.recordPulse t).mem = s.mem ∧ (s.recordPulse t).reader = s.reader ∧ (s.recordPulse t).passes = s.passes ∧ (s.recordPulse t).passSeq = s.passSeq ∧ (s.recordPulse t).fq = s.fq ∧ (s.recordPulse t).fqSeq = s.fqSeq ∧ (s.recordPulse t).slots = s.slots ∧ (s.recordPulse t).chans = s.chans ∧ (s.recordPulse t).maps = s.maps ∧ (s.recordPulse t).staging = s.staging ∧ (s.recordPulse t).siu = s.siu ∧ (s.recordPulse t).csm = s.csm ∧ (s.recordPulse t).rot = s.rot ∧ (s.recordPulse t).perf = s.perf ∧ (s.recordPulse t).regs = s.regs ∧ (s.recordPulse t).port = s.port ∧ (s.recordPulse t).sched = s.sched ∧ (s.recordPulse t).nrstLow = s.nrstLow ∧ (s.recordPulse t).pending = s.pending := by
  simp only [State.recordPulse]
  repeat' split
  all_goals simp

@[simp] theorem State.restartLoss_keeps (s : State)  :
    s.restartLoss.mem = s.mem ∧ s.restartLoss.reader = s.reader ∧ s.restartLoss.passes = s.passes ∧ s.restartLoss.passSeq = s.passSeq ∧ s.restartLoss.fq = s.fq ∧ s.restartLoss.fqSeq = s.fqSeq ∧ s.restartLoss.slots = s.slots ∧ s.restartLoss.chans = s.chans ∧ s.restartLoss.maps = s.maps ∧ s.restartLoss.staging = s.staging ∧ s.restartLoss.siu = s.siu ∧ s.restartLoss.csm = s.csm ∧ s.restartLoss.rot = s.rot ∧ s.restartLoss.perf = s.perf ∧ s.restartLoss.regs = s.regs ∧ s.restartLoss.port = s.port ∧ s.restartLoss.sched = s.sched ∧ s.restartLoss.nrstLow = s.nrstLow ∧ s.restartLoss.pending = s.pending := by
  simp only [State.restartLoss]
  repeat' split
  all_goals simp

@[simp] theorem State.countIn_keeps (s : State) (t : Int) :
    (s.countIn t).mem = s.mem ∧ (s.countIn t).reader = s.reader ∧ (s.countIn t).passes = s.passes ∧ (s.countIn t).passSeq = s.passSeq ∧ (s.countIn t).fq = s.fq ∧ (s.countIn t).fqSeq = s.fqSeq ∧ (s.countIn t).slots = s.slots ∧ (s.countIn t).chans = s.chans ∧ (s.countIn t).maps = s.maps ∧ (s.countIn t).staging = s.staging ∧ (s.countIn t).siu = s.siu ∧ (s.countIn t).csm = s.csm ∧ (s.countIn t).rot = s.rot ∧ (s.countIn t).perf = s.perf ∧ (s.countIn t).regs = s.regs ∧ (s.countIn t).port = s.port ∧ (s.countIn t).sched = s.sched ∧ (s.countIn t).nrstLow = s.nrstLow ∧ (s.countIn t).pending = s.pending := by
  simp only [State.countIn]
  repeat' split
  all_goals simp

@[simp] theorem State.takePulse_keeps (s : State) (t : Int) :
    (s.takePulse t).mem = s.mem ∧ (s.takePulse t).reader = s.reader ∧ (s.takePulse t).passes = s.passes ∧ (s.takePulse t).passSeq = s.passSeq ∧ (s.takePulse t).fq = s.fq ∧ (s.takePulse t).fqSeq = s.fqSeq ∧ (s.takePulse t).slots = s.slots ∧ (s.takePulse t).chans = s.chans ∧ (s.takePulse t).maps = s.maps ∧ (s.takePulse t).staging = s.staging ∧ (s.takePulse t).siu = s.siu ∧ (s.takePulse t).csm = s.csm ∧ (s.takePulse t).perf = s.perf ∧ (s.takePulse t).port = s.port ∧ (s.takePulse t).sched = s.sched ∧ (s.takePulse t).nrstLow = s.nrstLow ∧ (s.takePulse t).pending = s.pending := by
  simp only [State.takePulse]
  repeat' split
  all_goals simp

@[simp] theorem State.syncEdge_keeps (s : State) (d : DevTime) :
    (s.syncEdge d).mem = s.mem ∧ (s.syncEdge d).reader = s.reader ∧ (s.syncEdge d).passes = s.passes ∧ (s.syncEdge d).passSeq = s.passSeq ∧ (s.syncEdge d).fq = s.fq ∧ (s.syncEdge d).fqSeq = s.fqSeq ∧ (s.syncEdge d).slots = s.slots ∧ (s.syncEdge d).chans = s.chans ∧ (s.syncEdge d).maps = s.maps ∧ (s.syncEdge d).staging = s.staging ∧ (s.syncEdge d).siu = s.siu ∧ (s.syncEdge d).csm = s.csm ∧ (s.syncEdge d).perf = s.perf ∧ (s.syncEdge d).port = s.port ∧ (s.syncEdge d).sched = s.sched ∧ (s.syncEdge d).nrstLow = s.nrstLow ∧ (s.syncEdge d).pending = s.pending := by
  simp only [State.syncEdge]
  repeat' split
  all_goals simp

@[simp] theorem State.syncLost_keeps (s : State)  :
    s.syncLost.mem = s.mem ∧ s.syncLost.reader = s.reader ∧ s.syncLost.passes = s.passes ∧ s.syncLost.passSeq = s.passSeq ∧ s.syncLost.fq = s.fq ∧ s.syncLost.fqSeq = s.fqSeq ∧ s.syncLost.slots = s.slots ∧ s.syncLost.chans = s.chans ∧ s.syncLost.maps = s.maps ∧ s.syncLost.staging = s.staging ∧ s.syncLost.siu = s.siu ∧ s.syncLost.csm = s.csm ∧ s.syncLost.rot = s.rot ∧ s.syncLost.perf = s.perf ∧ s.syncLost.port = s.port ∧ s.syncLost.sched = s.sched ∧ s.syncLost.nrstLow = s.nrstLow ∧ s.syncLost.pending = s.pending := by
  simp only [State.syncLost]
  repeat' split
  all_goals simp

/-! ### The reader -/

@[simp] theorem State.leavePass_keeps (s : State)  :
    s.leavePass.scu = s.scu ∧ s.leavePass.passSeq = s.passSeq ∧ s.leavePass.fq = s.fq ∧ s.leavePass.fqSeq = s.fqSeq ∧ s.leavePass.slots = s.slots ∧ s.leavePass.chans = s.chans ∧ s.leavePass.maps = s.maps ∧ s.leavePass.staging = s.staging ∧ s.leavePass.siu = s.siu ∧ s.leavePass.csm = s.csm ∧ s.leavePass.rot = s.rot ∧ s.leavePass.perf = s.perf ∧ s.leavePass.regs = s.regs ∧ s.leavePass.port = s.port ∧ s.leavePass.sched = s.sched ∧ s.leavePass.nrstLow = s.nrstLow ∧ s.leavePass.pending = s.pending := by
  simp only [State.leavePass]
  repeat' split
  all_goals simp

@[simp] theorem State.chainFault_keeps (s : State) (d : FaultDetail) (b : Addr) (i k : Nat) :
    (s.chainFault d b i k).scu = s.scu ∧ (s.chainFault d b i k).passSeq = s.passSeq ∧ (s.chainFault d b i k).fq = s.fq ∧ (s.chainFault d b i k).fqSeq = s.fqSeq ∧ (s.chainFault d b i k).slots = s.slots ∧ (s.chainFault d b i k).chans = s.chans ∧ (s.chainFault d b i k).maps = s.maps ∧ (s.chainFault d b i k).staging = s.staging ∧ (s.chainFault d b i k).siu = s.siu ∧ (s.chainFault d b i k).csm = s.csm ∧ (s.chainFault d b i k).rot = s.rot ∧ (s.chainFault d b i k).port = s.port ∧ (s.chainFault d b i k).sched = s.sched ∧ (s.chainFault d b i k).nrstLow = s.nrstLow ∧ (s.chainFault d b i k).pending = s.pending := by
  simp only [State.chainFault]
  repeat' split
  all_goals simp

@[simp] theorem State.takeEnd_keeps (s : State)  :
    s.takeEnd.scu = s.scu ∧ s.takeEnd.passSeq = s.passSeq ∧ s.takeEnd.fq = s.fq ∧ s.takeEnd.fqSeq = s.fqSeq ∧ s.takeEnd.slots = s.slots ∧ s.takeEnd.chans = s.chans ∧ s.takeEnd.maps = s.maps ∧ s.takeEnd.staging = s.staging ∧ s.takeEnd.siu = s.siu ∧ s.takeEnd.csm = s.csm ∧ s.takeEnd.rot = s.rot ∧ s.takeEnd.regs = s.regs ∧ s.takeEnd.port = s.port ∧ s.takeEnd.sched = s.sched ∧ s.takeEnd.nrstLow = s.nrstLow ∧ s.takeEnd.pending = s.pending := by
  simp only [State.takeEnd]
  repeat' split
  all_goals simp

@[simp] theorem State.endReading_keeps (s : State)  :
    s.endReading.scu = s.scu ∧ s.endReading.passSeq = s.passSeq ∧ s.endReading.fq = s.fq ∧ s.endReading.fqSeq = s.fqSeq ∧ s.endReading.slots = s.slots ∧ s.endReading.chans = s.chans ∧ s.endReading.maps = s.maps ∧ s.endReading.staging = s.staging ∧ s.endReading.siu = s.siu ∧ s.endReading.csm = s.csm ∧ s.endReading.rot = s.rot ∧ s.endReading.perf = s.perf ∧ s.endReading.regs = s.regs ∧ s.endReading.port = s.port ∧ s.endReading.sched = s.sched ∧ s.endReading.nrstLow = s.nrstLow ∧ s.endReading.pending = s.pending := by
  simp only [State.endReading]
  repeat' split
  all_goals simp

@[simp] theorem State.readSlot_keeps (s : State) (k : Nat) :
    (s.readSlot k).scu = s.scu ∧ (s.readSlot k).passSeq = s.passSeq ∧ (s.readSlot k).fq = s.fq ∧ (s.readSlot k).fqSeq = s.fqSeq ∧ (s.readSlot k).slots = s.slots ∧ (s.readSlot k).chans = s.chans ∧ (s.readSlot k).maps = s.maps ∧ (s.readSlot k).staging = s.staging ∧ (s.readSlot k).siu = s.siu ∧ (s.readSlot k).csm = s.csm ∧ (s.readSlot k).rot = s.rot ∧ (s.readSlot k).port = s.port ∧ (s.readSlot k).sched = s.sched ∧ (s.readSlot k).nrstLow = s.nrstLow ∧ (s.readSlot k).pending = s.pending := by
  simp only [State.readSlot]
  repeat' split
  all_goals simp

@[simp] theorem State.entryFault_keeps (s : State) (a : Addr) (h : Entry) (d : FaultDetail) :
    (s.entryFault a h d).scu = s.scu ∧ (s.entryFault a h d).passSeq = s.passSeq ∧ (s.entryFault a h d).fq = s.fq ∧ (s.entryFault a h d).fqSeq = s.fqSeq ∧ (s.entryFault a h d).slots = s.slots ∧ (s.entryFault a h d).chans = s.chans ∧ (s.entryFault a h d).maps = s.maps ∧ (s.entryFault a h d).staging = s.staging ∧ (s.entryFault a h d).siu = s.siu ∧ (s.entryFault a h d).csm = s.csm ∧ (s.entryFault a h d).rot = s.rot ∧ (s.entryFault a h d).port = s.port ∧ (s.entryFault a h d).sched = s.sched ∧ (s.entryFault a h d).nrstLow = s.nrstLow ∧ (s.entryFault a h d).pending = s.pending := by
  simp only [State.entryFault]
  repeat' split
  all_goals simp

@[simp] theorem State.commitEntry_keeps (s : State) (a : Addr) (h : Entry) :
    (s.commitEntry a h).scu = s.scu ∧ (s.commitEntry a h).fq = s.fq ∧ (s.commitEntry a h).fqSeq = s.fqSeq ∧ (s.commitEntry a h).slots = s.slots ∧ (s.commitEntry a h).chans = s.chans ∧ (s.commitEntry a h).maps = s.maps ∧ (s.commitEntry a h).staging = s.staging ∧ (s.commitEntry a h).siu = s.siu ∧ (s.commitEntry a h).csm = s.csm ∧ (s.commitEntry a h).rot = s.rot ∧ (s.commitEntry a h).perf = s.perf ∧ (s.commitEntry a h).regs = s.regs ∧ (s.commitEntry a h).port = s.port ∧ (s.commitEntry a h).sched = s.sched ∧ (s.commitEntry a h).nrstLow = s.nrstLow ∧ (s.commitEntry a h).pending = s.pending := by
  simp only [State.commitEntry]
  repeat' split
  all_goals simp

@[simp] theorem State.stallEntry_keeps (s : State) (a : Addr) (h : Entry) (x : ReaderState) :
    (s.stallEntry a h x).mem = s.mem ∧ (s.stallEntry a h x).scu = s.scu ∧ (s.stallEntry a h x).passes = s.passes ∧ (s.stallEntry a h x).passSeq = s.passSeq ∧ (s.stallEntry a h x).fq = s.fq ∧ (s.stallEntry a h x).fqSeq = s.fqSeq ∧ (s.stallEntry a h x).slots = s.slots ∧ (s.stallEntry a h x).chans = s.chans ∧ (s.stallEntry a h x).maps = s.maps ∧ (s.stallEntry a h x).staging = s.staging ∧ (s.stallEntry a h x).siu = s.siu ∧ (s.stallEntry a h x).csm = s.csm ∧ (s.stallEntry a h x).rot = s.rot ∧ (s.stallEntry a h x).perf = s.perf ∧ (s.stallEntry a h x).regs = s.regs ∧ (s.stallEntry a h x).port = s.port ∧ (s.stallEntry a h x).sched = s.sched ∧ (s.stallEntry a h x).nrstLow = s.nrstLow ∧ (s.stallEntry a h x).pending = s.pending := by
  simp only [State.stallEntry]
  repeat' split
  all_goals simp

@[simp] theorem State.enterLinkWait_keeps (s : State)  :
    s.enterLinkWait.mem = s.mem ∧ s.enterLinkWait.scu = s.scu ∧ s.enterLinkWait.passes = s.passes ∧ s.enterLinkWait.passSeq = s.passSeq ∧ s.enterLinkWait.fq = s.fq ∧ s.enterLinkWait.fqSeq = s.fqSeq ∧ s.enterLinkWait.slots = s.slots ∧ s.enterLinkWait.chans = s.chans ∧ s.enterLinkWait.maps = s.maps ∧ s.enterLinkWait.staging = s.staging ∧ s.enterLinkWait.siu = s.siu ∧ s.enterLinkWait.csm = s.csm ∧ s.enterLinkWait.rot = s.rot ∧ s.enterLinkWait.perf = s.perf ∧ s.enterLinkWait.port = s.port ∧ s.enterLinkWait.sched = s.sched ∧ s.enterLinkWait.nrstLow = s.nrstLow ∧ s.enterLinkWait.pending = s.pending := by
  simp only [State.enterLinkWait]
  repeat' split
  all_goals simp

@[simp] theorem State.enterBlock_keeps (s : State) (a : Addr) (h : Entry) (k : Nat) :
    (s.enterBlock a h k).scu = s.scu ∧ (s.enterBlock a h k).fq = s.fq ∧ (s.enterBlock a h k).fqSeq = s.fqSeq ∧ (s.enterBlock a h k).slots = s.slots ∧ (s.enterBlock a h k).chans = s.chans ∧ (s.enterBlock a h k).maps = s.maps ∧ (s.enterBlock a h k).staging = s.staging ∧ (s.enterBlock a h k).siu = s.siu ∧ (s.enterBlock a h k).csm = s.csm ∧ (s.enterBlock a h k).rot = s.rot ∧ (s.enterBlock a h k).port = s.port ∧ (s.enterBlock a h k).sched = s.sched ∧ (s.enterBlock a h k).nrstLow = s.nrstLow ∧ (s.enterBlock a h k).pending = s.pending := by
  induction k generalizing s a h with
  | zero => simp [State.enterBlock]
  | succ k ih =>
    simp only [State.enterBlock]
    repeat' split
    all_goals simp [ih]

@[simp] theorem State.readLink_keeps (s : State)  :
    s.readLink.scu = s.scu ∧ s.readLink.fq = s.fq ∧ s.readLink.fqSeq = s.fqSeq ∧ s.readLink.slots = s.slots ∧ s.readLink.chans = s.chans ∧ s.readLink.maps = s.maps ∧ s.readLink.staging = s.staging ∧ s.readLink.siu = s.siu ∧ s.readLink.csm = s.csm ∧ s.readLink.rot = s.rot ∧ s.readLink.port = s.port ∧ s.readLink.sched = s.sched ∧ s.readLink.nrstLow = s.nrstLow ∧ s.readLink.pending = s.pending := by
  simp only [State.readLink]
  repeat' split
  all_goals simp

@[simp] theorem State.readNext_keeps (s : State)  :
    s.readNext.scu = s.scu ∧ s.readNext.fq = s.fq ∧ s.readNext.fqSeq = s.fqSeq ∧ s.readNext.slots = s.slots ∧ s.readNext.chans = s.chans ∧ s.readNext.maps = s.maps ∧ s.readNext.staging = s.staging ∧ s.readNext.siu = s.siu ∧ s.readNext.csm = s.csm ∧ s.readNext.rot = s.rot ∧ s.readNext.port = s.port ∧ s.readNext.sched = s.sched ∧ s.readNext.nrstLow = s.nrstLow ∧ s.readNext.pending = s.pending := by
  simp only [State.readNext]
  repeat' split
  all_goals simp

@[simp] theorem State.pollLink_keeps (s : State)  :
    s.pollLink.scu = s.scu ∧ s.pollLink.fq = s.fq ∧ s.pollLink.fqSeq = s.fqSeq ∧ s.pollLink.slots = s.slots ∧ s.pollLink.chans = s.chans ∧ s.pollLink.maps = s.maps ∧ s.pollLink.staging = s.staging ∧ s.pollLink.siu = s.siu ∧ s.pollLink.csm = s.csm ∧ s.pollLink.rot = s.rot ∧ s.pollLink.port = s.port ∧ s.pollLink.sched = s.sched ∧ s.pollLink.nrstLow = s.nrstLow ∧ s.pollLink.pending = s.pending := by
  simp only [State.pollLink]
  repeat' split
  all_goals simp

@[simp] theorem State.agendaJoin_keeps (s : State) (b : AgendaBody) :
    (s.agendaJoin b).mem = s.mem ∧ (s.agendaJoin b).reader = s.reader ∧ (s.agendaJoin b).passSeq = s.passSeq ∧ (s.agendaJoin b).fq = s.fq ∧ (s.agendaJoin b).fqSeq = s.fqSeq ∧ (s.agendaJoin b).slots = s.slots ∧ (s.agendaJoin b).chans = s.chans ∧ (s.agendaJoin b).maps = s.maps ∧ (s.agendaJoin b).staging = s.staging ∧ (s.agendaJoin b).siu = s.siu ∧ (s.agendaJoin b).csm = s.csm ∧ (s.agendaJoin b).rot = s.rot ∧ (s.agendaJoin b).perf = s.perf ∧ (s.agendaJoin b).regs = s.regs ∧ (s.agendaJoin b).port = s.port ∧ (s.agendaJoin b).sched = s.sched ∧ (s.agendaJoin b).nrstLow = s.nrstLow ∧ (s.agendaJoin b).pending = s.pending := by
  simp only [State.agendaJoin]
  repeat' split
  all_goals simp

@[simp] theorem State.takeRepeat_keeps (s : State) (a : Addr) (c : Nat) :
    (s.takeRepeat a c).scu = s.scu ∧ (s.takeRepeat a c).fq = s.fq ∧ (s.takeRepeat a c).fqSeq = s.fqSeq ∧ (s.takeRepeat a c).slots = s.slots ∧ (s.takeRepeat a c).chans = s.chans ∧ (s.takeRepeat a c).maps = s.maps ∧ (s.takeRepeat a c).staging = s.staging ∧ (s.takeRepeat a c).siu = s.siu ∧ (s.takeRepeat a c).csm = s.csm ∧ (s.takeRepeat a c).rot = s.rot ∧ (s.takeRepeat a c).port = s.port ∧ (s.takeRepeat a c).sched = s.sched ∧ (s.takeRepeat a c).nrstLow = s.nrstLow ∧ (s.takeRepeat a c).pending = s.pending := by
  simp only [State.takeRepeat]
  repeat' split
  all_goals simp

@[simp] theorem State.placeAsk_keeps (s : State) (a : Ask) (o : Int) :
    (s.placeAsk a o).slots = s.slots ∧ (s.placeAsk a o).siu = s.siu ∧ (s.placeAsk a o).csm = s.csm ∧ (s.placeAsk a o).rot = s.rot ∧ (s.placeAsk a o).port = s.port ∧ (s.placeAsk a o).sched = s.sched ∧ (s.placeAsk a o).nrstLow = s.nrstLow ∧ (s.placeAsk a o).pending = s.pending := by
  unfold State.placeAsk
  split
  all_goals simp

@[simp] theorem State.roomAndAdmit_keeps (s : State) (a : Ask) (o : Int) :
    (s.roomAndAdmit a o).slots = s.slots ∧ (s.roomAndAdmit a o).siu = s.siu ∧ (s.roomAndAdmit a o).csm = s.csm ∧ (s.roomAndAdmit a o).rot = s.rot ∧ (s.roomAndAdmit a o).port = s.port ∧ (s.roomAndAdmit a o).sched = s.sched ∧ (s.roomAndAdmit a o).nrstLow = s.nrstLow ∧ (s.roomAndAdmit a o).pending = s.pending := by
  simp only [State.roomAndAdmit]
  repeat' split
  all_goals simp

@[simp] theorem State.takeOn_keeps (s : State) (c : Cue) (o : Int) :
    (s.takeOn c o).slots = s.slots ∧ (s.takeOn c o).siu = s.siu ∧ (s.takeOn c o).csm = s.csm ∧ (s.takeOn c o).rot = s.rot ∧ (s.takeOn c o).port = s.port ∧ (s.takeOn c o).sched = s.sched ∧ (s.takeOn c o).nrstLow = s.nrstLow ∧ (s.takeOn c o).pending = s.pending := by
  simp only [State.takeOn]
  repeat' split
  all_goals simp

@[simp] theorem State.passHorizon_keeps (s : State)  :
    s.passHorizon.slots = s.slots ∧ s.passHorizon.siu = s.siu ∧ s.passHorizon.csm = s.csm ∧ s.passHorizon.rot = s.rot ∧ s.passHorizon.port = s.port ∧ s.passHorizon.sched = s.sched ∧ s.passHorizon.nrstLow = s.nrstLow ∧ s.passHorizon.pending = s.pending := by
  simp only [State.passHorizon]
  repeat' split
  all_goals simp

@[simp] theorem State.releaseStall_keeps (s : State)  :
    s.releaseStall.slots = s.slots ∧ s.releaseStall.siu = s.siu ∧ s.releaseStall.csm = s.csm ∧ s.releaseStall.rot = s.rot ∧ s.releaseStall.port = s.port ∧ s.releaseStall.sched = s.sched ∧ s.releaseStall.nrstLow = s.nrstLow ∧ s.releaseStall.pending = s.pending := by
  simp only [State.releaseStall]
  repeat' split
  all_goals simp

@[simp] theorem State.releaseHoldpoint_keeps (s : State) (e : AgendaEntry) (x : ReleaseSource) (d : Nat) :
    (s.releaseHoldpoint e x d).fq = s.fq ∧ (s.releaseHoldpoint e x d).fqSeq = s.fqSeq ∧ (s.releaseHoldpoint e x d).slots = s.slots ∧ (s.releaseHoldpoint e x d).chans = s.chans ∧ (s.releaseHoldpoint e x d).maps = s.maps ∧ (s.releaseHoldpoint e x d).staging = s.staging ∧ (s.releaseHoldpoint e x d).siu = s.siu ∧ (s.releaseHoldpoint e x d).csm = s.csm ∧ (s.releaseHoldpoint e x d).rot = s.rot ∧ (s.releaseHoldpoint e x d).port = s.port ∧ (s.releaseHoldpoint e x d).sched = s.sched ∧ (s.releaseHoldpoint e x d).nrstLow = s.nrstLow ∧ (s.releaseHoldpoint e x d).pending = s.pending := by
  simp only [State.releaseHoldpoint]
  repeat' split
  all_goals simp

@[simp] theorem State.releaseHeld_keeps (s : State) (x : ReleaseSource) :
    (s.releaseHeld x).fq = s.fq ∧ (s.releaseHeld x).fqSeq = s.fqSeq ∧ (s.releaseHeld x).slots = s.slots ∧ (s.releaseHeld x).chans = s.chans ∧ (s.releaseHeld x).maps = s.maps ∧ (s.releaseHeld x).staging = s.staging ∧ (s.releaseHeld x).siu = s.siu ∧ (s.releaseHeld x).csm = s.csm ∧ (s.releaseHeld x).rot = s.rot ∧ (s.releaseHeld x).port = s.port ∧ (s.releaseHeld x).sched = s.sched ∧ (s.releaseHeld x).nrstLow = s.nrstLow ∧ (s.releaseHeld x).pending = s.pending := by
  simp only [State.releaseHeld]
  repeat' split
  all_goals simp

@[simp] theorem State.cueEdge_keeps (s : State)  :
    s.cueEdge.fq = s.fq ∧ s.cueEdge.fqSeq = s.fqSeq ∧ s.cueEdge.slots = s.slots ∧ s.cueEdge.chans = s.chans ∧ s.cueEdge.maps = s.maps ∧ s.cueEdge.staging = s.staging ∧ s.cueEdge.siu = s.siu ∧ s.cueEdge.csm = s.csm ∧ s.cueEdge.rot = s.rot ∧ s.cueEdge.port = s.port ∧ s.cueEdge.sched = s.sched ∧ s.cueEdge.nrstLow = s.nrstLow ∧ s.cueEdge.pending = s.pending := by
  simp only [State.cueEdge]
  repeat' split
  all_goals simp

/-! ### Coil supply and housekeeping -/

@[simp] theorem State.takeBrown_keeps (s : State)  :
    s.takeBrown.scu = s.scu ∧ s.takeBrown.reader = s.reader ∧ s.takeBrown.passSeq = s.passSeq ∧ s.takeBrown.fqSeq = s.fqSeq ∧ s.takeBrown.maps = s.maps ∧ s.takeBrown.staging = s.staging ∧ s.takeBrown.siu = s.siu ∧ s.takeBrown.csm = s.csm ∧ s.takeBrown.perf = s.perf ∧ s.takeBrown.port = s.port ∧ s.takeBrown.sched = s.sched ∧ s.takeBrown.nrstLow = s.nrstLow ∧ s.takeBrown.pending = s.pending := by
  refine ⟨?_, ?_, ?_, ?_, ?_, ?_, ?_, ?_, ?_, ?_, ?_, ?_, ?_⟩
  · simp only [State.takeBrown, State.forChans, State.rotorBrown_keeps]; exact fold_keep State.scu (by simp) (fold_keep State.scu (by simp) (by simp))
  · simp only [State.takeBrown, State.forChans, State.rotorBrown_keeps]; exact fold_keep State.reader (by simp) (fold_keep State.reader (by simp) (by simp))
  · simp only [State.takeBrown, State.forChans, State.rotorBrown_keeps]; exact fold_keep State.passSeq (by simp) (fold_keep State.passSeq (by simp) (by simp))
  · simp only [State.takeBrown, State.forChans, State.rotorBrown_keeps]; exact fold_keep State.fqSeq (by simp) (fold_keep State.fqSeq (by simp) (by simp))
  · simp only [State.takeBrown, State.forChans, State.rotorBrown_keeps]; exact fold_keep State.maps (by simp) (fold_keep State.maps (by simp) (by simp))
  · simp only [State.takeBrown, State.forChans, State.rotorBrown_keeps]; exact fold_keep State.staging (by simp) (fold_keep State.staging (by simp) (by simp))
  · simp only [State.takeBrown, State.forChans, State.rotorBrown_keeps]; exact fold_keep State.siu (by simp) (fold_keep State.siu (by simp) (by simp))
  · simp only [State.takeBrown, State.forChans, State.rotorBrown_keeps]; exact fold_keep State.csm (by simp) (fold_keep State.csm (by simp) (by simp))
  · simp only [State.takeBrown, State.forChans, State.rotorBrown_keeps]; exact fold_keep State.perf (by simp) (fold_keep State.perf (by simp) (by simp))
  · simp only [State.takeBrown, State.forChans, State.rotorBrown_keeps]; exact fold_keep State.port (by simp) (fold_keep State.port (by simp) (by simp))
  · simp only [State.takeBrown, State.forChans, State.rotorBrown_keeps]; exact fold_keep State.sched (by simp) (fold_keep State.sched (by simp) (by simp))
  · simp only [State.takeBrown, State.forChans, State.rotorBrown_keeps]; exact fold_keep State.nrstLow (by simp) (fold_keep State.nrstLow (by simp) (by simp))
  · simp only [State.takeBrown, State.forChans, State.rotorBrown_keeps]; exact fold_keep State.pending (by simp) (fold_keep State.pending (by simp) (by simp))

@[simp] theorem State.reengageAll_keeps (s : State)  :
    (s.forChans State.reengageAfterBrown).mem = s.mem ∧ (s.forChans State.reengageAfterBrown).scu = s.scu ∧ (s.forChans State.reengageAfterBrown).reader = s.reader ∧ (s.forChans State.reengageAfterBrown).passSeq = s.passSeq ∧ (s.forChans State.reengageAfterBrown).slots = s.slots ∧ (s.forChans State.reengageAfterBrown).maps = s.maps ∧ (s.forChans State.reengageAfterBrown).staging = s.staging ∧ (s.forChans State.reengageAfterBrown).siu = s.siu ∧ (s.forChans State.reengageAfterBrown).csm = s.csm ∧ (s.forChans State.reengageAfterBrown).rot = s.rot ∧ (s.forChans State.reengageAfterBrown).perf = s.perf ∧ (s.forChans State.reengageAfterBrown).regs = s.regs ∧ (s.forChans State.reengageAfterBrown).port = s.port ∧ (s.forChans State.reengageAfterBrown).sched = s.sched ∧ (s.forChans State.reengageAfterBrown).nrstLow = s.nrstLow ∧ (s.forChans State.reengageAfterBrown).pending = s.pending := by
  refine ⟨?_, ?_, ?_, ?_, ?_, ?_, ?_, ?_, ?_, ?_, ?_, ?_, ?_, ?_, ?_, ?_⟩
  · exact fold_keep State.mem (by simp) rfl
  · exact fold_keep State.scu (by simp) rfl
  · exact fold_keep State.reader (by simp) rfl
  · exact fold_keep State.passSeq (by simp) rfl
  · exact fold_keep State.slots (by simp) rfl
  · exact fold_keep State.maps (by simp) rfl
  · exact fold_keep State.staging (by simp) rfl
  · exact fold_keep State.siu (by simp) rfl
  · exact fold_keep State.csm (by simp) rfl
  · exact fold_keep State.rot (by simp) rfl
  · exact fold_keep State.perf (by simp) rfl
  · exact fold_keep State.regs (by simp) rfl
  · exact fold_keep State.port (by simp) rfl
  · exact fold_keep State.sched (by simp) rfl
  · exact fold_keep State.nrstLow (by simp) rfl
  · exact fold_keep State.pending (by simp) rfl

@[simp] theorem State.changeLevel_keeps (s : State) (x : SupplyLevel) :
    (s.changeLevel x).scu = s.scu ∧ (s.changeLevel x).reader = s.reader ∧ (s.changeLevel x).passSeq = s.passSeq ∧ (s.changeLevel x).maps = s.maps ∧ (s.changeLevel x).staging = s.staging ∧ (s.changeLevel x).siu = s.siu ∧ (s.changeLevel x).perf = s.perf ∧ (s.changeLevel x).port = s.port ∧ (s.changeLevel x).sched = s.sched ∧ (s.changeLevel x).nrstLow = s.nrstLow ∧ (s.changeLevel x).pending = s.pending := by
  simp only [State.changeLevel]
  repeat' split
  all_goals simp

@[simp] theorem State.sampleSupply_keeps (s : State) (u : Nat) :
    (s.sampleSupply u).scu = s.scu ∧ (s.sampleSupply u).reader = s.reader ∧ (s.sampleSupply u).passSeq = s.passSeq ∧ (s.sampleSupply u).maps = s.maps ∧ (s.sampleSupply u).staging = s.staging ∧ (s.sampleSupply u).siu = s.siu ∧ (s.sampleSupply u).perf = s.perf ∧ (s.sampleSupply u).port = s.port ∧ (s.sampleSupply u).sched = s.sched ∧ (s.sampleSupply u).nrstLow = s.nrstLow ∧ (s.sampleSupply u).pending = s.pending := by
  simp only [State.sampleSupply]
  repeat' split
  all_goals simp

@[simp] theorem State.housekeeping_keeps (s : State) (u : Nat) :
    (s.housekeeping u).scu = s.scu ∧ (s.housekeeping u).maps = s.maps ∧ (s.housekeeping u).staging = s.staging ∧ (s.housekeeping u).siu = s.siu ∧ (s.housekeeping u).port = s.port ∧ (s.housekeeping u).sched = s.sched ∧ (s.housekeeping u).nrstLow = s.nrstLow ∧ (s.housekeeping u).pending = s.pending := by
  simp only [State.housekeeping]
  repeat' split
  all_goals simp

@[simp] theorem State.reportAll_keeps (s : State)  :
    s.reportAll.scu = s.scu ∧ s.reportAll.reader = s.reader ∧ s.reportAll.passes = s.passes ∧ s.reportAll.passSeq = s.passSeq ∧ s.reportAll.fq = s.fq ∧ s.reportAll.fqSeq = s.fqSeq ∧ s.reportAll.slots = s.slots ∧ s.reportAll.chans = s.chans ∧ s.reportAll.maps = s.maps ∧ s.reportAll.staging = s.staging ∧ s.reportAll.siu = s.siu ∧ s.reportAll.csm = s.csm ∧ s.reportAll.rot = s.rot ∧ s.reportAll.perf = s.perf ∧ s.reportAll.regs = s.regs ∧ s.reportAll.port = s.port ∧ s.reportAll.sched = s.sched ∧ s.reportAll.nrstLow = s.nrstLow ∧ s.reportAll.pending = s.pending := by
  simp only [State.reportAll]
  repeat' split
  all_goals first | (simp; done) | skip
  all_goals refine ⟨fold_keep State.scu (by simp) (by simp), fold_keep State.reader (by simp) (by simp), fold_keep State.passes (by simp) (by simp), fold_keep State.passSeq (by simp) (by simp), fold_keep State.fq (by simp) (by simp), fold_keep State.fqSeq (by simp) (by simp), fold_keep State.slots (by simp) (by simp), fold_keep State.chans (by simp) (by simp), fold_keep State.maps (by simp) (by simp), fold_keep State.staging (by simp) (by simp), fold_keep State.siu (by simp) (by simp), fold_keep State.csm (by simp) (by simp), fold_keep State.rot (by simp) (by simp), fold_keep State.perf (by simp) (by simp), fold_keep State.regs (by simp) (by simp), fold_keep State.port (by simp) (by simp), fold_keep State.sched (by simp) (by simp), fold_keep State.nrstLow (by simp) (by simp), fold_keep State.pending (by simp) (by simp)⟩

/-! ### Running a performance -/

@[simp] theorem State.startLoading_keeps (s : State)  :
    s.startLoading.mem = s.mem ∧ s.startLoading.scu = s.scu ∧ s.startLoading.reader = s.reader ∧ s.startLoading.passes = s.passes ∧ s.startLoading.passSeq = s.passSeq ∧ s.startLoading.fq = s.fq ∧ s.startLoading.fqSeq = s.fqSeq ∧ s.startLoading.slots = s.slots ∧ s.startLoading.chans = s.chans ∧ s.startLoading.maps = s.maps ∧ s.startLoading.staging = s.staging ∧ s.startLoading.siu = s.siu ∧ s.startLoading.csm = s.csm ∧ s.startLoading.rot = s.rot ∧ s.startLoading.regs = s.regs ∧ s.startLoading.port = s.port ∧ s.startLoading.sched = s.sched ∧ s.startLoading.nrstLow = s.nrstLow ∧ s.startLoading.pending = s.pending := by
  simp only [State.startLoading]
  repeat' split
  all_goals simp

@[simp] theorem State.takePause_keeps (s : State)  :
    s.takePause.mem = s.mem ∧ s.takePause.scu = s.scu ∧ s.takePause.reader = s.reader ∧ s.takePause.passes = s.passes ∧ s.takePause.passSeq = s.passSeq ∧ s.takePause.fq = s.fq ∧ s.takePause.fqSeq = s.fqSeq ∧ s.takePause.slots = s.slots ∧ s.takePause.chans = s.chans ∧ s.takePause.maps = s.maps ∧ s.takePause.staging = s.staging ∧ s.takePause.siu = s.siu ∧ s.takePause.csm = s.csm ∧ s.takePause.rot = s.rot ∧ s.takePause.regs = s.regs ∧ s.takePause.port = s.port ∧ s.takePause.sched = s.sched ∧ s.takePause.nrstLow = s.nrstLow ∧ s.takePause.pending = s.pending := by
  simp only [State.takePause]
  repeat' split
  all_goals simp

@[simp] theorem State.drained_keeps (s : State)  :
    s.drained.scu = s.scu ∧ s.drained.reader = s.reader ∧ s.drained.passSeq = s.passSeq ∧ s.drained.fqSeq = s.fqSeq ∧ s.drained.maps = s.maps ∧ s.drained.staging = s.staging ∧ s.drained.siu = s.siu ∧ s.drained.csm = s.csm ∧ s.drained.rot = s.rot ∧ s.drained.port = s.port ∧ s.drained.sched = s.sched ∧ s.drained.nrstLow = s.nrstLow ∧ s.drained.pending = s.pending := by
  simp only [State.drained]
  repeat' split
  all_goals simp

@[simp] theorem State.drainCheck_keeps (s : State)  :
    s.drainCheck.scu = s.scu ∧ s.drainCheck.reader = s.reader ∧ s.drainCheck.passSeq = s.passSeq ∧ s.drainCheck.fqSeq = s.fqSeq ∧ s.drainCheck.maps = s.maps ∧ s.drainCheck.staging = s.staging ∧ s.drainCheck.siu = s.siu ∧ s.drainCheck.csm = s.csm ∧ s.drainCheck.rot = s.rot ∧ s.drainCheck.port = s.port ∧ s.drainCheck.sched = s.sched ∧ s.drainCheck.nrstLow = s.nrstLow ∧ s.drainCheck.pending = s.pending := by
  simp only [State.drainCheck]
  repeat' split
  all_goals simp

@[simp] theorem State.shiftWaits_keeps (s : State) (d : DevTime) :
    (s.shiftWaits d).mem = s.mem ∧ (s.shiftWaits d).scu = s.scu ∧ (s.shiftWaits d).reader = s.reader ∧ (s.shiftWaits d).passes = s.passes ∧ (s.shiftWaits d).passSeq = s.passSeq ∧ (s.shiftWaits d).fqSeq = s.fqSeq ∧ (s.shiftWaits d).slots = s.slots ∧ (s.shiftWaits d).chans = s.chans ∧ (s.shiftWaits d).maps = s.maps ∧ (s.shiftWaits d).staging = s.staging ∧ (s.shiftWaits d).siu = s.siu ∧ (s.shiftWaits d).csm = s.csm ∧ (s.shiftWaits d).rot = s.rot ∧ (s.shiftWaits d).perf = s.perf ∧ (s.shiftWaits d).regs = s.regs ∧ (s.shiftWaits d).port = s.port ∧ (s.shiftWaits d).sched = s.sched ∧ (s.shiftWaits d).nrstLow = s.nrstLow ∧ (s.shiftWaits d).pending = s.pending := by
  simp only [State.shiftWaits]
  repeat' split
  all_goals simp

@[simp] theorem State.takeResume_keeps (s : State)  :
    s.takeResume.reader = s.reader ∧ s.takeResume.passSeq = s.passSeq ∧ s.takeResume.fqSeq = s.fqSeq ∧ s.takeResume.maps = s.maps ∧ s.takeResume.staging = s.staging ∧ s.takeResume.siu = s.siu ∧ s.takeResume.csm = s.csm ∧ s.takeResume.rot = s.rot ∧ s.takeResume.port = s.port ∧ s.takeResume.sched = s.sched ∧ s.takeResume.nrstLow = s.nrstLow ∧ s.takeResume.pending = s.pending := by
  simp only [State.takeResume]
  repeat' split
  all_goals simp

@[simp] theorem State.stopAgenda_keeps (s : State)  :
    s.stopAgenda.reader = s.reader ∧ s.stopAgenda.passSeq = s.passSeq ∧ s.stopAgenda.fq = s.fq ∧ s.stopAgenda.fqSeq = s.fqSeq ∧ s.stopAgenda.slots = s.slots ∧ s.stopAgenda.chans = s.chans ∧ s.stopAgenda.maps = s.maps ∧ s.stopAgenda.staging = s.staging ∧ s.stopAgenda.siu = s.siu ∧ s.stopAgenda.csm = s.csm ∧ s.stopAgenda.rot = s.rot ∧ s.stopAgenda.perf = s.perf ∧ s.stopAgenda.regs = s.regs ∧ s.stopAgenda.port = s.port ∧ s.stopAgenda.sched = s.sched ∧ s.stopAgenda.nrstLow = s.nrstLow ∧ s.stopAgenda.pending = s.pending := by
  simp only [State.stopAgenda]
  repeat' split
  all_goals simp

@[simp] theorem State.stopState_keeps (s : State)  :
    s.stopState.mem = s.mem ∧ s.stopState.scu = s.scu ∧ s.stopState.reader = s.reader ∧ s.stopState.passes = s.passes ∧ s.stopState.passSeq = s.passSeq ∧ s.stopState.fq = s.fq ∧ s.stopState.fqSeq = s.fqSeq ∧ s.stopState.slots = s.slots ∧ s.stopState.chans = s.chans ∧ s.stopState.maps = s.maps ∧ s.stopState.staging = s.staging ∧ s.stopState.siu = s.siu ∧ s.stopState.csm = s.csm ∧ s.stopState.rot = s.rot ∧ s.stopState.regs = s.regs ∧ s.stopState.port = s.port ∧ s.stopState.sched = s.sched ∧ s.stopState.nrstLow = s.nrstLow ∧ s.stopState.pending = s.pending := by
  simp only [State.stopState]
  repeat' split
  all_goals simp

@[simp] theorem State.stopPlaying_keeps (s : State)  :
    s.stopPlaying.passSeq = s.passSeq ∧ s.stopPlaying.fqSeq = s.fqSeq ∧ s.stopPlaying.maps = s.maps ∧ s.stopPlaying.staging = s.staging ∧ s.stopPlaying.siu = s.siu ∧ s.stopPlaying.csm = s.csm ∧ s.stopPlaying.port = s.port ∧ s.stopPlaying.sched = s.sched ∧ s.stopPlaying.nrstLow = s.nrstLow ∧ s.stopPlaying.pending = s.pending := by
  simp only [State.stopPlaying]
  repeat' split
  all_goals simp

@[simp] theorem State.dropLoading_keeps (s : State) (c : EndCause) :
    (s.dropLoading c).mem = s.mem ∧ (s.dropLoading c).scu = s.scu ∧ (s.dropLoading c).reader = s.reader ∧ (s.dropLoading c).passes = s.passes ∧ (s.dropLoading c).passSeq = s.passSeq ∧ (s.dropLoading c).fq = s.fq ∧ (s.dropLoading c).fqSeq = s.fqSeq ∧ (s.dropLoading c).slots = s.slots ∧ (s.dropLoading c).chans = s.chans ∧ (s.dropLoading c).maps = s.maps ∧ (s.dropLoading c).staging = s.staging ∧ (s.dropLoading c).siu = s.siu ∧ (s.dropLoading c).csm = s.csm ∧ (s.dropLoading c).rot = s.rot ∧ (s.dropLoading c).regs = s.regs ∧ (s.dropLoading c).port = s.port ∧ (s.dropLoading c).sched = s.sched ∧ (s.dropLoading c).nrstLow = s.nrstLow ∧ (s.dropLoading c).pending = s.pending := by
  simp only [State.dropLoading]
  repeat' split
  all_goals simp

@[simp] theorem State.takeStop_keeps (s : State)  :
    s.takeStop.passSeq = s.passSeq ∧ s.takeStop.fqSeq = s.fqSeq ∧ s.takeStop.maps = s.maps ∧ s.takeStop.staging = s.staging ∧ s.takeStop.siu = s.siu ∧ s.takeStop.csm = s.csm ∧ s.takeStop.port = s.port ∧ s.takeStop.sched = s.sched ∧ s.takeStop.nrstLow = s.nrstLow ∧ s.takeStop.pending = s.pending := by
  simp only [State.takeStop]
  repeat' split
  all_goals simp

@[simp] theorem State.clearFaulted_keeps (s : State) (n : Byte) :
    (s.clearFaulted n).scu = s.scu ∧ (s.clearFaulted n).reader = s.reader ∧ (s.clearFaulted n).passSeq = s.passSeq ∧ (s.clearFaulted n).fqSeq = s.fqSeq ∧ (s.clearFaulted n).maps = s.maps ∧ (s.clearFaulted n).staging = s.staging ∧ (s.clearFaulted n).siu = s.siu ∧ (s.clearFaulted n).csm = s.csm ∧ (s.clearFaulted n).rot = s.rot ∧ (s.clearFaulted n).perf = s.perf ∧ (s.clearFaulted n).regs = s.regs ∧ (s.clearFaulted n).port = s.port ∧ (s.clearFaulted n).sched = s.sched ∧ (s.clearFaulted n).nrstLow = s.nrstLow ∧ (s.clearFaulted n).pending = s.pending := by
  simp only [State.clearFaulted]
  repeat' split
  all_goals simp

@[simp] theorem State.setLock_keeps (s : State)  :
    s.setLock.mem = s.mem ∧ s.setLock.scu = s.scu ∧ s.setLock.reader = s.reader ∧ s.setLock.passes = s.passes ∧ s.setLock.passSeq = s.passSeq ∧ s.setLock.fq = s.fq ∧ s.setLock.fqSeq = s.fqSeq ∧ s.setLock.slots = s.slots ∧ s.setLock.chans = s.chans ∧ s.setLock.maps = s.maps ∧ s.setLock.staging = s.staging ∧ s.setLock.siu = s.siu ∧ s.setLock.csm = s.csm ∧ s.setLock.rot = s.rot ∧ s.setLock.regs = s.regs ∧ s.setLock.port = s.port ∧ s.setLock.sched = s.sched ∧ s.setLock.nrstLow = s.nrstLow ∧ s.setLock.pending = s.pending := by
  simp only [State.setLock]
  repeat' split
  all_goals simp

@[simp] theorem State.loadingFails_keeps (s : State) (e : ConfigError) :
    (s.loadingFails e).scu = s.scu ∧ (s.loadingFails e).reader = s.reader ∧ (s.loadingFails e).passes = s.passes ∧ (s.loadingFails e).passSeq = s.passSeq ∧ (s.loadingFails e).fq = s.fq ∧ (s.loadingFails e).fqSeq = s.fqSeq ∧ (s.loadingFails e).slots = s.slots ∧ (s.loadingFails e).chans = s.chans ∧ (s.loadingFails e).maps = s.maps ∧ (s.loadingFails e).staging = s.staging ∧ (s.loadingFails e).siu = s.siu ∧ (s.loadingFails e).csm = s.csm ∧ (s.loadingFails e).rot = s.rot ∧ (s.loadingFails e).port = s.port ∧ (s.loadingFails e).sched = s.sched ∧ (s.loadingFails e).nrstLow = s.nrstLow ∧ (s.loadingFails e).pending = s.pending := by
  simp only [State.loadingFails]
  repeat' split
  all_goals simp

@[simp] theorem State.loadLine_keeps (s : State)  :
    s.loadLine.mem = s.mem ∧ s.loadLine.scu = s.scu ∧ s.loadLine.reader = s.reader ∧ s.loadLine.passes = s.passes ∧ s.loadLine.passSeq = s.passSeq ∧ s.loadLine.fq = s.fq ∧ s.loadLine.fqSeq = s.fqSeq ∧ s.loadLine.slots = s.slots ∧ s.loadLine.chans = s.chans ∧ s.loadLine.maps = s.maps ∧ s.loadLine.siu = s.siu ∧ s.loadLine.csm = s.csm ∧ s.loadLine.rot = s.rot ∧ s.loadLine.regs = s.regs ∧ s.loadLine.port = s.port ∧ s.loadLine.sched = s.sched ∧ s.loadLine.nrstLow = s.nrstLow ∧ s.loadLine.pending = s.pending := by
  simp only [State.loadLine]
  repeat' split
  all_goals simp

@[simp] theorem State.stageLast_keeps (s : State)  :
    s.stageLast.mem = s.mem ∧ s.stageLast.scu = s.scu ∧ s.stageLast.reader = s.reader ∧ s.stageLast.passes = s.passes ∧ s.stageLast.passSeq = s.passSeq ∧ s.stageLast.fq = s.fq ∧ s.stageLast.fqSeq = s.fqSeq ∧ s.stageLast.slots = s.slots ∧ s.stageLast.chans = s.chans ∧ s.stageLast.maps = s.maps ∧ s.stageLast.siu = s.siu ∧ s.stageLast.csm = s.csm ∧ s.stageLast.rot = s.rot ∧ s.stageLast.perf = s.perf ∧ s.stageLast.regs = s.regs ∧ s.stageLast.port = s.port ∧ s.stageLast.sched = s.sched ∧ s.stageLast.nrstLow = s.nrstLow ∧ s.stageLast.pending = s.pending := by
  refine ⟨?_, ?_, ?_, ?_, ?_, ?_, ?_, ?_, ?_, ?_, ?_, ?_, ?_, ?_, ?_, ?_, ?_, ?_, ?_⟩
  · exact fold_keep State.mem (by intro s n; dsimp only; split <;> simp) rfl
  · exact fold_keep State.scu (by intro s n; dsimp only; split <;> simp) rfl
  · exact fold_keep State.reader (by intro s n; dsimp only; split <;> simp) rfl
  · exact fold_keep State.passes (by intro s n; dsimp only; split <;> simp) rfl
  · exact fold_keep State.passSeq (by intro s n; dsimp only; split <;> simp) rfl
  · exact fold_keep State.fq (by intro s n; dsimp only; split <;> simp) rfl
  · exact fold_keep State.fqSeq (by intro s n; dsimp only; split <;> simp) rfl
  · exact fold_keep State.slots (by intro s n; dsimp only; split <;> simp) rfl
  · exact fold_keep State.chans (by intro s n; dsimp only; split <;> simp) rfl
  · exact fold_keep State.maps (by intro s n; dsimp only; split <;> simp) rfl
  · exact fold_keep State.siu (by intro s n; dsimp only; split <;> simp) rfl
  · exact fold_keep State.csm (by intro s n; dsimp only; split <;> simp) rfl
  · exact fold_keep State.rot (by intro s n; dsimp only; split <;> simp) rfl
  · exact fold_keep State.perf (by intro s n; dsimp only; split <;> simp) rfl
  · exact fold_keep State.regs (by intro s n; dsimp only; split <;> simp) rfl
  · exact fold_keep State.port (by intro s n; dsimp only; split <;> simp) rfl
  · exact fold_keep State.sched (by intro s n; dsimp only; split <;> simp) rfl
  · exact fold_keep State.nrstLow (by intro s n; dsimp only; split <;> simp) rfl
  · exact fold_keep State.pending (by intro s n; dsimp only; split <;> simp) rfl

@[simp] theorem State.latchConfig_keeps (s : State)  :
    s.latchConfig.mem = s.mem ∧ s.latchConfig.scu = s.scu ∧ s.latchConfig.reader = s.reader ∧ s.latchConfig.passes = s.passes ∧ s.latchConfig.passSeq = s.passSeq ∧ s.latchConfig.fq = s.fq ∧ s.latchConfig.fqSeq = s.fqSeq ∧ s.latchConfig.slots = s.slots ∧ s.latchConfig.chans = s.chans ∧ s.latchConfig.staging = s.staging ∧ s.latchConfig.siu = s.siu ∧ s.latchConfig.csm = s.csm ∧ s.latchConfig.rot = s.rot ∧ s.latchConfig.regs = s.regs ∧ s.latchConfig.port = s.port ∧ s.latchConfig.sched = s.sched ∧ s.latchConfig.nrstLow = s.nrstLow ∧ s.latchConfig.pending = s.pending := by
  simp only [State.latchConfig]
  repeat' split
  all_goals simp

@[simp] theorem State.placeChannels_keeps (s : State)  :
    s.placeChannels.mem = s.mem ∧ s.placeChannels.scu = s.scu ∧ s.placeChannels.reader = s.reader ∧ s.placeChannels.passes = s.passes ∧ s.placeChannels.passSeq = s.passSeq ∧ s.placeChannels.fq = s.fq ∧ s.placeChannels.fqSeq = s.fqSeq ∧ s.placeChannels.slots = s.slots ∧ s.placeChannels.maps = s.maps ∧ s.placeChannels.staging = s.staging ∧ s.placeChannels.siu = s.siu ∧ s.placeChannels.csm = s.csm ∧ s.placeChannels.rot = s.rot ∧ s.placeChannels.perf = s.perf ∧ s.placeChannels.port = s.port ∧ s.placeChannels.sched = s.sched ∧ s.placeChannels.nrstLow = s.nrstLow ∧ s.placeChannels.pending = s.pending := by
  simp only [State.placeChannels]
  repeat' split
  all_goals simp

@[simp] theorem State.startScore_keeps (s : State)  :
    s.startScore.mem = s.mem ∧ s.startScore.reader = s.reader ∧ s.startScore.passes = s.passes ∧ s.startScore.passSeq = s.passSeq ∧ s.startScore.fq = s.fq ∧ s.startScore.fqSeq = s.fqSeq ∧ s.startScore.slots = s.slots ∧ s.startScore.chans = s.chans ∧ s.startScore.maps = s.maps ∧ s.startScore.staging = s.staging ∧ s.startScore.siu = s.siu ∧ s.startScore.csm = s.csm ∧ s.startScore.perf = s.perf ∧ s.startScore.regs = s.regs ∧ s.startScore.port = s.port ∧ s.startScore.sched = s.sched ∧ s.startScore.nrstLow = s.nrstLow ∧ s.startScore.pending = s.pending := by
  simp only [State.startScore]
  repeat' split
  all_goals simp

@[simp] theorem State.startReader_keeps (s : State) (b : Addr) :
    (s.startReader b).scu = s.scu ∧ (s.startReader b).fq = s.fq ∧ (s.startReader b).fqSeq = s.fqSeq ∧ (s.startReader b).slots = s.slots ∧ (s.startReader b).chans = s.chans ∧ (s.startReader b).maps = s.maps ∧ (s.startReader b).staging = s.staging ∧ (s.startReader b).siu = s.siu ∧ (s.startReader b).csm = s.csm ∧ (s.startReader b).rot = s.rot ∧ (s.startReader b).port = s.port ∧ (s.startReader b).sched = s.sched ∧ (s.startReader b).nrstLow = s.nrstLow ∧ (s.startReader b).pending = s.pending := by
  simp only [State.startReader]
  repeat' split
  all_goals simp

@[simp] theorem State.loadingSucceeds_keeps (s : State)  :
    s.loadingSucceeds.fq = s.fq ∧ s.loadingSucceeds.fqSeq = s.fqSeq ∧ s.loadingSucceeds.slots = s.slots ∧ s.loadingSucceeds.staging = s.staging ∧ s.loadingSucceeds.siu = s.siu ∧ s.loadingSucceeds.csm = s.csm ∧ s.loadingSucceeds.port = s.port ∧ s.loadingSucceeds.sched = s.sched ∧ s.loadingSucceeds.nrstLow = s.nrstLow ∧ s.loadingSucceeds.pending = s.pending := by
  simp only [State.loadingSucceeds]
  repeat' split
  all_goals simp

@[simp] theorem State.loadingCompletes_keeps (s : State)  :
    s.loadingCompletes.fq = s.fq ∧ s.loadingCompletes.fqSeq = s.fqSeq ∧ s.loadingCompletes.slots = s.slots ∧ s.loadingCompletes.siu = s.siu ∧ s.loadingCompletes.csm = s.csm ∧ s.loadingCompletes.port = s.port ∧ s.loadingCompletes.sched = s.sched ∧ s.loadingCompletes.nrstLow = s.nrstLow ∧ s.loadingCompletes.pending = s.pending := by
  simp only [State.loadingCompletes]
  repeat' split
  all_goals simp

@[simp] theorem State.quietChannel_keeps (s : State) (n : ChanId) :
    (State.quietChannel n s).scu = s.scu ∧ (State.quietChannel n s).reader = s.reader ∧ (State.quietChannel n s).passSeq = s.passSeq ∧ (State.quietChannel n s).fqSeq = s.fqSeq ∧ (State.quietChannel n s).maps = s.maps ∧ (State.quietChannel n s).staging = s.staging ∧ (State.quietChannel n s).siu = s.siu ∧ (State.quietChannel n s).csm = s.csm ∧ (State.quietChannel n s).rot = s.rot ∧ (State.quietChannel n s).perf = s.perf ∧ (State.quietChannel n s).regs = s.regs ∧ (State.quietChannel n s).port = s.port ∧ (State.quietChannel n s).sched = s.sched ∧ (State.quietChannel n s).nrstLow = s.nrstLow ∧ (State.quietChannel n s).pending = s.pending := by
  simp only [State.quietChannel]
  repeat' split
  all_goals simp

@[simp] theorem State.quietBlocks_keeps (s : State)  :
    s.quietBlocks.passSeq = s.passSeq ∧ s.quietBlocks.fqSeq = s.fqSeq ∧ s.quietBlocks.maps = s.maps ∧ s.quietBlocks.staging = s.staging ∧ s.quietBlocks.siu = s.siu ∧ s.quietBlocks.csm = s.csm ∧ s.quietBlocks.perf = s.perf ∧ s.quietBlocks.port = s.port ∧ s.quietBlocks.sched = s.sched ∧ s.quietBlocks.nrstLow = s.nrstLow ∧ s.quietBlocks.pending = s.pending := by
  refine ⟨?_, ?_, ?_, ?_, ?_, ?_, ?_, ?_, ?_, ?_, ?_⟩
  · simp only [State.quietBlocks, State.rotorQuiet_keeps]; exact fold_keep State.passSeq (by simp) (by simp)
  · simp only [State.quietBlocks, State.rotorQuiet_keeps]; exact fold_keep State.fqSeq (by simp) (by simp)
  · simp only [State.quietBlocks, State.rotorQuiet_keeps]; exact fold_keep State.maps (by simp) (by simp)
  · simp only [State.quietBlocks, State.rotorQuiet_keeps]; exact fold_keep State.staging (by simp) (by simp)
  · simp only [State.quietBlocks, State.rotorQuiet_keeps]; exact fold_keep State.siu (by simp) (by simp)
  · simp only [State.quietBlocks, State.rotorQuiet_keeps]; exact fold_keep State.csm (by simp) (by simp)
  · simp only [State.quietBlocks, State.rotorQuiet_keeps]; exact fold_keep State.perf (by simp) (by simp)
  · simp only [State.quietBlocks, State.rotorQuiet_keeps]; exact fold_keep State.port (by simp) (by simp)
  · simp only [State.quietBlocks, State.rotorQuiet_keeps]; exact fold_keep State.sched (by simp) (by simp)
  · simp only [State.quietBlocks, State.rotorQuiet_keeps]; exact fold_keep State.nrstLow (by simp) (by simp)
  · simp only [State.quietBlocks, State.rotorQuiet_keeps]; exact fold_keep State.pending (by simp) (by simp)

@[simp] theorem State.enterFrozen_keeps (s : State) (c : EndCause) :
    (s.enterFrozen c).mem = s.mem ∧ (s.enterFrozen c).scu = s.scu ∧ (s.enterFrozen c).reader = s.reader ∧ (s.enterFrozen c).passes = s.passes ∧ (s.enterFrozen c).passSeq = s.passSeq ∧ (s.enterFrozen c).fq = s.fq ∧ (s.enterFrozen c).fqSeq = s.fqSeq ∧ (s.enterFrozen c).slots = s.slots ∧ (s.enterFrozen c).chans = s.chans ∧ (s.enterFrozen c).maps = s.maps ∧ (s.enterFrozen c).staging = s.staging ∧ (s.enterFrozen c).siu = s.siu ∧ (s.enterFrozen c).csm = s.csm ∧ (s.enterFrozen c).rot = s.rot ∧ (s.enterFrozen c).port = s.port ∧ (s.enterFrozen c).sched = s.sched ∧ (s.enterFrozen c).nrstLow = s.nrstLow ∧ (s.enterFrozen c).pending = s.pending := by
  simp only [State.enterFrozen]
  repeat' split
  all_goals simp

@[simp] theorem State.freezeResting_keeps (s : State) (c : EndCause) :
    (s.freezeResting c).scu = s.scu ∧ (s.freezeResting c).reader = s.reader ∧ (s.freezeResting c).passes = s.passes ∧ (s.freezeResting c).passSeq = s.passSeq ∧ (s.freezeResting c).fq = s.fq ∧ (s.freezeResting c).fqSeq = s.fqSeq ∧ (s.freezeResting c).slots = s.slots ∧ (s.freezeResting c).chans = s.chans ∧ (s.freezeResting c).maps = s.maps ∧ (s.freezeResting c).staging = s.staging ∧ (s.freezeResting c).siu = s.siu ∧ (s.freezeResting c).csm = s.csm ∧ (s.freezeResting c).port = s.port ∧ (s.freezeResting c).sched = s.sched ∧ (s.freezeResting c).nrstLow = s.nrstLow ∧ (s.freezeResting c).pending = s.pending := by
  simp only [State.freezeResting]
  repeat' split
  all_goals simp

@[simp] theorem State.freeze_keeps (s : State) (c : EndCause) :
    (s.freeze c).passSeq = s.passSeq ∧ (s.freeze c).fqSeq = s.fqSeq ∧ (s.freeze c).maps = s.maps ∧ (s.freeze c).staging = s.staging ∧ (s.freeze c).siu = s.siu ∧ (s.freeze c).csm = s.csm ∧ (s.freeze c).port = s.port ∧ (s.freeze c).sched = s.sched ∧ (s.freeze c).nrstLow = s.nrstLow ∧ (s.freeze c).pending = s.pending := by
  simp only [State.freeze]
  repeat' split
  all_goals simp

/-! ### Sense lines and the port -/

@[simp] theorem State.setFilter_keeps (s : State) (l : InLine) (f : Filter) :
    (s.setFilter l f).mem = s.mem ∧ (s.setFilter l f).scu = s.scu ∧ (s.setFilter l f).reader = s.reader ∧ (s.setFilter l f).passes = s.passes ∧ (s.setFilter l f).passSeq = s.passSeq ∧ (s.setFilter l f).fq = s.fq ∧ (s.setFilter l f).fqSeq = s.fqSeq ∧ (s.setFilter l f).slots = s.slots ∧ (s.setFilter l f).chans = s.chans ∧ (s.setFilter l f).maps = s.maps ∧ (s.setFilter l f).staging = s.staging ∧ (s.setFilter l f).csm = s.csm ∧ (s.setFilter l f).rot = s.rot ∧ (s.setFilter l f).perf = s.perf ∧ (s.setFilter l f).regs = s.regs ∧ (s.setFilter l f).port = s.port ∧ (s.setFilter l f).sched = s.sched ∧ (s.setFilter l f).nrstLow = s.nrstLow ∧ (s.setFilter l f).pending = s.pending := by
  simp only [State.setFilter]
  repeat' split
  all_goals simp

@[simp] theorem State.settleLine_keeps (s : State) (l : InLine) :
    (s.settleLine l).mem = s.mem ∧ (s.settleLine l).scu = s.scu ∧ (s.settleLine l).reader = s.reader ∧ (s.settleLine l).passes = s.passes ∧ (s.settleLine l).passSeq = s.passSeq ∧ (s.settleLine l).fq = s.fq ∧ (s.settleLine l).fqSeq = s.fqSeq ∧ (s.settleLine l).slots = s.slots ∧ (s.settleLine l).chans = s.chans ∧ (s.settleLine l).maps = s.maps ∧ (s.settleLine l).staging = s.staging ∧ (s.settleLine l).csm = s.csm ∧ (s.settleLine l).rot = s.rot ∧ (s.settleLine l).perf = s.perf ∧ (s.settleLine l).regs = s.regs ∧ (s.settleLine l).port = s.port ∧ (s.settleLine l).sched = s.sched ∧ (s.settleLine l).nrstLow = s.nrstLow ∧ (s.settleLine l).pending = s.pending := by
  simp only [State.settleLine]
  repeat' split
  all_goals simp

@[simp] theorem State.abandon_keeps (s : State) (l : InLine) :
    (s.abandon l).mem = s.mem ∧ (s.abandon l).scu = s.scu ∧ (s.abandon l).reader = s.reader ∧ (s.abandon l).passes = s.passes ∧ (s.abandon l).passSeq = s.passSeq ∧ (s.abandon l).fq = s.fq ∧ (s.abandon l).fqSeq = s.fqSeq ∧ (s.abandon l).slots = s.slots ∧ (s.abandon l).chans = s.chans ∧ (s.abandon l).maps = s.maps ∧ (s.abandon l).staging = s.staging ∧ (s.abandon l).csm = s.csm ∧ (s.abandon l).rot = s.rot ∧ (s.abandon l).perf = s.perf ∧ (s.abandon l).regs = s.regs ∧ (s.abandon l).port = s.port ∧ (s.abandon l).sched = s.sched ∧ (s.abandon l).nrstLow = s.nrstLow ∧ (s.abandon l).pending = s.pending := by
  simp only [State.abandon]
  repeat' split
  all_goals simp

@[simp] theorem State.sampleStops_keeps (s : State) (a b : Bool) :
    (s.sampleStops a b).mem = s.mem ∧ (s.sampleStops a b).scu = s.scu ∧ (s.sampleStops a b).reader = s.reader ∧ (s.sampleStops a b).passes = s.passes ∧ (s.sampleStops a b).passSeq = s.passSeq ∧ (s.sampleStops a b).fq = s.fq ∧ (s.sampleStops a b).fqSeq = s.fqSeq ∧ (s.sampleStops a b).slots = s.slots ∧ (s.sampleStops a b).chans = s.chans ∧ (s.sampleStops a b).maps = s.maps ∧ (s.sampleStops a b).staging = s.staging ∧ (s.sampleStops a b).csm = s.csm ∧ (s.sampleStops a b).rot = s.rot ∧ (s.sampleStops a b).perf = s.perf ∧ (s.sampleStops a b).regs = s.regs ∧ (s.sampleStops a b).port = s.port ∧ (s.sampleStops a b).sched = s.sched ∧ (s.sampleStops a b).nrstLow = s.nrstLow ∧ (s.sampleStops a b).pending = s.pending := by
  simp only [State.sampleStops]
  repeat' split
  all_goals simp

@[simp] theorem State.takeQuiet_keeps (s : State)  :
    s.takeQuiet.passSeq = s.passSeq ∧ s.takeQuiet.fqSeq = s.fqSeq ∧ s.takeQuiet.maps = s.maps ∧ s.takeQuiet.staging = s.staging ∧ s.takeQuiet.csm = s.csm ∧ s.takeQuiet.port = s.port ∧ s.takeQuiet.sched = s.sched ∧ s.takeQuiet.nrstLow = s.nrstLow ∧ s.takeQuiet.pending = s.pending := by
  simp only [State.takeQuiet]
  repeat' split
  all_goals simp

@[simp] theorem State.takeDflt_keeps (s : State)  :
    s.takeDflt.passSeq = s.passSeq ∧ s.takeDflt.fqSeq = s.fqSeq ∧ s.takeDflt.maps = s.maps ∧ s.takeDflt.staging = s.staging ∧ s.takeDflt.csm = s.csm ∧ s.takeDflt.port = s.port ∧ s.takeDflt.sched = s.sched ∧ s.takeDflt.nrstLow = s.nrstLow ∧ s.takeDflt.pending = s.pending := by
  simp only [State.takeDflt]
  repeat' split
  all_goals simp

@[simp] theorem State.shiftWrite_keeps (s : State) (h n : Nat) :
    (s.shiftWrite h n).mem = s.mem ∧ (s.shiftWrite h n).scu = s.scu ∧ (s.shiftWrite h n).reader = s.reader ∧ (s.shiftWrite h n).passes = s.passes ∧ (s.shiftWrite h n).passSeq = s.passSeq ∧ (s.shiftWrite h n).fq = s.fq ∧ (s.shiftWrite h n).fqSeq = s.fqSeq ∧ (s.shiftWrite h n).slots = s.slots ∧ (s.shiftWrite h n).chans = s.chans ∧ (s.shiftWrite h n).maps = s.maps ∧ (s.shiftWrite h n).staging = s.staging ∧ (s.shiftWrite h n).siu = s.siu ∧ (s.shiftWrite h n).csm = s.csm ∧ (s.shiftWrite h n).rot = s.rot ∧ (s.shiftWrite h n).perf = s.perf ∧ (s.shiftWrite h n).regs = s.regs ∧ (s.shiftWrite h n).sched = s.sched ∧ (s.shiftWrite h n).nrstLow = s.nrstLow ∧ (s.shiftWrite h n).pending = s.pending := by
  simp only [State.shiftWrite]
  repeat' split
  all_goals simp

@[simp] theorem State.shiftRead_keeps (s : State) (h : Nat) (d : List Byte) :
    (s.shiftRead h d).mem = s.mem ∧ (s.shiftRead h d).scu = s.scu ∧ (s.shiftRead h d).reader = s.reader ∧ (s.shiftRead h d).passes = s.passes ∧ (s.shiftRead h d).passSeq = s.passSeq ∧ (s.shiftRead h d).fq = s.fq ∧ (s.shiftRead h d).fqSeq = s.fqSeq ∧ (s.shiftRead h d).slots = s.slots ∧ (s.shiftRead h d).chans = s.chans ∧ (s.shiftRead h d).maps = s.maps ∧ (s.shiftRead h d).staging = s.staging ∧ (s.shiftRead h d).siu = s.siu ∧ (s.shiftRead h d).csm = s.csm ∧ (s.shiftRead h d).rot = s.rot ∧ (s.shiftRead h d).perf = s.perf ∧ (s.shiftRead h d).regs = s.regs ∧ (s.shiftRead h d).sched = s.sched ∧ (s.shiftRead h d).nrstLow = s.nrstLow ∧ (s.shiftRead h d).pending = s.pending := by
  simp only [State.shiftRead]
  repeat' split
  all_goals simp

@[simp] theorem State.shiftGroup_keeps (s : State) (r : BitVec 2) :
    (s.shiftGroup r).mem = s.mem ∧ (s.shiftGroup r).scu = s.scu ∧ (s.shiftGroup r).reader = s.reader ∧ (s.shiftGroup r).passes = s.passes ∧ (s.shiftGroup r).passSeq = s.passSeq ∧ (s.shiftGroup r).fq = s.fq ∧ (s.shiftGroup r).fqSeq = s.fqSeq ∧ (s.shiftGroup r).slots = s.slots ∧ (s.shiftGroup r).chans = s.chans ∧ (s.shiftGroup r).maps = s.maps ∧ (s.shiftGroup r).staging = s.staging ∧ (s.shiftGroup r).siu = s.siu ∧ (s.shiftGroup r).csm = s.csm ∧ (s.shiftGroup r).rot = s.rot ∧ (s.shiftGroup r).perf = s.perf ∧ (s.shiftGroup r).regs = s.regs ∧ (s.shiftGroup r).sched = s.sched ∧ (s.shiftGroup r).nrstLow = s.nrstLow ∧ (s.shiftGroup r).pending = s.pending := by
  simp only [State.shiftGroup]
  repeat' split
  all_goals simp

@[simp] theorem State.cutGroup_keeps (s : State) (n : Nat) :
    (s.cutGroup n).mem = s.mem ∧ (s.cutGroup n).scu = s.scu ∧ (s.cutGroup n).reader = s.reader ∧ (s.cutGroup n).passes = s.passes ∧ (s.cutGroup n).passSeq = s.passSeq ∧ (s.cutGroup n).fq = s.fq ∧ (s.cutGroup n).fqSeq = s.fqSeq ∧ (s.cutGroup n).slots = s.slots ∧ (s.cutGroup n).chans = s.chans ∧ (s.cutGroup n).maps = s.maps ∧ (s.cutGroup n).staging = s.staging ∧ (s.cutGroup n).siu = s.siu ∧ (s.cutGroup n).csm = s.csm ∧ (s.cutGroup n).rot = s.rot ∧ (s.cutGroup n).perf = s.perf ∧ (s.cutGroup n).regs = s.regs ∧ (s.cutGroup n).sched = s.sched ∧ (s.cutGroup n).nrstLow = s.nrstLow ∧ (s.cutGroup n).pending = s.pending := by
  simp only [State.cutGroup]
  repeat' split
  all_goals simp

@[simp] theorem State.initStatusArea_keeps (s : State)  :
    s.initStatusArea.scu = s.scu ∧ s.initStatusArea.reader = s.reader ∧ s.initStatusArea.passes = s.passes ∧ s.initStatusArea.passSeq = s.passSeq ∧ s.initStatusArea.fq = s.fq ∧ s.initStatusArea.fqSeq = s.fqSeq ∧ s.initStatusArea.slots = s.slots ∧ s.initStatusArea.chans = s.chans ∧ s.initStatusArea.maps = s.maps ∧ s.initStatusArea.staging = s.staging ∧ s.initStatusArea.siu = s.siu ∧ s.initStatusArea.csm = s.csm ∧ s.initStatusArea.rot = s.rot ∧ s.initStatusArea.perf = s.perf ∧ s.initStatusArea.regs = s.regs ∧ s.initStatusArea.port = s.port ∧ s.initStatusArea.sched = s.sched ∧ s.initStatusArea.nrstLow = s.nrstLow ∧ s.initStatusArea.pending = s.pending := by
  simp only [State.initStatusArea]
  repeat' split
  all_goals simp

end Sys2Proof.Machine
end

