-- ==== Sys2Proof/Laws/Memory.lean ====
section
/-! SUPPORT. Cue memory: reading after writing, and that every memory operation keeps the canonical form. -/
namespace Sys2Proof.Machine
open Sys2Proof

/-! ### The canonical form -/

theorem Memory.wfFrom_mono {lo hi : Nat} (h : lo ≤ hi) {m : Memory} (w : Memory.wfFrom hi m = true) :
    Memory.wfFrom lo m = true := by
  cases m with
  | nil => rfl
  | cons c r =>
    simp only [Memory.wfFrom, Bool.and_eq_true, decide_eq_true_eq] at w ⊢
    exact ⟨⟨⟨Nat.le_trans h w.1.1.1, w.1.1.2⟩, w.1.2⟩, w.2⟩

theorem Memory.wfFrom_write {lo a : Nat} {m : Memory} (v : Byte) (hlo : lo ≤ a) (ha : a < 0x10000)
    (w : Memory.wfFrom lo m = true) : Memory.wfFrom lo (Memory.write m a v) = true := by
  induction m generalizing lo with
  | nil =>
    simp only [Memory.write]
    split
    · rfl
    · simp_all [Memory.wfFrom]
  | cons c r ih =>
    obtain ⟨k, x⟩ := c
    have w0 := w
    simp only [Memory.wfFrom, Bool.and_eq_true, decide_eq_true_eq] at w
    obtain ⟨⟨⟨h1, h2⟩, h3⟩, h4⟩ := w
    simp only [Memory.write]
    split
    · rename_i hak
      split
      · exact w0
      · simp_all [Memory.wfFrom, Nat.succ_le_iff]
    · split
      · subst_vars
        split
        · exact Memory.wfFrom_mono (by omega) h4
        · simp_all [Memory.wfFrom]
      · simp only [Memory.wfFrom, Bool.and_eq_true, decide_eq_true_eq]
        exact ⟨⟨⟨h1, h2⟩, h3⟩, ih (by omega) h4⟩

/-- A write inside the 64 KiB keeps the canonical form. -/
theorem Memory.wf_write {a : Nat} {m : Memory} (v : Byte) (ha : a < 0x10000) (w : Memory.wf m = true) :
    Memory.wf (Memory.write m a v) = true := Memory.wfFrom_write v (Nat.zero_le a) ha w

@[simp] theorem Memory.wf_writeBytes {m : Memory} (a : Nat) (bs : List Byte) (w : Memory.wf m = true) :
    Memory.wf (Memory.writeBytes m a bs) = true := by
  induction bs generalizing a m with
  | nil => exact w
  | cons b bs ih =>
    simp only [Memory.writeBytes]
    split
    · exact ih _ (Memory.wf_write b ‹_› w)
    · exact ih _ w

@[simp] theorem wf_commitByte {m : Memory} (a : Nat) (v : Byte) (ha : a < 0x10000) (w : Memory.wf m = true) :
    Memory.wf (commitByte m a v) = true := by
  simp only [commitByte, freeFaultRecord]
  repeat' split
  · exact Memory.wf_write _ (by omega) (Memory.wf_write _ (by omega) w)
  · exact w
  · exact w
  · exact Memory.wf_write _ ha w

/-- The commits of a MEM_WRITE keep the canonical form. -/
@[simp] theorem wf_commitBytes {m : Memory} (a : Addr) (bs : List Byte) (w : Memory.wf m = true) :
    Memory.wf (commitBytes m a bs) = true := by
  induction bs generalizing a m with
  | nil => exact w
  | cons b bs ih => exact ih _ (wf_commitByte _ _ a.isLt w)

/-- The part's own line writes keep the canonical form. -/
@[simp] theorem State.wf_poke (s : State) (a : Nat) (bs : List Byte) (w : Memory.wf s.mem = true) :
    Memory.wf (s.poke a bs).mem = true := Memory.wf_writeBytes a bs w

/-- The memory after a power-on reset has it. -/
theorem Memory.wf_atPowerOn : Memory.wf Memory.atPowerOn = true := by decide

/-! ### Reading after writing -/

theorem Memory.read_below {lo a : Nat} {m : Memory} (w : Memory.wfFrom lo m = true) (h : a < lo) :
    Memory.read m a = 0 := by
  induction m generalizing lo with
  | nil => rfl
  | cons c r ih =>
    obtain ⟨k, x⟩ := c
    simp only [Memory.wfFrom, Bool.and_eq_true, decide_eq_true_eq] at w
    simp only [Memory.read]
    rw [if_neg (by omega)]
    exact ih w.2 (by omega)

/-- A read elsewhere gives what it gave before, whatever the form of the memory. -/
theorem Memory.read_write_ne {a b : Nat} (m : Memory) (v : Byte) (h : a ≠ b) :
    Memory.read (Memory.write m a v) b = Memory.read m b := by
  induction m with
  | nil =>
    simp only [Memory.write]
    split
    · rfl
    · simp [Memory.read, h]
  | cons c r ih =>
    obtain ⟨k, x⟩ := c
    simp only [Memory.write]
    split
    · split
      · rfl
      · simp [Memory.read, h]
    · split
      · subst_vars
        split
        · simp [Memory.read, h]
        · simp [Memory.read, h]
      · simp only [Memory.read, ih]

theorem Memory.read_wfFrom_write {lo a : Nat} {m : Memory} (v : Byte) (w : Memory.wfFrom lo m = true) :
    Memory.read (Memory.write m a v) a = v := by
  induction m generalizing lo with
  | nil =>
    simp only [Memory.write]
    split
    · simp_all [Memory.read]
    · simp [Memory.read]
  | cons c r ih =>
    obtain ⟨k, x⟩ := c
    have w0 := w
    simp only [Memory.wfFrom, Bool.and_eq_true, decide_eq_true_eq] at w
    simp only [Memory.write]
    split
    · rename_i hak
      split
      · subst_vars
        simp only [Memory.read]
        rw [if_neg (by omega)]
        exact Memory.read_below w.2 (by omega)
      · simp [Memory.read]
    · split
      · subst_vars
        split
        · subst_vars
          exact Memory.read_below w.2 (by omega)
        · simp [Memory.read]
      · simp only [Memory.read]
        rw [if_neg (by omega)]
        exact ih w.2

/-- A read of a byte just written gives it. -/
theorem Memory.read_write_same {a : Nat} {m : Memory} (v : Byte) (w : Memory.wf m = true) :
    Memory.read (Memory.write m a v) a = v := Memory.read_wfFrom_write v w

/-- Writing bytes from `a` leaves every byte outside them. -/
theorem Memory.read_writeBytes_ne {a b : Nat} (m : Memory) (bs : List Byte) (h : b < a ∨ a + bs.length ≤ b) :
    Memory.read (Memory.writeBytes m a bs) b = Memory.read m b := by
  induction bs generalizing a m with
  | nil => rfl
  | cons v vs ih =>
    simp only [Memory.writeBytes, List.length_cons] at h ⊢
    rw [ih _ (by omega)]
    split
    · exact Memory.read_write_ne m v (by omega)
    · rfl

/-- Writing bytes from `a` leaves them there. -/
theorem Memory.read_writeBytes_same {a i : Nat} {m : Memory} (bs : List Byte) (hi : i < bs.length)
    (hb : a + bs.length ≤ 0x10000) (w : Memory.wf m = true) :
    Memory.read (Memory.writeBytes m a bs) (a + i) = bs[i] := by
  induction bs generalizing a m i with
  | nil => simp at hi
  | cons v vs ih =>
    simp only [Memory.writeBytes, List.length_cons] at hi hb ⊢
    rw [if_pos (by omega)]
    cases i with
    | zero =>
      rw [Memory.read_writeBytes_ne _ _ (by omega)]
      simpa using Memory.read_write_same v w
    | succ i =>
      have := ih (a := a + 1) (m := Memory.write m a v) (i := i) (by omega) (by omega)
        (Memory.wf_write v (by omega) w)
      rw [show a + (i + 1) = a + 1 + i by omega, this]
      simp

/-! ### Where the operations write -/

@[simp] theorem leBytes_length (n v : Nat) : (leBytes n v).length = n := by
  induction n generalizing v with
  | zero => rfl
  | succ n ih => simp [leBytes, ih]

@[simp] theorem State.lineA_length (s : State) : s.lineA.length = 16 := rfl
@[simp] theorem State.lineB_length (s : State) : s.lineB.length = 16 := by simp [State.lineB]
@[simp] theorem State.lineC_length (s : State) : s.lineC.length = 16 := by simp [State.lineC]
@[simp] theorem Channel.report_length (c : Channel) : c.report.length = 8 := by
  simp [Channel.report, leSigned16]

/-- A line write of the part leaves every byte outside it. -/
theorem State.read_poke_ne (s : State) {a b : Nat} (bs : List Byte) (h : b < a ∨ a + bs.length ≤ b) :
    Memory.read (s.poke a bs).mem b = Memory.read s.mem b := Memory.read_writeBytes_ne _ bs h



theorem State.read_writeReport (s : State) (k : Fin 32) {a : Nat} (h : ¬published a) :
    Memory.read (s.writeReport k).mem a = Memory.read s.mem a := by
  have hk := k.isLt
  refine s.read_poke_ne _ ?_
  simp only [List.length_append, Channel.report_length]
  unfold published at h
  omega

theorem State.read_refreshReport (b s : State) (k : Fin 32) {a : Nat} (h : ¬published a) :
    Memory.read (State.refreshReport b s k).mem a = Memory.read s.mem a := by
  simp only [State.refreshReport]
  split
  · rfl
  · exact s.read_writeReport k h

theorem State.read_writeLineA (s : State) {a : Nat} (h : ¬published a) :
    Memory.read s.writeLineA.mem a = Memory.read s.mem a := by
  refine s.read_poke_ne _ ?_
  rw [State.lineA_length]
  unfold published at h
  omega

theorem State.read_writeLineC (s : State) {a : Nat} (h : ¬published a) :
    Memory.read s.writeLineC.mem a = Memory.read s.mem a := by
  refine s.read_poke_ne _ ?_
  rw [State.lineC_length]
  unfold published at h
  omega

/-- Publication writes nothing outside the bytes it publishes. -/
theorem read_publish (b s : State) {a : Nat} (h : ¬published a) :
    Memory.read (publish b s).mem a = Memory.read s.mem a := by
  unfold publish
  refine fold_keep (fun t => Memory.read t.mem a) (fun t k => State.read_refreshReport b t k h) ?_
  repeat' split
  all_goals simp only [State.read_writeLineA, State.read_writeLineC, h, not_false_eq_true]

end Sys2Proof.Machine
end

