-- ==== Sys2Proof/Laws/Parts.lean ====
section
/-! SUPPORT. What each operation leaves of a block it changes: the clocks, the configuration latch and lock, and the registers
apart from ATTN_FLAGS. -/
set_option maxRecDepth 2000
namespace Sys2Proof.Machine
open Sys2Proof

/-! ### Device time -/

@[simp] theorem State.setPeriod_dt (s : State) (p : Nat) :
    (s.setPeriod p).scu.dt = s.scu.dt := by
  simp only [State.setPeriod]
  repeat' split
  all_goals simp

@[simp] theorem State.tempoAtBoundary_dt (s : State) (x : Tick) (e : AgendaEntry) (p n : Nat) :
    (s.tempoAtBoundary x e p n).scu.dt = s.scu.dt := by
  simp only [State.tempoAtBoundary]
  repeat' split
  all_goals simp

@[simp] theorem State.holdAt_dt (s : State) (b : Int) (u : Nat) :
    (s.holdAt b u).scu.dt = s.scu.dt := by
  simp only [State.holdAt]
  repeat' split
  all_goals simp

@[simp] theorem State.beginTick_dt (s : State) (x : Tick) (b : Int) :
    (s.beginTick x b).scu.dt = s.scu.dt := by
  simp only [State.beginTick]
  repeat' split
  all_goals simp

@[simp] theorem State.agendaAt_dt (s : State) (x : Tick) (b : Int) (l : List AgendaEntry) :
    (s.agendaAt x b l).scu.dt = s.scu.dt := by
  induction l generalizing s with
  | nil => simp [State.agendaAt]
  | cons e es ih =>
    simp only [State.agendaAt]
    repeat' split
    all_goals simp [ih]

@[simp] theorem State.boundaryAt_dt (s : State) (b : Int) :
    (s.boundaryAt b).scu.dt = s.scu.dt := by
  simp only [State.boundaryAt]
  repeat' split
  all_goals simp

@[simp] theorem State.boundary_dt (s : State)  :
    s.boundary.scu.dt = s.scu.dt := by
  simp only [State.boundary]
  repeat' split
  all_goals simp

@[simp] theorem State.syncoOff_dt (s : State)  :
    s.syncoOff.scu.dt = s.scu.dt := by
  simp only [State.syncoOff]
  repeat' split
  all_goals simp

@[simp] theorem State.agendaEnds_dt (s : State) (o : CueOutcome) :
    (s.agendaEnds o).scu.dt = s.scu.dt := by
  simp only [State.agendaEnds]
  repeat' split
  all_goals first | (simp; done) | skip
  all_goals exact fold_keep (fun t => t.scu.dt) (by simp) (by simp)

@[simp] theorem State.regulate_dt (s : State) (t : Int) :
    (s.regulate t).scu.dt = s.scu.dt := by
  simp only [State.regulate]
  repeat' split
  all_goals simp

@[simp] theorem State.recordPulse_dt (s : State) (t : Int) :
    (s.recordPulse t).scu.dt = s.scu.dt := by
  simp only [State.recordPulse]
  repeat' split
  all_goals simp

@[simp] theorem State.restartLoss_dt (s : State)  :
    s.restartLoss.scu.dt = s.scu.dt := by
  simp only [State.restartLoss]
  repeat' split
  all_goals simp

@[simp] theorem State.countIn_dt (s : State) (t : Int) :
    (s.countIn t).scu.dt = s.scu.dt := by
  simp only [State.countIn]
  repeat' split
  all_goals simp

@[simp] theorem State.takePulse_dt (s : State) (t : Int) :
    (s.takePulse t).scu.dt = s.scu.dt := by
  simp only [State.takePulse]
  repeat' split
  all_goals simp

@[simp] theorem State.syncEdge_dt (s : State) (d : DevTime) :
    (s.syncEdge d).scu.dt = s.scu.dt := by
  simp only [State.syncEdge]
  repeat' split
  all_goals simp

@[simp] theorem State.syncLost_dt (s : State)  :
    s.syncLost.scu.dt = s.scu.dt := by
  simp only [State.syncLost]
  repeat' split
  all_goals simp

@[simp] theorem State.agendaJoin_dt (s : State) (b : AgendaBody) :
    (s.agendaJoin b).scu.dt = s.scu.dt := by
  simp only [State.agendaJoin]
  repeat' split
  all_goals simp

@[simp] theorem State.placeAsk_dt (s : State) (a : Ask) (o : Int) :
    (s.placeAsk a o).scu.dt = s.scu.dt := by
  unfold State.placeAsk
  split
  all_goals simp

@[simp] theorem State.roomAndAdmit_dt (s : State) (a : Ask) (o : Int) :
    (s.roomAndAdmit a o).scu.dt = s.scu.dt := by
  simp only [State.roomAndAdmit]
  repeat' split
  all_goals simp

@[simp] theorem State.takeOn_dt (s : State) (c : Cue) (o : Int) :
    (s.takeOn c o).scu.dt = s.scu.dt := by
  simp only [State.takeOn]
  repeat' split
  all_goals simp

@[simp] theorem State.passHorizon_dt (s : State)  :
    s.passHorizon.scu.dt = s.scu.dt := by
  simp only [State.passHorizon]
  repeat' split
  all_goals simp

@[simp] theorem State.releaseStall_dt (s : State)  :
    s.releaseStall.scu.dt = s.scu.dt := by
  simp only [State.releaseStall]
  repeat' split
  all_goals simp

@[simp] theorem State.releaseHoldpoint_dt (s : State) (e : AgendaEntry) (x : ReleaseSource) (d : Nat) :
    (s.releaseHoldpoint e x d).scu.dt = s.scu.dt := by
  simp only [State.releaseHoldpoint]
  repeat' split
  all_goals simp

@[simp] theorem State.releaseHeld_dt (s : State) (x : ReleaseSource) :
    (s.releaseHeld x).scu.dt = s.scu.dt := by
  simp only [State.releaseHeld]
  repeat' split
  all_goals simp

@[simp] theorem State.cueEdge_dt (s : State)  :
    s.cueEdge.scu.dt = s.scu.dt := by
  simp only [State.cueEdge]
  repeat' split
  all_goals simp

@[simp] theorem State.takeResume_dt (s : State)  :
    s.takeResume.scu.dt = s.scu.dt := by
  simp only [State.takeResume]
  repeat' split
  all_goals simp

@[simp] theorem State.stopAgenda_dt (s : State)  :
    s.stopAgenda.scu.dt = s.scu.dt := by
  simp only [State.stopAgenda]
  repeat' split
  all_goals simp

@[simp] theorem State.stopPlaying_dt (s : State)  :
    s.stopPlaying.scu.dt = s.scu.dt := by
  simp only [State.stopPlaying]
  repeat' split
  all_goals simp

@[simp] theorem State.takeStop_dt (s : State)  :
    s.takeStop.scu.dt = s.scu.dt := by
  simp only [State.takeStop]
  repeat' split
  all_goals simp

@[simp] theorem State.startScore_dt (s : State)  :
    s.startScore.scu.dt = s.scu.dt := by
  simp only [State.startScore]
  repeat' split
  all_goals simp

@[simp] theorem State.loadingSucceeds_dt (s : State)  :
    s.loadingSucceeds.scu.dt = s.scu.dt := by
  simp only [State.loadingSucceeds]
  repeat' split
  all_goals simp

@[simp] theorem State.loadingCompletes_dt (s : State)  :
    s.loadingCompletes.scu.dt = s.scu.dt := by
  simp only [State.loadingCompletes]
  repeat' split
  all_goals simp

@[simp] theorem State.quietBlocks_dt (s : State)  :
    s.quietBlocks.scu.dt = s.scu.dt := by
  simp only [State.quietBlocks, State.rotorQuiet_keeps]
  exact fold_keep (fun t => t.scu.dt) (by simp) (by simp)

@[simp] theorem State.freeze_dt (s : State) (c : EndCause) :
    (s.freeze c).scu.dt = s.scu.dt := by
  simp only [State.freeze]
  repeat' split
  all_goals simp

@[simp] theorem State.takeQuiet_dt (s : State)  :
    s.takeQuiet.scu.dt = s.scu.dt := by
  simp only [State.takeQuiet]
  repeat' split
  all_goals simp

@[simp] theorem State.takeDflt_dt (s : State)  :
    s.takeDflt.scu.dt = s.scu.dt := by
  simp only [State.takeDflt]
  repeat' split
  all_goals simp

/-! ### Performance time -/

@[simp] theorem State.setPeriod_pt (s : State) (p : Nat) :
    (s.setPeriod p).scu.pt = s.scu.pt := by
  simp only [State.setPeriod]
  repeat' split
  all_goals simp

@[simp] theorem State.tempoAtBoundary_pt (s : State) (x : Tick) (e : AgendaEntry) (p n : Nat) :
    (s.tempoAtBoundary x e p n).scu.pt = s.scu.pt := by
  simp only [State.tempoAtBoundary]
  repeat' split
  all_goals simp

@[simp] theorem State.holdAt_pt (s : State) (b : Int) (u : Nat) :
    (s.holdAt b u).scu.pt = s.scu.pt := by
  simp only [State.holdAt]
  repeat' split
  all_goals simp

@[simp] theorem State.beginTick_pt (s : State) (x : Tick) (b : Int) :
    (s.beginTick x b).scu.pt = s.scu.pt := by
  simp only [State.beginTick]
  repeat' split
  all_goals simp

@[simp] theorem State.agendaAt_pt (s : State) (x : Tick) (b : Int) (l : List AgendaEntry) :
    (s.agendaAt x b l).scu.pt = s.scu.pt := by
  induction l generalizing s with
  | nil => simp [State.agendaAt]
  | cons e es ih =>
    simp only [State.agendaAt]
    repeat' split
    all_goals simp [ih]

@[simp] theorem State.boundaryAt_pt (s : State) (b : Int) :
    (s.boundaryAt b).scu.pt = s.scu.pt := by
  simp only [State.boundaryAt]
  repeat' split
  all_goals simp

@[simp] theorem State.boundary_pt (s : State)  :
    s.boundary.scu.pt = s.scu.pt := by
  simp only [State.boundary]
  repeat' split
  all_goals simp

@[simp] theorem State.syncoOff_pt (s : State)  :
    s.syncoOff.scu.pt = s.scu.pt := by
  simp only [State.syncoOff]
  repeat' split
  all_goals simp

@[simp] theorem State.agendaEnds_pt (s : State) (o : CueOutcome) :
    (s.agendaEnds o).scu.pt = s.scu.pt := by
  simp only [State.agendaEnds]
  repeat' split
  all_goals first | (simp; done) | skip
  all_goals exact fold_keep (fun t => t.scu.pt) (by simp) (by simp)

@[simp] theorem State.regulate_pt (s : State) (t : Int) :
    (s.regulate t).scu.pt = s.scu.pt := by
  simp only [State.regulate]
  repeat' split
  all_goals simp

@[simp] theorem State.recordPulse_pt (s : State) (t : Int) :
    (s.recordPulse t).scu.pt = s.scu.pt := by
  simp only [State.recordPulse]
  repeat' split
  all_goals simp

@[simp] theorem State.restartLoss_pt (s : State)  :
    s.restartLoss.scu.pt = s.scu.pt := by
  simp only [State.restartLoss]
  repeat' split
  all_goals simp

@[simp] theorem State.countIn_pt (s : State) (t : Int) :
    (s.countIn t).scu.pt = s.scu.pt := by
  simp only [State.countIn]
  repeat' split
  all_goals simp

@[simp] theorem State.takePulse_pt (s : State) (t : Int) :
    (s.takePulse t).scu.pt = s.scu.pt := by
  simp only [State.takePulse]
  repeat' split
  all_goals simp

@[simp] theorem State.syncEdge_pt (s : State) (d : DevTime) :
    (s.syncEdge d).scu.pt = s.scu.pt := by
  simp only [State.syncEdge]
  repeat' split
  all_goals simp

@[simp] theorem State.syncLost_pt (s : State)  :
    s.syncLost.scu.pt = s.scu.pt := by
  simp only [State.syncLost]
  repeat' split
  all_goals simp

@[simp] theorem State.agendaJoin_pt (s : State) (b : AgendaBody) :
    (s.agendaJoin b).scu.pt = s.scu.pt := by
  simp only [State.agendaJoin]
  repeat' split
  all_goals simp

@[simp] theorem State.placeAsk_pt (s : State) (a : Ask) (o : Int) :
    (s.placeAsk a o).scu.pt = s.scu.pt := by
  unfold State.placeAsk
  split
  all_goals simp

@[simp] theorem State.roomAndAdmit_pt (s : State) (a : Ask) (o : Int) :
    (s.roomAndAdmit a o).scu.pt = s.scu.pt := by
  simp only [State.roomAndAdmit]
  repeat' split
  all_goals simp

@[simp] theorem State.takeOn_pt (s : State) (c : Cue) (o : Int) :
    (s.takeOn c o).scu.pt = s.scu.pt := by
  simp only [State.takeOn]
  repeat' split
  all_goals simp

@[simp] theorem State.passHorizon_pt (s : State)  :
    s.passHorizon.scu.pt = s.scu.pt := by
  simp only [State.passHorizon]
  repeat' split
  all_goals simp

@[simp] theorem State.releaseStall_pt (s : State)  :
    s.releaseStall.scu.pt = s.scu.pt := by
  simp only [State.releaseStall]
  repeat' split
  all_goals simp

@[simp] theorem State.releaseHoldpoint_pt (s : State) (e : AgendaEntry) (x : ReleaseSource) (d : Nat) :
    (s.releaseHoldpoint e x d).scu.pt = s.scu.pt := by
  simp only [State.releaseHoldpoint]
  repeat' split
  all_goals simp

@[simp] theorem State.releaseHeld_pt (s : State) (x : ReleaseSource) :
    (s.releaseHeld x).scu.pt = s.scu.pt := by
  simp only [State.releaseHeld]
  repeat' split
  all_goals simp

@[simp] theorem State.cueEdge_pt (s : State)  :
    s.cueEdge.scu.pt = s.scu.pt := by
  simp only [State.cueEdge]
  repeat' split
  all_goals simp

@[simp] theorem State.takeResume_pt (s : State)  :
    s.takeResume.scu.pt = s.scu.pt := by
  simp only [State.takeResume]
  repeat' split
  all_goals simp

@[simp] theorem State.stopAgenda_pt (s : State)  :
    s.stopAgenda.scu.pt = s.scu.pt := by
  simp only [State.stopAgenda]
  repeat' split
  all_goals simp

@[simp] theorem State.stopPlaying_pt (s : State)  :
    s.stopPlaying.scu.pt = s.scu.pt := by
  simp only [State.stopPlaying]
  repeat' split
  all_goals simp

@[simp] theorem State.takeStop_pt (s : State)  :
    s.takeStop.scu.pt = s.scu.pt := by
  simp only [State.takeStop]
  repeat' split
  all_goals simp

@[simp] theorem State.quietBlocks_pt (s : State)  :
    s.quietBlocks.scu.pt = s.scu.pt := by
  simp only [State.quietBlocks, State.rotorQuiet_keeps]
  exact fold_keep (fun t => t.scu.pt) (by simp) (by simp)

@[simp] theorem State.freeze_pt (s : State) (c : EndCause) :
    (s.freeze c).scu.pt = s.scu.pt := by
  simp only [State.freeze]
  repeat' split
  all_goals simp

@[simp] theorem State.takeQuiet_pt (s : State)  :
    s.takeQuiet.scu.pt = s.scu.pt := by
  simp only [State.takeQuiet]
  repeat' split
  all_goals simp

@[simp] theorem State.takeDflt_pt (s : State)  :
    s.takeDflt.scu.pt = s.scu.pt := by
  simp only [State.takeDflt]
  repeat' split
  all_goals simp

/-! ### The latch -/

@[simp] theorem State.enterEnded_latch (s : State)  :
    s.enterEnded.perf.latch = s.perf.latch := by
  simp only [State.enterEnded]
  repeat' split
  all_goals simp

@[simp] theorem State.enterDraining_latch (s : State) (c : EndCause) :
    (s.enterDraining c).perf.latch = s.perf.latch := by
  simp only [State.enterDraining]
  repeat' split
  all_goals simp

@[simp] theorem State.holdAt_latch (s : State) (b : Int) (u : Nat) :
    (s.holdAt b u).perf.latch = s.perf.latch := by
  simp only [State.holdAt]
  repeat' split
  all_goals simp

@[simp] theorem State.agendaAt_latch (s : State) (x : Tick) (b : Int) (l : List AgendaEntry) :
    (s.agendaAt x b l).perf.latch = s.perf.latch := by
  induction l generalizing s with
  | nil => simp [State.agendaAt]
  | cons e es ih =>
    simp only [State.agendaAt]
    repeat' split
    all_goals simp [ih]

@[simp] theorem State.boundaryAt_latch (s : State) (b : Int) :
    (s.boundaryAt b).perf.latch = s.perf.latch := by
  simp only [State.boundaryAt]
  repeat' split
  all_goals simp

@[simp] theorem State.boundary_latch (s : State)  :
    s.boundary.perf.latch = s.perf.latch := by
  simp only [State.boundary]
  repeat' split
  all_goals simp

@[simp] theorem State.chainFault_latch (s : State) (d : FaultDetail) (b : Addr) (i k : Nat) :
    (s.chainFault d b i k).perf.latch = s.perf.latch := by
  simp only [State.chainFault]
  repeat' split
  all_goals simp

@[simp] theorem State.takeEnd_latch (s : State)  :
    s.takeEnd.perf.latch = s.perf.latch := by
  simp only [State.takeEnd]
  repeat' split
  all_goals simp

@[simp] theorem State.readSlot_latch (s : State) (k : Nat) :
    (s.readSlot k).perf.latch = s.perf.latch := by
  simp only [State.readSlot]
  repeat' split
  all_goals simp

@[simp] theorem State.entryFault_latch (s : State) (a : Addr) (h : Entry) (d : FaultDetail) :
    (s.entryFault a h d).perf.latch = s.perf.latch := by
  simp only [State.entryFault]
  repeat' split
  all_goals simp

@[simp] theorem State.enterBlock_latch (s : State) (a : Addr) (h : Entry) (k : Nat) :
    (s.enterBlock a h k).perf.latch = s.perf.latch := by
  induction k generalizing s a h with
  | zero => simp [State.enterBlock]
  | succ k ih =>
    simp only [State.enterBlock]
    repeat' split
    all_goals simp [ih]

@[simp] theorem State.readLink_latch (s : State)  :
    s.readLink.perf.latch = s.perf.latch := by
  simp only [State.readLink]
  repeat' split
  all_goals simp

@[simp] theorem State.readNext_latch (s : State)  :
    s.readNext.perf.latch = s.perf.latch := by
  simp only [State.readNext]
  repeat' split
  all_goals simp

@[simp] theorem State.pollLink_latch (s : State)  :
    s.pollLink.perf.latch = s.perf.latch := by
  simp only [State.pollLink]
  repeat' split
  all_goals simp

@[simp] theorem State.takeRepeat_latch (s : State) (a : Addr) (c : Nat) :
    (s.takeRepeat a c).perf.latch = s.perf.latch := by
  simp only [State.takeRepeat]
  repeat' split
  all_goals simp

@[simp] theorem State.placeAsk_latch (s : State) (a : Ask) (o : Int) :
    (s.placeAsk a o).perf.latch = s.perf.latch := by
  unfold State.placeAsk
  split
  all_goals simp

@[simp] theorem State.roomAndAdmit_latch (s : State) (a : Ask) (o : Int) :
    (s.roomAndAdmit a o).perf.latch = s.perf.latch := by
  simp only [State.roomAndAdmit]
  repeat' split
  all_goals simp

@[simp] theorem State.takeOn_latch (s : State) (c : Cue) (o : Int) :
    (s.takeOn c o).perf.latch = s.perf.latch := by
  simp only [State.takeOn]
  repeat' split
  all_goals simp

@[simp] theorem State.passHorizon_latch (s : State)  :
    s.passHorizon.perf.latch = s.perf.latch := by
  simp only [State.passHorizon]
  repeat' split
  all_goals simp

@[simp] theorem State.releaseStall_latch (s : State)  :
    s.releaseStall.perf.latch = s.perf.latch := by
  simp only [State.releaseStall]
  repeat' split
  all_goals simp

@[simp] theorem State.releaseHoldpoint_latch (s : State) (e : AgendaEntry) (x : ReleaseSource) (d : Nat) :
    (s.releaseHoldpoint e x d).perf.latch = s.perf.latch := by
  simp only [State.releaseHoldpoint]
  repeat' split
  all_goals simp

@[simp] theorem State.releaseHeld_latch (s : State) (x : ReleaseSource) :
    (s.releaseHeld x).perf.latch = s.perf.latch := by
  simp only [State.releaseHeld]
  repeat' split
  all_goals simp

@[simp] theorem State.cueEdge_latch (s : State)  :
    s.cueEdge.perf.latch = s.perf.latch := by
  simp only [State.cueEdge]
  repeat' split
  all_goals simp

@[simp] theorem State.housekeeping_latch (s : State) (u : Nat) :
    (s.housekeeping u).perf.latch = s.perf.latch := by
  simp only [State.housekeeping]
  repeat' split
  all_goals simp

@[simp] theorem State.startLoading_latch (s : State)  :
    s.startLoading.perf.latch = s.perf.latch := by
  simp only [State.startLoading]
  repeat' split
  all_goals simp

@[simp] theorem State.takePause_latch (s : State)  :
    s.takePause.perf.latch = s.perf.latch := by
  simp only [State.takePause]
  repeat' split
  all_goals simp

@[simp] theorem State.drained_latch (s : State)  :
    s.drained.perf.latch = s.perf.latch := by
  simp only [State.drained]
  repeat' split
  all_goals simp

@[simp] theorem State.drainCheck_latch (s : State)  :
    s.drainCheck.perf.latch = s.perf.latch := by
  simp only [State.drainCheck]
  repeat' split
  all_goals simp

@[simp] theorem State.takeResume_latch (s : State)  :
    s.takeResume.perf.latch = s.perf.latch := by
  simp only [State.takeResume]
  repeat' split
  all_goals simp

@[simp] theorem State.stopState_latch (s : State)  :
    s.stopState.perf.latch = s.perf.latch := by
  simp only [State.stopState]
  repeat' split
  all_goals simp

@[simp] theorem State.stopPlaying_latch (s : State)  :
    s.stopPlaying.perf.latch = s.perf.latch := by
  simp only [State.stopPlaying]
  repeat' split
  all_goals simp

@[simp] theorem State.dropLoading_latch (s : State) (c : EndCause) : (s.dropLoading c).perf.latch = s.perf.latch := rfl

@[simp] theorem State.loadLine_latch (s : State) : s.loadLine.perf.latch = s.perf.latch := by
  simp only [State.loadLine]
  split
  all_goals simp

@[simp] theorem State.takeStop_latch (s : State)  :
    s.takeStop.perf.latch = s.perf.latch := by
  simp only [State.takeStop]
  repeat' split
  all_goals simp

@[simp] theorem State.setLock_latch (s : State)  :
    s.setLock.perf.latch = s.perf.latch := by
  simp only [State.setLock]
  repeat' split
  all_goals simp

@[simp] theorem State.loadingFails_latch (s : State) (e : ConfigError) :
    (s.loadingFails e).perf.latch = s.perf.latch := by
  simp only [State.loadingFails]
  repeat' split
  all_goals simp

@[simp] theorem State.startReader_latch (s : State) (b : Addr) :
    (s.startReader b).perf.latch = s.perf.latch := by
  simp only [State.startReader]
  repeat' split
  all_goals simp

@[simp] theorem State.enterFrozen_latch (s : State) (c : EndCause) :
    (s.enterFrozen c).perf.latch = s.perf.latch := by
  simp only [State.enterFrozen]
  repeat' split
  all_goals simp

@[simp] theorem State.freezeResting_latch (s : State) (c : EndCause) : (s.freezeResting c).perf.latch = s.perf.latch := by
  simp [State.freezeResting]

@[simp] theorem State.freeze_latch (s : State) (c : EndCause) :
    (s.freeze c).perf.latch = s.perf.latch := by
  simp only [State.freeze]
  repeat' split
  all_goals simp

@[simp] theorem State.takeQuiet_latch (s : State)  :
    s.takeQuiet.perf.latch = s.perf.latch := by
  simp only [State.takeQuiet]
  repeat' split
  all_goals simp

@[simp] theorem State.takeDflt_latch (s : State)  :
    s.takeDflt.perf.latch = s.perf.latch := by
  simp only [State.takeDflt]
  repeat' split
  all_goals simp

/-! ### The lock -/

@[simp] theorem State.enterEnded_lock (s : State)  :
    s.enterEnded.perf.lock = s.perf.lock := by
  simp only [State.enterEnded]
  repeat' split
  all_goals simp

@[simp] theorem State.enterDraining_lock (s : State) (c : EndCause) :
    (s.enterDraining c).perf.lock = s.perf.lock := by
  simp only [State.enterDraining]
  repeat' split
  all_goals simp

@[simp] theorem State.holdAt_lock (s : State) (b : Int) (u : Nat) :
    (s.holdAt b u).perf.lock = s.perf.lock := by
  simp only [State.holdAt]
  repeat' split
  all_goals simp

@[simp] theorem State.agendaAt_lock (s : State) (x : Tick) (b : Int) (l : List AgendaEntry) :
    (s.agendaAt x b l).perf.lock = s.perf.lock := by
  induction l generalizing s with
  | nil => simp [State.agendaAt]
  | cons e es ih =>
    simp only [State.agendaAt]
    repeat' split
    all_goals simp [ih]

@[simp] theorem State.boundaryAt_lock (s : State) (b : Int) :
    (s.boundaryAt b).perf.lock = s.perf.lock := by
  simp only [State.boundaryAt]
  repeat' split
  all_goals simp

@[simp] theorem State.boundary_lock (s : State)  :
    s.boundary.perf.lock = s.perf.lock := by
  simp only [State.boundary]
  repeat' split
  all_goals simp

@[simp] theorem State.chainFault_lock (s : State) (d : FaultDetail) (b : Addr) (i k : Nat) :
    (s.chainFault d b i k).perf.lock = s.perf.lock := by
  simp only [State.chainFault]
  repeat' split
  all_goals simp

@[simp] theorem State.takeEnd_lock (s : State)  :
    s.takeEnd.perf.lock = s.perf.lock := by
  simp only [State.takeEnd]
  repeat' split
  all_goals simp

@[simp] theorem State.readSlot_lock (s : State) (k : Nat) :
    (s.readSlot k).perf.lock = s.perf.lock := by
  simp only [State.readSlot]
  repeat' split
  all_goals simp

@[simp] theorem State.entryFault_lock (s : State) (a : Addr) (h : Entry) (d : FaultDetail) :
    (s.entryFault a h d).perf.lock = s.perf.lock := by
  simp only [State.entryFault]
  repeat' split
  all_goals simp

@[simp] theorem State.enterBlock_lock (s : State) (a : Addr) (h : Entry) (k : Nat) :
    (s.enterBlock a h k).perf.lock = s.perf.lock := by
  induction k generalizing s a h with
  | zero => simp [State.enterBlock]
  | succ k ih =>
    simp only [State.enterBlock]
    repeat' split
    all_goals simp [ih]

@[simp] theorem State.readLink_lock (s : State)  :
    s.readLink.perf.lock = s.perf.lock := by
  simp only [State.readLink]
  repeat' split
  all_goals simp

@[simp] theorem State.readNext_lock (s : State)  :
    s.readNext.perf.lock = s.perf.lock := by
  simp only [State.readNext]
  repeat' split
  all_goals simp

@[simp] theorem State.pollLink_lock (s : State)  :
    s.pollLink.perf.lock = s.perf.lock := by
  simp only [State.pollLink]
  repeat' split
  all_goals simp

@[simp] theorem State.takeRepeat_lock (s : State) (a : Addr) (c : Nat) :
    (s.takeRepeat a c).perf.lock = s.perf.lock := by
  simp only [State.takeRepeat]
  repeat' split
  all_goals simp

@[simp] theorem State.placeAsk_lock (s : State) (a : Ask) (o : Int) :
    (s.placeAsk a o).perf.lock = s.perf.lock := by
  unfold State.placeAsk
  split
  all_goals simp

@[simp] theorem State.roomAndAdmit_lock (s : State) (a : Ask) (o : Int) :
    (s.roomAndAdmit a o).perf.lock = s.perf.lock := by
  simp only [State.roomAndAdmit]
  repeat' split
  all_goals simp

@[simp] theorem State.takeOn_lock (s : State) (c : Cue) (o : Int) :
    (s.takeOn c o).perf.lock = s.perf.lock := by
  simp only [State.takeOn]
  repeat' split
  all_goals simp

@[simp] theorem State.passHorizon_lock (s : State)  :
    s.passHorizon.perf.lock = s.perf.lock := by
  simp only [State.passHorizon]
  repeat' split
  all_goals simp

@[simp] theorem State.releaseStall_lock (s : State)  :
    s.releaseStall.perf.lock = s.perf.lock := by
  simp only [State.releaseStall]
  repeat' split
  all_goals simp

@[simp] theorem State.releaseHoldpoint_lock (s : State) (e : AgendaEntry) (x : ReleaseSource) (d : Nat) :
    (s.releaseHoldpoint e x d).perf.lock = s.perf.lock := by
  simp only [State.releaseHoldpoint]
  repeat' split
  all_goals simp

@[simp] theorem State.releaseHeld_lock (s : State) (x : ReleaseSource) :
    (s.releaseHeld x).perf.lock = s.perf.lock := by
  simp only [State.releaseHeld]
  repeat' split
  all_goals simp

@[simp] theorem State.cueEdge_lock (s : State)  :
    s.cueEdge.perf.lock = s.perf.lock := by
  simp only [State.cueEdge]
  repeat' split
  all_goals simp

@[simp] theorem State.housekeeping_lock (s : State) (u : Nat) :
    (s.housekeeping u).perf.lock = s.perf.lock := by
  simp only [State.housekeeping]
  repeat' split
  all_goals simp

@[simp] theorem State.startLoading_lock (s : State)  :
    s.startLoading.perf.lock = s.perf.lock := by
  simp only [State.startLoading]
  repeat' split
  all_goals simp

@[simp] theorem State.takePause_lock (s : State)  :
    s.takePause.perf.lock = s.perf.lock := by
  simp only [State.takePause]
  repeat' split
  all_goals simp

@[simp] theorem State.drained_lock (s : State)  :
    s.drained.perf.lock = s.perf.lock := by
  simp only [State.drained]
  repeat' split
  all_goals simp

@[simp] theorem State.drainCheck_lock (s : State)  :
    s.drainCheck.perf.lock = s.perf.lock := by
  simp only [State.drainCheck]
  repeat' split
  all_goals simp

@[simp] theorem State.takeResume_lock (s : State)  :
    s.takeResume.perf.lock = s.perf.lock := by
  simp only [State.takeResume]
  repeat' split
  all_goals simp

@[simp] theorem State.stopState_lock (s : State)  :
    s.stopState.perf.lock = s.perf.lock := by
  simp only [State.stopState]
  repeat' split
  all_goals simp

@[simp] theorem State.stopPlaying_lock (s : State)  :
    s.stopPlaying.perf.lock = s.perf.lock := by
  simp only [State.stopPlaying]
  repeat' split
  all_goals simp

@[simp] theorem State.dropLoading_lock (s : State) (c : EndCause) : (s.dropLoading c).perf.lock = s.perf.lock := rfl

@[simp] theorem State.loadLine_lock (s : State) : s.loadLine.perf.lock = s.perf.lock := by
  simp only [State.loadLine]
  split
  all_goals simp

@[simp] theorem State.takeStop_lock (s : State)  :
    s.takeStop.perf.lock = s.perf.lock := by
  simp only [State.takeStop]
  repeat' split
  all_goals simp

@[simp] theorem State.loadingFails_lock (s : State) (e : ConfigError) :
    (s.loadingFails e).perf.lock = s.perf.lock := by
  simp only [State.loadingFails]
  repeat' split
  all_goals simp

@[simp] theorem State.latchConfig_lock (s : State)  :
    s.latchConfig.perf.lock = s.perf.lock := by
  simp only [State.latchConfig]
  repeat' split
  all_goals simp

@[simp] theorem State.startReader_lock (s : State) (b : Addr) :
    (s.startReader b).perf.lock = s.perf.lock := by
  simp only [State.startReader]
  repeat' split
  all_goals simp

@[simp] theorem State.loadingSucceeds_lock (s : State)  :
    s.loadingSucceeds.perf.lock = s.perf.lock := by
  simp only [State.loadingSucceeds]
  repeat' split
  all_goals simp

@[simp] theorem State.loadingCompletes_lock (s : State)  :
    s.loadingCompletes.perf.lock = s.perf.lock := by
  simp only [State.loadingCompletes]
  repeat' split
  all_goals simp

@[simp] theorem State.enterFrozen_lock (s : State) (c : EndCause) :
    (s.enterFrozen c).perf.lock = s.perf.lock := by
  simp only [State.enterFrozen]
  repeat' split
  all_goals simp

@[simp] theorem State.freezeResting_lock (s : State) (c : EndCause) : (s.freezeResting c).perf.lock = s.perf.lock := by
  simp [State.freezeResting]

@[simp] theorem State.freeze_lock (s : State) (c : EndCause) :
    (s.freeze c).perf.lock = s.perf.lock := by
  simp only [State.freeze]
  repeat' split
  all_goals simp

@[simp] theorem State.takeQuiet_lock (s : State)  :
    s.takeQuiet.perf.lock = s.perf.lock := by
  simp only [State.takeQuiet]
  repeat' split
  all_goals simp

@[simp] theorem State.takeDflt_lock (s : State)  :
    s.takeDflt.perf.lock = s.perf.lock := by
  simp only [State.takeDflt]
  repeat' split
  all_goals simp

/-! ### CONTROL and ATTN_ENABLE -/

@[simp] theorem State.setFlag_code_outcome_enable (s : State) (f : AttnFlag) :
    (s.setFlag f).regs.code = s.regs.code ∧ (s.setFlag f).regs.outcome = s.regs.outcome ∧ (s.setFlag f).regs.enable = s.regs.enable := by
  simp only [State.setFlag]
  repeat' split
  all_goals simp

@[simp] theorem State.handFault_code_outcome_enable (s : State) (f : FaultInfo) :
    (s.handFault f).regs.code = s.regs.code ∧ (s.handFault f).regs.outcome = s.regs.outcome ∧ (s.handFault f).regs.enable = s.regs.enable := by
  simp only [State.handFault]
  repeat' split
  all_goals simp

@[simp] theorem State.enterEnded_code_outcome_enable (s : State)  :
    s.enterEnded.regs.code = s.regs.code ∧ s.enterEnded.regs.outcome = s.regs.outcome ∧ s.enterEnded.regs.enable = s.regs.enable := by
  simp only [State.enterEnded]
  repeat' split
  all_goals simp

@[simp] theorem State.rotorHomeFault_code_outcome_enable (s : State)  :
    s.rotorHomeFault.regs.code = s.regs.code ∧ s.rotorHomeFault.regs.outcome = s.regs.outcome ∧ s.rotorHomeFault.regs.enable = s.regs.enable := by
  simp only [State.rotorHomeFault]
  repeat' split
  all_goals simp

@[simp] theorem State.rotorStepAt_code_outcome_enable (s : State) (d : DevTime) :
    (s.rotorStepAt d).regs.code = s.regs.code ∧ (s.rotorStepAt d).regs.outcome = s.regs.outcome ∧ (s.rotorStepAt d).regs.enable = s.regs.enable := by
  simp only [State.rotorStepAt]
  repeat' split
  all_goals simp

@[simp] theorem State.rotorSetRate_code_outcome_enable (s : State) (x : Nat) :
    (s.rotorSetRate x).regs.code = s.regs.code ∧ (s.rotorSetRate x).regs.outcome = s.regs.outcome ∧ (s.rotorSetRate x).regs.enable = s.regs.enable := by
  simp only [State.rotorSetRate]
  repeat' split
  all_goals simp

@[simp] theorem State.rotorAccelerate_code_outcome_enable (s : State)  :
    s.rotorAccelerate.regs.code = s.regs.code ∧ s.rotorAccelerate.regs.outcome = s.regs.outcome ∧ s.rotorAccelerate.regs.enable = s.regs.enable := by
  simp only [State.rotorAccelerate]
  repeat' split
  all_goals simp

@[simp] theorem State.rotorStepTaken_code_outcome_enable (s : State)  :
    s.rotorStepTaken.regs.code = s.regs.code ∧ s.rotorStepTaken.regs.outcome = s.regs.outcome ∧ s.rotorStepTaken.regs.enable = s.regs.enable := by
  simp only [State.rotorStepTaken]
  repeat' split
  all_goals simp

@[simp] theorem State.countMiss_code_outcome_enable (s : State) (n : ChanId) :
    (s.countMiss n).regs.code = s.regs.code ∧ (s.countMiss n).regs.outcome = s.regs.outcome ∧ (s.countMiss n).regs.enable = s.regs.enable := by
  simp only [State.countMiss]
  repeat' split
  all_goals simp

@[simp] theorem State.cancelEntry_code_outcome_enable (s : State) (e : FqEntry) :
    (s.cancelEntry e).regs.code = s.regs.code ∧ (s.cancelEntry e).regs.outcome = s.regs.outcome ∧ (s.cancelEntry e).regs.enable = s.regs.enable := by
  simp only [State.cancelEntry]
  repeat' split
  all_goals simp

@[simp] theorem State.cancelQueue_code_outcome_enable (s : State)  :
    s.cancelQueue.regs.code = s.regs.code ∧ s.cancelQueue.regs.outcome = s.regs.outcome ∧ s.cancelQueue.regs.enable = s.regs.enable := by
  simp only [State.cancelQueue]
  repeat' split
  all_goals first | (simp; done) | skip
  all_goals exact ⟨fold_keep (fun t => t.regs.code) (by simp) (by simp), fold_keep (fun t => t.regs.outcome) (by simp) (by simp), fold_keep (fun t => t.regs.enable) (by simp) (by simp)⟩

@[simp] theorem State.recoveryDone_code_outcome_enable (s : State) (n : ChanId) :
    (s.recoveryDone n).regs.code = s.regs.code ∧ (s.recoveryDone n).regs.outcome = s.regs.outcome ∧ (s.recoveryDone n).regs.enable = s.regs.enable := by
  simp only [State.recoveryDone]
  repeat' split
  all_goals simp

@[simp] theorem State.enterRecover_code_outcome_enable (s : State) (n : ChanId) (d : DevTime) :
    (s.enterRecover n d).regs.code = s.regs.code ∧ (s.enterRecover n d).regs.outcome = s.regs.outcome ∧ (s.enterRecover n d).regs.enable = s.regs.enable := by
  simp only [State.enterRecover]
  repeat' split
  all_goals simp

@[simp] theorem State.afterPulse_code_outcome_enable (s : State) (n : ChanId) :
    (s.afterPulse n).regs.code = s.regs.code ∧ (s.afterPulse n).regs.outcome = s.regs.outcome ∧ (s.afterPulse n).regs.enable = s.regs.enable := by
  simp only [State.afterPulse]
  repeat' split
  all_goals simp

@[simp] theorem State.pulseEnds_code_outcome_enable (s : State) (n : ChanId) :
    (s.pulseEnds n).regs.code = s.regs.code ∧ (s.pulseEnds n).regs.outcome = s.regs.outcome ∧ (s.pulseEnds n).regs.enable = s.regs.enable := by
  simp only [State.pulseEnds]
  repeat' split
  all_goals simp

@[simp] theorem State.truncatePulse_code_outcome_enable (s : State) (n : ChanId) :
    (s.truncatePulse n).regs.code = s.regs.code ∧ (s.truncatePulse n).regs.outcome = s.regs.outcome ∧ (s.truncatePulse n).regs.enable = s.regs.enable := by
  simp only [State.truncatePulse]
  repeat' split
  all_goals simp

@[simp] theorem State.hit_code_outcome_enable (s : State) (n : ChanId) (k : Stroke) (d : DevTime) :
    (s.hit n k d).regs.code = s.regs.code ∧ (s.hit n k d).regs.outcome = s.regs.outcome ∧ (s.hit n k d).regs.enable = s.regs.enable := by
  simp only [State.hit]
  repeat' split
  all_goals simp

@[simp] theorem State.contact_code_outcome_enable (s : State) (n : ChanId) (d : DevTime) :
    (s.contact n d).regs.code = s.regs.code ∧ (s.contact n d).regs.outcome = s.regs.outcome ∧ (s.contact n d).regs.enable = s.regs.enable := by
  simp only [State.contact]
  repeat' split
  all_goals simp

@[simp] theorem State.synthesise_code_outcome_enable (s : State) (n : ChanId) :
    (s.synthesise n).regs.code = s.regs.code ∧ (s.synthesise n).regs.outcome = s.regs.outcome ∧ (s.synthesise n).regs.enable = s.regs.enable := by
  simp only [State.synthesise]
  repeat' split
  all_goals simp

@[simp] theorem State.decideMiss_code_outcome_enable (s : State) (n : ChanId) (k : Stroke) :
    (s.decideMiss n k).regs.code = s.regs.code ∧ (s.decideMiss n k).regs.outcome = s.regs.outcome ∧ (s.decideMiss n k).regs.enable = s.regs.enable := by
  simp only [State.decideMiss]
  repeat' split
  all_goals simp

@[simp] theorem State.settle_code_outcome_enable (s : State) (n : ChanId) :
    (s.settle n).regs.code = s.regs.code ∧ (s.settle n).regs.outcome = s.regs.outcome ∧ (s.settle n).regs.enable = s.regs.enable := by
  simp only [State.settle]
  repeat' split
  all_goals simp

@[simp] theorem State.afterEngage_code_outcome_enable (s : State) (n : ChanId) :
    (s.afterEngage n).regs.code = s.regs.code ∧ (s.afterEngage n).regs.outcome = s.regs.outcome ∧ (s.afterEngage n).regs.enable = s.regs.enable := by
  simp only [State.afterEngage]
  repeat' split
  all_goals simp

@[simp] theorem State.engageEnds_code_outcome_enable (s : State) (n : ChanId) :
    (s.engageEnds n).regs.code = s.regs.code ∧ (s.engageEnds n).regs.outcome = s.regs.outcome ∧ (s.engageEnds n).regs.enable = s.regs.enable := by
  simp only [State.engageEnds]
  repeat' split
  all_goals simp

@[simp] theorem State.holdHeatEvent_code_outcome_enable (s : State) (n : ChanId) :
    (s.holdHeatEvent n).regs.code = s.regs.code ∧ (s.holdHeatEvent n).regs.outcome = s.regs.outcome ∧ (s.holdHeatEvent n).regs.enable = s.regs.enable := by
  simp only [State.holdHeatEvent]
  repeat' split
  all_goals simp

@[simp] theorem State.heatEvent_code_outcome_enable (s : State) (n : ChanId) :
    (s.heatEvent n).regs.code = s.regs.code ∧ (s.heatEvent n).regs.outcome = s.regs.outcome ∧ (s.heatEvent n).regs.enable = s.regs.enable := by
  simp only [State.heatEvent]
  repeat' split
  all_goals simp

@[simp] theorem State.arriveMark_code_outcome_enable (s : State) (e : FqEntry) (c : CueRef) (b : Bool) :
    (s.arriveMark e c b).regs.code = s.regs.code ∧ (s.arriveMark e c b).regs.outcome = s.regs.outcome ∧ (s.arriveMark e c b).regs.enable = s.regs.enable := by
  simp only [State.arriveMark]
  repeat' split
  all_goals simp

@[simp] theorem State.arrive_code_outcome_enable (s : State) (e : FqEntry) :
    (s.arrive e).regs.code = s.regs.code ∧ (s.arrive e).regs.outcome = s.regs.outcome ∧ (s.arrive e).regs.enable = s.regs.enable := by
  simp only [State.arrive]
  repeat' split
  all_goals simp

@[simp] theorem State.arriveTurn_code_outcome_enable (s : State) (q : Nat) :
    (s.arriveTurn q).regs.code = s.regs.code ∧ (s.arriveTurn q).regs.outcome = s.regs.outcome ∧ (s.arriveTurn q).regs.enable = s.regs.enable := by
  simp only [State.arriveTurn]
  repeat' split
  all_goals simp

@[simp] theorem State.arriveAll_code_outcome_enable (s : State)  :
    s.arriveAll.regs.code = s.regs.code ∧ s.arriveAll.regs.outcome = s.regs.outcome ∧ s.arriveAll.regs.enable = s.regs.enable := by
  simp only [State.arriveAll]
  repeat' split
  all_goals first | (simp; done) | skip
  all_goals exact ⟨fold_keep (fun t => t.regs.code) (by simp) (by simp), fold_keep (fun t => t.regs.outcome) (by simp) (by simp), fold_keep (fun t => t.regs.enable) (by simp) (by simp)⟩

@[simp] theorem State.starvedTest_code_outcome_enable (s : State)  :
    s.starvedTest.regs.code = s.regs.code ∧ s.starvedTest.regs.outcome = s.regs.outcome ∧ s.starvedTest.regs.enable = s.regs.enable := by
  simp only [State.starvedTest]
  repeat' split
  all_goals simp

@[simp] theorem State.holdAt_code_outcome_enable (s : State) (b : Int) (u : Nat) :
    (s.holdAt b u).regs.code = s.regs.code ∧ (s.holdAt b u).regs.outcome = s.regs.outcome ∧ (s.holdAt b u).regs.enable = s.regs.enable := by
  simp only [State.holdAt]
  repeat' split
  all_goals simp

@[simp] theorem State.agendaAt_code_outcome_enable (s : State) (x : Tick) (b : Int) (l : List AgendaEntry) :
    (s.agendaAt x b l).regs.code = s.regs.code ∧ (s.agendaAt x b l).regs.outcome = s.regs.outcome ∧ (s.agendaAt x b l).regs.enable = s.regs.enable := by
  induction l generalizing s with
  | nil => simp [State.agendaAt]
  | cons e es ih =>
    simp only [State.agendaAt]
    repeat' split
    all_goals simp [ih]

@[simp] theorem State.boundaryAt_code_outcome_enable (s : State) (b : Int) :
    (s.boundaryAt b).regs.code = s.regs.code ∧ (s.boundaryAt b).regs.outcome = s.regs.outcome ∧ (s.boundaryAt b).regs.enable = s.regs.enable := by
  simp only [State.boundaryAt]
  repeat' split
  all_goals simp

@[simp] theorem State.boundary_code_outcome_enable (s : State)  :
    s.boundary.regs.code = s.regs.code ∧ s.boundary.regs.outcome = s.regs.outcome ∧ s.boundary.regs.enable = s.regs.enable := by
  simp only [State.boundary]
  repeat' split
  all_goals simp

@[simp] theorem State.takePulse_code_outcome_enable (s : State) (t : Int) :
    (s.takePulse t).regs.code = s.regs.code ∧ (s.takePulse t).regs.outcome = s.regs.outcome ∧ (s.takePulse t).regs.enable = s.regs.enable := by
  simp only [State.takePulse]
  repeat' split
  all_goals simp

@[simp] theorem State.syncEdge_code_outcome_enable (s : State) (d : DevTime) :
    (s.syncEdge d).regs.code = s.regs.code ∧ (s.syncEdge d).regs.outcome = s.regs.outcome ∧ (s.syncEdge d).regs.enable = s.regs.enable := by
  simp only [State.syncEdge]
  repeat' split
  all_goals simp

@[simp] theorem State.syncLost_code_outcome_enable (s : State)  :
    s.syncLost.regs.code = s.regs.code ∧ s.syncLost.regs.outcome = s.regs.outcome ∧ s.syncLost.regs.enable = s.regs.enable := by
  simp only [State.syncLost]
  repeat' split
  all_goals simp

@[simp] theorem State.chainFault_code_outcome_enable (s : State) (d : FaultDetail) (b : Addr) (i k : Nat) :
    (s.chainFault d b i k).regs.code = s.regs.code ∧ (s.chainFault d b i k).regs.outcome = s.regs.outcome ∧ (s.chainFault d b i k).regs.enable = s.regs.enable := by
  simp only [State.chainFault]
  repeat' split
  all_goals simp

@[simp] theorem State.readSlot_code_outcome_enable (s : State) (k : Nat) :
    (s.readSlot k).regs.code = s.regs.code ∧ (s.readSlot k).regs.outcome = s.regs.outcome ∧ (s.readSlot k).regs.enable = s.regs.enable := by
  simp only [State.readSlot]
  repeat' split
  all_goals simp

@[simp] theorem State.entryFault_code_outcome_enable (s : State) (a : Addr) (h : Entry) (d : FaultDetail) :
    (s.entryFault a h d).regs.code = s.regs.code ∧ (s.entryFault a h d).regs.outcome = s.regs.outcome ∧ (s.entryFault a h d).regs.enable = s.regs.enable := by
  simp only [State.entryFault]
  repeat' split
  all_goals simp

@[simp] theorem State.enterLinkWait_code_outcome_enable (s : State)  :
    s.enterLinkWait.regs.code = s.regs.code ∧ s.enterLinkWait.regs.outcome = s.regs.outcome ∧ s.enterLinkWait.regs.enable = s.regs.enable := by
  simp only [State.enterLinkWait]
  repeat' split
  all_goals simp

@[simp] theorem State.enterBlock_code_outcome_enable (s : State) (a : Addr) (h : Entry) (k : Nat) :
    (s.enterBlock a h k).regs.code = s.regs.code ∧ (s.enterBlock a h k).regs.outcome = s.regs.outcome ∧ (s.enterBlock a h k).regs.enable = s.regs.enable := by
  induction k generalizing s a h with
  | zero => simp [State.enterBlock]
  | succ k ih =>
    simp only [State.enterBlock]
    repeat' split
    all_goals simp [ih]

@[simp] theorem State.readLink_code_outcome_enable (s : State)  :
    s.readLink.regs.code = s.regs.code ∧ s.readLink.regs.outcome = s.regs.outcome ∧ s.readLink.regs.enable = s.regs.enable := by
  simp only [State.readLink]
  repeat' split
  all_goals simp

@[simp] theorem State.readNext_code_outcome_enable (s : State)  :
    s.readNext.regs.code = s.regs.code ∧ s.readNext.regs.outcome = s.regs.outcome ∧ s.readNext.regs.enable = s.regs.enable := by
  simp only [State.readNext]
  repeat' split
  all_goals simp

@[simp] theorem State.pollLink_code_outcome_enable (s : State)  :
    s.pollLink.regs.code = s.regs.code ∧ s.pollLink.regs.outcome = s.regs.outcome ∧ s.pollLink.regs.enable = s.regs.enable := by
  simp only [State.pollLink]
  repeat' split
  all_goals simp

@[simp] theorem State.takeRepeat_code_outcome_enable (s : State) (a : Addr) (c : Nat) :
    (s.takeRepeat a c).regs.code = s.regs.code ∧ (s.takeRepeat a c).regs.outcome = s.regs.outcome ∧ (s.takeRepeat a c).regs.enable = s.regs.enable := by
  simp only [State.takeRepeat]
  repeat' split
  all_goals simp

@[simp] theorem State.placeAsk_code_outcome_enable (s : State) (a : Ask) (o : Int) :
    (s.placeAsk a o).regs.code = s.regs.code ∧ (s.placeAsk a o).regs.outcome = s.regs.outcome ∧ (s.placeAsk a o).regs.enable = s.regs.enable := by
  unfold State.placeAsk
  split
  all_goals simp

@[simp] theorem State.roomAndAdmit_code_outcome_enable (s : State) (a : Ask) (o : Int) :
    (s.roomAndAdmit a o).regs.code = s.regs.code ∧ (s.roomAndAdmit a o).regs.outcome = s.regs.outcome ∧ (s.roomAndAdmit a o).regs.enable = s.regs.enable := by
  simp only [State.roomAndAdmit]
  repeat' split
  all_goals simp

@[simp] theorem State.takeOn_code_outcome_enable (s : State) (c : Cue) (o : Int) :
    (s.takeOn c o).regs.code = s.regs.code ∧ (s.takeOn c o).regs.outcome = s.regs.outcome ∧ (s.takeOn c o).regs.enable = s.regs.enable := by
  simp only [State.takeOn]
  repeat' split
  all_goals simp

@[simp] theorem State.passHorizon_code_outcome_enable (s : State)  :
    s.passHorizon.regs.code = s.regs.code ∧ s.passHorizon.regs.outcome = s.regs.outcome ∧ s.passHorizon.regs.enable = s.regs.enable := by
  simp only [State.passHorizon]
  repeat' split
  all_goals simp

@[simp] theorem State.releaseStall_code_outcome_enable (s : State)  :
    s.releaseStall.regs.code = s.regs.code ∧ s.releaseStall.regs.outcome = s.regs.outcome ∧ s.releaseStall.regs.enable = s.regs.enable := by
  simp only [State.releaseStall]
  repeat' split
  all_goals simp

@[simp] theorem State.releaseHoldpoint_code_outcome_enable (s : State) (e : AgendaEntry) (x : ReleaseSource) (d : Nat) :
    (s.releaseHoldpoint e x d).regs.code = s.regs.code ∧ (s.releaseHoldpoint e x d).regs.outcome = s.regs.outcome ∧ (s.releaseHoldpoint e x d).regs.enable = s.regs.enable := by
  simp only [State.releaseHoldpoint]
  repeat' split
  all_goals simp

@[simp] theorem State.releaseHeld_code_outcome_enable (s : State) (x : ReleaseSource) :
    (s.releaseHeld x).regs.code = s.regs.code ∧ (s.releaseHeld x).regs.outcome = s.regs.outcome ∧ (s.releaseHeld x).regs.enable = s.regs.enable := by
  simp only [State.releaseHeld]
  repeat' split
  all_goals simp

@[simp] theorem State.cueEdge_code_outcome_enable (s : State)  :
    s.cueEdge.regs.code = s.regs.code ∧ s.cueEdge.regs.outcome = s.regs.outcome ∧ s.cueEdge.regs.enable = s.regs.enable := by
  simp only [State.cueEdge]
  repeat' split
  all_goals simp

@[simp] theorem State.takeBrown_code_outcome_enable (s : State)  :
    s.takeBrown.regs.code = s.regs.code ∧ s.takeBrown.regs.outcome = s.regs.outcome ∧ s.takeBrown.regs.enable = s.regs.enable := by
  simp only [State.takeBrown, State.forChans, State.rotorBrown_keeps]
  exact ⟨fold_keep (fun t => t.regs.code) (by simp) (fold_keep (fun t => t.regs.code) (by simp) (by simp)), fold_keep (fun t => t.regs.outcome) (by simp) (fold_keep (fun t => t.regs.outcome) (by simp) (by simp)), fold_keep (fun t => t.regs.enable) (by simp) (fold_keep (fun t => t.regs.enable) (by simp) (by simp))⟩

@[simp] theorem State.changeLevel_code_outcome_enable (s : State) (x : SupplyLevel) :
    (s.changeLevel x).regs.code = s.regs.code ∧ (s.changeLevel x).regs.outcome = s.regs.outcome ∧ (s.changeLevel x).regs.enable = s.regs.enable := by
  simp only [State.changeLevel]
  repeat' split
  all_goals simp

@[simp] theorem State.sampleSupply_code_outcome_enable (s : State) (u : Nat) :
    (s.sampleSupply u).regs.code = s.regs.code ∧ (s.sampleSupply u).regs.outcome = s.regs.outcome ∧ (s.sampleSupply u).regs.enable = s.regs.enable := by
  simp only [State.sampleSupply]
  repeat' split
  all_goals simp

@[simp] theorem State.housekeeping_code_outcome_enable (s : State) (u : Nat) :
    (s.housekeeping u).regs.code = s.regs.code ∧ (s.housekeeping u).regs.outcome = s.regs.outcome ∧ (s.housekeeping u).regs.enable = s.regs.enable := by
  simp only [State.housekeeping]
  repeat' split
  all_goals simp

@[simp] theorem State.drained_code_outcome_enable (s : State)  :
    s.drained.regs.code = s.regs.code ∧ s.drained.regs.outcome = s.regs.outcome ∧ s.drained.regs.enable = s.regs.enable := by
  simp only [State.drained]
  repeat' split
  all_goals simp

@[simp] theorem State.drainCheck_code_outcome_enable (s : State)  :
    s.drainCheck.regs.code = s.regs.code ∧ s.drainCheck.regs.outcome = s.regs.outcome ∧ s.drainCheck.regs.enable = s.regs.enable := by
  simp only [State.drainCheck]
  repeat' split
  all_goals simp

@[simp] theorem State.takeResume_code_outcome_enable (s : State)  :
    s.takeResume.regs.code = s.regs.code ∧ s.takeResume.regs.outcome = s.regs.outcome ∧ s.takeResume.regs.enable = s.regs.enable := by
  simp only [State.takeResume]
  repeat' split
  all_goals simp

@[simp] theorem State.stopPlaying_code_outcome_enable (s : State)  :
    s.stopPlaying.regs.code = s.regs.code ∧ s.stopPlaying.regs.outcome = s.regs.outcome ∧ s.stopPlaying.regs.enable = s.regs.enable := by
  simp only [State.stopPlaying]
  repeat' split
  all_goals simp

@[simp] theorem State.takeStop_code_outcome_enable (s : State)  :
    s.takeStop.regs.code = s.regs.code ∧ s.takeStop.regs.outcome = s.regs.outcome ∧ s.takeStop.regs.enable = s.regs.enable := by
  simp only [State.takeStop]
  repeat' split
  all_goals simp

@[simp] theorem State.loadingFails_code_outcome_enable (s : State) (e : ConfigError) :
    (s.loadingFails e).regs.code = s.regs.code ∧ (s.loadingFails e).regs.outcome = s.regs.outcome ∧ (s.loadingFails e).regs.enable = s.regs.enable := by
  simp only [State.loadingFails]
  repeat' split
  all_goals simp

@[simp] theorem State.placeChannels_code_outcome_enable (s : State)  :
    s.placeChannels.regs.code = s.regs.code ∧ s.placeChannels.regs.outcome = s.regs.outcome ∧ s.placeChannels.regs.enable = s.regs.enable := by
  simp only [State.placeChannels]
  repeat' split
  all_goals simp

@[simp] theorem State.startReader_code_outcome_enable (s : State) (b : Addr) :
    (s.startReader b).regs.code = s.regs.code ∧ (s.startReader b).regs.outcome = s.regs.outcome ∧ (s.startReader b).regs.enable = s.regs.enable := by
  simp only [State.startReader]
  repeat' split
  all_goals simp

@[simp] theorem State.loadingSucceeds_code_outcome_enable (s : State)  :
    s.loadingSucceeds.regs.code = s.regs.code ∧ s.loadingSucceeds.regs.outcome = s.regs.outcome ∧ s.loadingSucceeds.regs.enable = s.regs.enable := by
  simp only [State.loadingSucceeds]
  repeat' split
  all_goals simp

@[simp] theorem State.loadingCompletes_code_outcome_enable (s : State)  :
    s.loadingCompletes.regs.code = s.regs.code ∧ s.loadingCompletes.regs.outcome = s.regs.outcome ∧ s.loadingCompletes.regs.enable = s.regs.enable := by
  simp only [State.loadingCompletes]
  repeat' split
  all_goals simp

@[simp] theorem State.quietBlocks_code_outcome_enable (s : State)  :
    s.quietBlocks.regs.code = s.regs.code ∧ s.quietBlocks.regs.outcome = s.regs.outcome ∧ s.quietBlocks.regs.enable = s.regs.enable := by
  simp only [State.quietBlocks, State.rotorQuiet_keeps]
  exact ⟨fold_keep (fun t => t.regs.code) (by simp) (by simp), fold_keep (fun t => t.regs.outcome) (by simp) (by simp), fold_keep (fun t => t.regs.enable) (by simp) (by simp)⟩

@[simp] theorem State.enterFrozen_code_outcome_enable (s : State) (c : EndCause) :
    (s.enterFrozen c).regs.code = s.regs.code ∧ (s.enterFrozen c).regs.outcome = s.regs.outcome ∧ (s.enterFrozen c).regs.enable = s.regs.enable := by
  simp only [State.enterFrozen]
  repeat' split
  all_goals simp

@[simp] theorem State.freezeResting_code_outcome_enable (s : State) (c : EndCause) :
    (s.freezeResting c).regs.code = s.regs.code ∧ (s.freezeResting c).regs.outcome = s.regs.outcome ∧ (s.freezeResting c).regs.enable = s.regs.enable := by
  simp [State.freezeResting]

@[simp] theorem State.freeze_code_outcome_enable (s : State) (c : EndCause) :
    (s.freeze c).regs.code = s.regs.code ∧ (s.freeze c).regs.outcome = s.regs.outcome ∧ (s.freeze c).regs.enable = s.regs.enable := by
  simp only [State.freeze]
  repeat' split
  all_goals simp

@[simp] theorem State.takeQuiet_code_outcome_enable (s : State)  :
    s.takeQuiet.regs.code = s.regs.code ∧ s.takeQuiet.regs.outcome = s.regs.outcome ∧ s.takeQuiet.regs.enable = s.regs.enable := by
  simp only [State.takeQuiet]
  repeat' split
  all_goals simp

@[simp] theorem State.takeDflt_code_outcome_enable (s : State)  :
    s.takeDflt.regs.code = s.regs.code ∧ s.takeDflt.regs.outcome = s.regs.outcome ∧ s.takeDflt.regs.enable = s.regs.enable := by
  simp only [State.takeDflt]
  repeat' split
  all_goals simp

end Sys2Proof.Machine
end

