-- ==== Sys2Proof/Laws/PerInstr.lean ====
section
/-! SUPPORT. Well-formedness of every command, one lemma per constructor of Instr. -/
namespace Sys2Proof.Laws.WellFormed
open Sys2Proof

/-- A command is well-formed with every value of its operands, but for the a code of UNKNOWN_COMMAND,
which must be none of the nine (R142); a transaction of UNKNOWN_INSTRUCTION, which must come to no data phase: a code that is none
of the four, or too few bytes for the address, index and turnaround bytes of one of them; and the register writes that write
nothing, whose forms with an index byte limit it and its length (R170). -/
def Statement (i : Instr) : Prop :=
  match i with
  | .unknownCommand code => i.wellFormed = true ↔ (code = 0 ∨ 9 < code.toNat)
  | .unknownInstruction code len =>
    i.wellFormed = true ↔ (code = 0x52 → len < 3) ∧ (code = 0x57 → len < 2) ∧ (code = 0x72 → len < 2) ∧ (code = 0x77 → len < 1)
  | .statusWriteIgnored w =>
    i.wellFormed = true ↔
      (∀ index n, w = .noRegister index n → 3 < index.toNat) ∧
      (∀ index n, w = .cutFirst index n → index.toNat ≤ 3 ∧ n < 2) ∧
      (∀ n, w = .cutNext n → n < 2)
  | _ => i.wellFormed = true

theorem start : Statement .start := rfl
theorem pause : Statement .pause := rfl
theorem resume : Statement .resume := rfl
theorem stop : Statement .stop := rfl
theorem cont : Statement .cont := rfl
theorem clear : Statement .clear := rfl
theorem clearChannel (n : Byte) : Statement (.clearChannel n) := rfl
theorem lockConfig : Statement .lockConfig := rfl
theorem perfReset : Statement .perfReset := rfl
theorem unknownCommand (code : Byte) : Statement (.unknownCommand code) := by
  simp only [Statement, Instr.wellFormed, isCommandCode]
  rw [← BitVec.toNat_inj]
  simp
theorem attnFlagsWrite (value : BitVec 16) : Statement (.attnFlagsWrite value) := rfl
theorem attnEnableWrite (value : BitVec 16) : Statement (.attnEnableWrite value) := rfl
theorem statusWriteIgnored (w : IgnoredWrite) : Statement (.statusWriteIgnored w) := by
  cases w <;> simp [Statement, Instr.wellFormed, IgnoredWrite.wellFormed]
theorem memRead (addr : Addr) (len : Nat) : Statement (.memRead addr len) := rfl
theorem memWrite (addr : Addr) (data : List Byte) : Statement (.memWrite addr data) := rfl
theorem regRead (index : Byte) (len : Nat) : Statement (.regRead index len) := rfl
theorem unknownInstruction (code : Byte) (len : Nat) : Statement (.unknownInstruction code len) := by
  have key (v : Byte) : code = v ↔ code.toNat = v.toNat := BitVec.toNat_inj.symm
  simp only [Statement, Instr.wellFormed]
  rw [key 0x52, key 0x57, key 0x72, key 0x77]
  change _ ↔ (code.toNat = 82 → _) ∧ (code.toNat = 87 → _) ∧ (code.toNat = 114 → _) ∧ (code.toNat = 119 → _)
  unfold reachesNoData headerBytes
  generalize code.toNat = m
  split <;> rename_i h <;> split at h <;> first | (cases h; simp_all) | simp_all
theorem powerOnReset (inputs : InputLevels) : Statement (.powerOnReset inputs) := rfl
theorem pinReset (inputs : InputLevels) : Statement (.pinReset inputs) := rfl
theorem housekeepingEvent (vsense : Nat) : Statement (.housekeepingEvent vsense) := rfl
theorem heatEvent (n : ChanId) : Statement (.heatEvent n) := rfl
theorem reportEvent : Statement .reportEvent := rfl
theorem rotorRateEvent : Statement .rotorRateEvent := rfl
theorem rotorStep : Statement .rotorStep := rfl
theorem syncoPulseEnd : Statement .syncoPulseEnd := rfl
theorem tickBoundary : Statement .tickBoundary := rfl
theorem holdpointTimeout : Statement .holdpointTimeout := rfl
theorem syncLoss : Statement .syncLoss := rfl
theorem syncPulse : Statement .syncPulse := rfl
theorem cueiEdge : Statement .cueiEdge := rfl
theorem homeEdge : Statement .homeEdge := rfl
theorem contactAccepted (n : ChanId) : Statement (.contactAccepted n) := rfl
theorem synthesisedContact (n : ChanId) : Statement (.synthesisedContact n) := rfl
theorem filterQualificationAbandoned (line : InLine) : Statement (.filterQualificationAbandoned line) := rfl
theorem quietQualifierChange (stopA : Bool) (stopB : Bool) : Statement (.quietQualifierChange stopA stopB) := rfl
theorem quietRequest : Statement .quietRequest := rfl
theorem dfltAssertion : Statement .dfltAssertion := rfl
theorem dfltDeassertion : Statement .dfltDeassertion := rfl
theorem loadingComplete : Statement .loadingComplete := rfl
theorem horizonPassed : Statement .horizonPassed := rfl
theorem stallReleased : Statement .stallReleased := rfl
theorem standingReengagePlaced (n : ChanId) : Statement (.standingReengagePlaced n) := rfl
theorem fireTimeArrival : Statement .fireTimeArrival := rfl
theorem skewExpiry : Statement .skewExpiry := rfl
theorem pulseEnd (n : ChanId) : Statement (.pulseEnd n) := rfl
theorem engageEnd (n : ChanId) : Statement (.engageEnd n) := rfl
theorem windowSettle (n : ChanId) : Statement (.windowSettle n) := rfl
theorem recoveryEnd (n : ChanId) : Statement (.recoveryEnd n) := rfl
theorem drainComplete : Statement .drainComplete := rfl
theorem drainPark : Statement .drainPark := rfl
theorem nrstAssertion : Statement .nrstAssertion := rfl
theorem lineTransition (line : InLine) : Statement (.lineTransition line) := rfl
theorem returnEdgeAccepted (line : InLine) : Statement (.returnEdgeAccepted line) := rfl

end Sys2Proof.Laws.WellFormed
end

