-- ==== Sys2Proof/Laws/Step.lean ====
section
/-! SUPPORT. What the end of a step can do: publication changes cue memory alone, and writes nothing where nothing shown has
changed. -/
namespace Sys2Proof.Machine
open Sys2Proof

/-- Two states with equal fields are equal. -/
theorem State.eq_of_fields {s t : State} (h1 : s.mem = t.mem) (h2 : s.scu = t.scu) (h3 : s.reader = t.reader)
    (h4 : s.passes = t.passes) (h5 : s.passSeq = t.passSeq) (h6 : s.fq = t.fq) (h7 : s.fqSeq = t.fqSeq)
    (h8 : s.slots = t.slots) (h9 : s.chans = t.chans) (h10 : s.maps = t.maps) (h11 : s.staging = t.staging)
    (h12 : s.siu = t.siu) (h13 : s.csm = t.csm) (h14 : s.rot = t.rot) (h15 : s.perf = t.perf) (h16 : s.regs = t.regs)
    (h17 : s.port = t.port) (h18 : s.sched = t.sched) (h19 : s.nrstLow = t.nrstLow) (h20 : s.pending = t.pending) :
    s = t := by
  cases s
  cases t
  simp_all

/-- Publication changes cue memory alone. -/
theorem publish_eq (b s : State) : publish b s = { s with mem := (publish b s).mem } := by
  apply State.eq_of_fields <;> simp

/-- Report lines whose channels have not changed and which the step has not written are not written. -/
theorem State.refreshReport_same {b s : State} (h : s.chans = b.chans) (hm : s.mem = b.mem) (k : Fin 32) :
    State.refreshReport b s k = s := by
  simp [State.refreshReport, State.chan, h, hm, Channel.sameReport, sameReportLine]

/-- Where nothing shown has changed, publication writes nothing. -/
theorem publish_same {b s : State} (ha : s.lineA = b.lineA) (hc : s.lineC = b.lineC) (h : s.chans = b.chans)
    (hm : s.mem = b.mem) : publish b s = s := by
  simp only [publish, ha, hc, beq_self_eq_true, if_true]
  generalize allReportLines = l
  induction l with
  | nil => rfl
  | cons k l ih => rw [List.foldl_cons, State.refreshReport_same h hm]; exact ih

/-- Publication writes only the bytes it publishes. -/
theorem sameOutside_publish (b s : State) : sameOutside s (publish b s) published := fun _ h => read_publish b s h

/-! ### The resets -/

@[simp] theorem State.powerOn_pending (s : State) (i : InputLevels) : (s.powerOn i).pending = s.pending := rfl
@[simp] theorem State.pinRelease_pending (s : State) (i : InputLevels) : (s.pinRelease i).pending = s.pending := rfl
@[simp] theorem State.powerOn_dt (s : State) (i : InputLevels) : (s.powerOn i).scu = Scu.atPowerOn := rfl
@[simp] theorem State.pinRelease_dt (s : State) (i : InputLevels) :
    (s.pinRelease i).scu = { Scu.atPowerOn with dt := s.scu.dt } := rfl

/-- PERF_RESET clears the performance, ATTN_FLAGS, and writes the snapshot. -/
theorem State.perfReset_eq (s : State) :
    s.perfReset = { s.perfCleared with regs := { s.regs with flags := 0 }, mem := s.perfReset.mem } := by
  apply State.eq_of_fields <;> simp [State.perfReset, State.perfCleared]

@[simp] theorem State.powerOn_nrstLow (s : State) (i : InputLevels) : (s.powerOn i).nrstLow = s.nrstLow := rfl
@[simp] theorem State.pinRelease_nrstLow (s : State) (i : InputLevels) : (s.pinRelease i).nrstLow = false := rfl

/-! ### Groups of a register write -/

/-- The port after a group. -/
theorem State.shiftGroup_eq (s : State) (r : BitVec 2) : s.shiftGroup r = { s with port := s.wrotePort r } := rfl

/-- A group acts, after the port has taken its bytes. -/
theorem onGroup_taken {s : State} {r : BitVec 2} (f : State → State) (h : s.nrstLow = false) :
    onGroup r f s = .next (f { s with port := s.wrotePort r }) := by
  simp [onGroup, onPort, h, State.shiftGroup_eq]

/-! ### The staging copy of LOADING -/

/-- An item that LOADING has read is as it was read. -/
theorem State.stagedOr_read {s : State} {k : Nat} (line : List Byte) (h : k < s.perf.staged.length) :
    s.stagedOr k line = s.perf.staged[k] := by
  simp [State.stagedOr, h]

/-- An item that LOADING has not read is what it would read now. -/
theorem State.stagedOr_unread {s : State} {k : Nat} (line : List Byte) (h : s.perf.staged.length ≤ k) :
    s.stagedOr k line = line := by
  simp [State.stagedOr, h]

/-- A read adds one item to the staging copy. -/
theorem State.loadLine_staged (s : State) :
    s.loadLine.perf = { s.perf with staged := s.perf.staged ++ [s.stagedItem s.perf.staged.length] } := by
  simp only [State.loadLine]
  split <;> rfl

/-! ### States of the performance and events -/

/-- The states in which PT advances (R2). -/
theorem PerfState.advances_iff (x : PerfState) : x.advances = true ↔ x = .running ∨ x = .holding ∨ x = .draining := by
  cases x <;> simp [PerfState.advances]

/-- The states in which tick boundaries and sync pulses are taken (R6, R17). -/
theorem PerfState.scores_iff (x : PerfState) : x.scores = true ↔ x = .running ∨ x = .draining := by
  cases x <;> simp [PerfState.scores]

/-- The states in which nothing is in flight. -/
theorem PerfState.resting_iff (x : PerfState) :
    x.resting = true ↔ x = .idle ∨ x = .loading ∨ x = .ended ∨ x = .frozen := by
  cases x <;> simp [PerfState.resting]

/-- A due event with the part out of reset happens, and its changes are published. -/
theorem onEvent_due {due : Bool} {s : State} (f : State → State) (hn : s.nrstLow = false) (h : due = true) :
    onEvent due f s = .next (publish s (f s)) := by
  simp [onEvent, hn, h]

/-- A publishing step. -/
theorem publishes_publish (b x : State) : publishes x (publish b x) := ⟨publish_eq b x, sameOutside_publish b x⟩

end Sys2Proof.Machine
end

