-- ==== Sys2Proof/Tests/Slice0.lean ====
section
/-! SUPPORT. Tests of the model: the ill-formed terms, single steps whose results come from the spec's worked cases and tables,
and for each statement with hypotheses a state and operands that meet them. -/
namespace Sys2Proof.Tests
open Sys2Proof Sys2Proof.Machine
set_option maxRecDepth 20000

/-! ### Small states -/

/-- A step answers a next state with this property. -/
def after (c : Instr) (s : State) (p : State → Bool) : Bool :=
  match exec c s with
  | .next t => p t
  | .fault _ => false
  | .refused _ => false

/-- The global configuration of the roll of chapter 5, with the planning constants of chapter 3 and the thresholds of chapter 7. -/
def global : GlobalConfig :=
  { GlobalConfig.unlatched with
    initialPeriod := 40000, lookAhead := 100, slotCount := 4, missLimit := 3, skew := 3000, earlyTol := 2000, lateTol := 3000
    restrikeLimit := 20000, contactFilter := 500, warmVelocity := 100, sagBoost := 80, lagSlope := 1024, restrikeBoost := 96
    sagOn := 160, sagOff := 176, brownOn := 120, brownOff := 140, stepsPerRev := 200, acceleration := 100, parkRate := 200 }

/-- A STRIKE channel with sense, cut-off and learning. -/
def striker : ChannelConfig :=
  { ChannelConfig.unlatched with
    cls := .strike, sensePresent := true, cutOff := true, learnTrim := true, gain := 64, cooling := 20, wMax := 8000
    recovery := 28000, mapAddr := 0x740, warm := 30000, hot := 60000, resume := 50000 }

/-- A HOLD channel. -/
def holder : ChannelConfig :=
  { ChannelConfig.unlatched with
    cls := .hold, gain := 64, cooling := 20, warm := 30000, hot := 60000, resume := 50000, holdDuty := 128, engageWidth := 5000
    engageLead := 8000, releaseLead := 2000 }

/-- The map of the worked cases of chapter 3. -/
def caseMap : VelMap := { knots := [⟨20, 1500, 14000⟩, ⟨64, 4000, 9000⟩, ⟨100, 6000, 7500⟩, ⟨127, 9000, 6200⟩] }

/-- Channel 0 STRIKE with partner 1, channel 1 STRIKE, channel 2 HOLD, channel 3 STRIKE without sense. -/
def latch : Latch :=
  { global := global
    chans := ((((Vector.replicate 64 ChannelConfig.unlatched).set 0 { striker with partner := some 1 }).set 1 striker).set 2
      holder).set 3 { striker with sensePresent := false }
    startBlock := 0x1000 }

/-- A performance state with that configuration latched, at DT 100,000 µs and PT 16,000,000 su. -/
def playing (x : PerfState) : State :=
  { State.reset with
    perf := { Perf.atPowerOn with state := x, latch := some latch }
    scu := { Scu.atPowerOn with dt := 100000, pt := 16000000, period := 40000, tempo := { base := 40000, ramp := none } }
    maps := ((State.reset.maps.set 0 (some caseMap)).set 1 (some caseMap)).set 3 (some caseMap)
    sched := { houseDue := 101000, reportDue := 200000 } }

/-- The same in another sync mode, and in rehearsal or not. -/
def playingIn (x : PerfState) (m : SyncMode) (rehearsal : Bool) : State :=
  { playing x with perf := { (playing x).perf with
      latch := some { latch with global := { global with syncMode := m, rehearsal := rehearsal } } } }

def ref (slot : Nat) : CueRef := { loc := { block := 0x1000, slot := slot }, pass := 0 }

/-- A stroke with a lead of 7,000 µs and a width of 3,500 µs, as the roll of chapter 5 plans it, granted some µs ago. -/
def stroke (ago : DevTime) : Stroke where
  cue := ref 0
  onset := 16000000 + 112000 - 16 * (ago.toNat : Int)
  grantPt := 16000000 - 16 * (ago.toNat : Int)
  grantDt := 100000 - ago
  lead := 7000
  width := 3500
  carried := 3500
  restrikeOk := true
  second := false
  rerouted := false
  fireDelay := 0
  windowOpen := 100000 - ago + 5000
  windowClose := 100000 - ago + 10000
  pulseEnd := 100000 - ago + 3500
  contact := none
  resolved := false

/-- A channel given a state and a stroke. -/
def withStroke (s : State) (n : ChanId) (x : ChanState) (k : Stroke) : State :=
  s.setChan n { s.chan n with state := x, stroke := some k }

/-- A filter whose line left a settled level some µs ago and has held since. -/
def edge (settled : Bool) (ago : DevTime) : Filter :=
  { settled := settled, qual := some { rawDt := 100000 - ago, holdStart := 100000 - ago, bounce := none } }

/-- Cue memory with these bytes at these addresses. -/
def memoryOf (l : List (Nat × List Byte)) : Memory := l.foldl (fun m p => Memory.writeBytes m p.1 p.2) []

/-- A map record with one pair of knots, at 0x0740. -/
def mapRecord : List Byte := [2, 0, 0, 0, 1, 0, 0xAC, 0x0D, 0x30, 0x1B, 127, 0, 0xAC, 0x0D, 0x30, 0x1B]

/-- A configuration whose channel 0 is a STRIKE channel, its map, and a start block at 0x1000 with one MARK cue and an END link. -/
def staged : Memory :=
  memoryOf [(0x100, [0, 0x10, 0, 0]), (0x119, [160, 176, 120, 140]), (0x140, [5, 0, 64, 20, 80, 0, 0, 0, 0x40, 7, 0x30, 0x75, 0x60, 0xEA, 0x50, 0xC3]),
    (0x740, mapRecord), (0x1000, [0x43, 0x5A, 1, 0, 1, 0, 0, 0]), (0x1010, [5, 1, 0, 0, 0, 0, 96, 0])]

/-- A performance in LOADING with that configuration staged. -/
def loading : State := { State.reset with mem := staged, perf := { Perf.atPowerOn with state := .loading } }

/-- An entry of the fire queue. -/
def entry (w : Work) (fireTime : Int) (wait : Option DevTime) (seq : Nat) : FqEntry :=
  { work := w, onset := fireTime, fireTime := fireTime, wait := wait, seq := seq }

/-- A STRIKE entry for a channel. -/
def strikeWork (n : ChanId) : Work :=
  .strike { cue := ref 0, chan := n, width := 5444, lead := 8349, velocity := 90, restrikeOk := true }

/-- A performance whose reader holds a cue of slot 2 of the block at 0x1000 at the horizon. -/
def reading (x : ReaderState) (p : Pending) : State :=
  { playing .running with
    scu := { (playing .running).scu with cond := .scheduled 16000000 }
    reader := { Reader.atReset with state := x, block := 0x1000, slot := 2, count := 3, pass := some 0, pending := p }
    passes := [{ id := 0, block := 0x1000, outstanding := 1, readingDone := false }]
    passSeq := 1
    mem := staged }

/-- A HOLDING performance at a holdpoint that CUE and CONTINUE release or not. -/
def held (byCue byCommand : Bool) : State :=
  { playing .holding with
    scu := { (playing .holding).scu with
      agenda := [{ onset := 0, cue := ref 1, body := .holdpoint byCue byCommand 1 20 }], holdExpiry := some 16000000 }
    siu := { State.reset.siu with cuei := edge false 1000 } }

/-! ### Ill-formed terms -/

theorem test_wf_unknown_command : (Instr.unknownCommand 9).wellFormed = false ∧
    exec (.unknownCommand 9) State.reset = .refused .illFormed := ⟨by decide, rfl⟩

/-- Transactions of the four codes with their address, index and turnaround bytes complete. -/
theorem test_wf_unknown_instruction :
    [(0x52, 3), (0x57, 2), (0x72, 2), (0x77, 1)].all (fun x => !(Instr.unknownInstruction x.1 x.2).wellFormed) = true ∧
    exec (.unknownInstruction 0x52 3) State.reset = .refused .illFormed := ⟨by decide, rfl⟩

/-- An index of a register, an index that names none, and a whole group. -/
theorem test_wf_status_write_ignored :
    [IgnoredWrite.noRegister 3 0, .cutFirst 4 0, .cutFirst 3 2, .cutNext 2].all (fun w => !(Instr.statusWriteIgnored w).wellFormed) = true ∧
    exec (.statusWriteIgnored (.noRegister 3 0)) State.reset = .refused .illFormed := ⟨by decide, rfl⟩

/-! ### The worked cases -/

/-- Case 1 of chapter 1.3: a ramp of 4 ticks from 41,667 to 40,000 su. -/
theorem test_ramp_falls :
    (List.range 5).map (fun k => ((Tempo.mk 41667 none).apply 1004 40000 4).periodAt (1004 + BitVec.ofNat 32 k))
      = [41251, 40834, 40417, 40000, 40000] := by decide

/-- The same case: the STRIKE at tick 1010 is projected at 3,409,170 su. -/
theorem test_projection : State.project { playing .running with
    scu := { (playing .running).scu with
      tick := 1000, cond := .begun 3000000 41667, period := 41667, tempo := { base := 41667, ramp := none }
      agenda := [{ onset := 1004, cue := ref 0, body := .tempo 40000 4 }] } } 1010 = some 3409170 := by decide

/-- The worked cases of chapter 1.6: ahead, behind and clamped. -/
theorem test_regulation_ahead : regulated 8000000 (phaseError 385 41667 30000) 41667 = 41759 := by decide
theorem test_regulation_behind : regulated 8000000 (phaseError 383 41667 10000) 41667 = 41624 := by decide

/-- Case 1 of chapter 3: velocity 90, heat 20,000, trim +120, onset 3,409,970 su. -/
theorem test_plan_case_1 :
    (State.setChan (playing .running) 0 { (playing .running).chan 0 with heat := 20000, trim := 120 }).planStrike 0 90 3409970
      = { velocity := 90, width := 5444, lead := 8349, fireTime := 3276386 } := by decide

/-- Case 6 of chapter 3: velocity 120 with heat 40,000, the warm clamp. -/
theorem test_plan_case_6 :
    ((State.setChan (playing .running) 0 { (playing .running).chan 0 with heat := 40000, trim := 120 }).planStrike 0 120 0).lead
      = 8245 := by decide

/-- Case 2 of chapter 3: the width 5,444 granted in SAG is 6,805 µs; case 9: the restrike carries 5,444 × 96 / 64 = 8,166,
clamped to W_max. -/
theorem test_widths_at_grant :
    State.pulseWidth { playing .running with csm := { State.reset.csm with level := .sag } } 0 5444 = 6805 ∧
    (playing .running).restrikeWidth 0 5444 = 8000 := by decide

/-- R47: a second knot whose velocity does not rise fails at knot 1. -/
theorem test_map_check : validateMap 0x740 [2, 0, 0, 0, 9, 0, 0xAC, 0x0D, 0x30, 0x1B, 9, 0, 0xAC, 0x0D, 0x30, 0x1B]
    = .error (.velocity, 1) := by rfl

/-- The roll of chapter 5: 40's pulse of 3,500 µs ends and H gains 875. -/
theorem test_pulseEnd : after (.pulseEnd 0) (withStroke (playing .running) 0 .drive (stroke 3500))
    (fun t => (t.chan 0).state == .flight && (t.chan 0).heat == 875) = true := by decide

/-- The roll of chapter 5, stroke 1: a contact at +150 µs teaches the trim +40 the value +58 and the result is HIT, lateness 150,
flight 7,150. -/
theorem test_contactAccepted :
    (let s := withStroke (playing .running) 0 .flight (stroke 7650)
     after (.contactAccepted 0)
       { State.setChan s 0 { s.chan 0 with trim := 40 } with siu := { s.siu with sns := s.siu.sns.set 0 (edge false 500) } }
       (fun t => (t.chan 0).trim == 58 && (t.chan 0).state == .recover &&
         Memory.readBytes t.mem 0x1018 8 == [1, 0, 0, 0, 150, 0, 0xEE, 0x1B])) = true := by decide

/-- The roll of chapter 5, stroke 3: the restrike aim is 31,000 µs after the onset, above the limit of 20,000: a MISS. -/
theorem test_windowSettle : after (.windowSettle 0) (withStroke (playing .running) 0 .flight (stroke 10500))
    (fun t => (t.chan 0).misses == 1 && (t.chan 0).recoveryEnd == 100000 - 500 + 28000 &&
      Memory.readBytes t.mem 0x1018 8 == [3, 0, 0, 0, 0, 0, 0, 0]) = true := by decide

/-- Chapter 6.3's note: duty 128 and G = 64 add 1,250 to H = 64,000 and the decay takes 1,275. -/
theorem test_heatEvent :
    (let s := playing .running
     after (.heatEvent 2) (State.setChan s 2 { s.chan 2 with state := .held, heat := 64000, heatDue := 100000 })
       (fun t => (t.chan 2).heat == 63975 && (t.chan 2).state == .cooldown && t.flag .channel)) = true := by decide

/-- The bouncing contact of chapter 7: the fall at 40 µs and the rise at 90 µs restart the hold and keep the raw edge. -/
theorem test_lineTransition :
    ((({ settled := false, qual := none } : Filter).transition 1000000).transition 1000040).transition 1000090
      = { settled := false, qual := some { rawDt := 1000000, holdStart := 1000090, bounce := none } } := by decide

/-- R138: from BROWN a reading at full scale gives SAG, and the next NORMAL. -/
theorem test_housekeepingEvent : nextLevel global .brown 255 = .sag ∧ nextLevel global .sag 255 = .normal ∧
    nextLevel global .normal 120 = .brown := by decide

/-- Table 10-10: the identity line as MEM_READ shows it, after STATUS and three bytes of 0x00. -/
theorem test_memRead : after (.memRead 0 7) State.reset
    (fun t => t.port.miso == [0, 0, 0, 0, 0x4E, 0x4F, 0x08, 0x19, 0x01, 0x40, 0x40]) = true := by decide

/-- R172: a MEM_WRITE across the top of the address space wraps into the identity line, which ignores it. -/
theorem test_memWrite_wraps : after (.memWrite 0xFFFF [7, 8]) State.reset
    (fun t => Memory.read t.mem 0xFFFF == 7 && Memory.read t.mem 0 == 0x4E) = true := by decide

/-- R142: an unknown code reads back with REFUSED_ARG, outcome code 3. -/
theorem test_unknownCommand : after (.unknownCommand 0x20) State.reset (fun t => t.regRead 1 == 0x0320) = true := by decide

/-- Steps one after another answer a state with this property. -/
def afterAll (l : List Instr) (s : State) (p : State → Bool) : Bool :=
  match l with
  | [] => p s
  | c :: cs => after c s (afterAll cs · p)

/-- R170: one REG_WRITE of 0x0101 from ATTN_ENABLE on: ATTN_ENABLE, STATUS, then CONTROL, code 1, which is START. -/
theorem test_register_write_goes_on : afterAll
    [.attnEnableWrite 0x101, .statusWriteIgnored (.status 0x101), .start] State.reset
    (fun t => t.perf.state == .loading && t.regRead 3 == 0x101 && t.port.miso.length == 8 && t.port.nextReg == some 2) = true := by
  decide

/-- Table 10-1: the bytes of that REG_WRITE, of a MEM_READ of two bytes and of a MEM_WRITE of one, as the host shifts them in. -/
theorem test_decodeTransaction :
    decodeTransaction [0x77, 3, 0x01, 0x01, 0x01, 0x01, 0x01, 0x00] =
      [.attnEnableWrite 0x0101, .statusWriteIgnored (.status 0x0101), .start, .statusWriteIgnored (.cutNext 0)] ∧
    decodeTransaction [0x52, 0x10, 0x08, 0, 0, 0] = [.memRead 0x1008 2] ∧
    decodeTransaction [0x57, 0x01, 0x02, 7] = [.memWrite 0x0102 [7]] := by decide

/-- R170: a MEM_READ that CS ends after its address has STATUS and two bytes of 0x00, and the next transaction is its own. -/
theorem test_cut_transaction : decodeTransaction [0x52, 0x10, 0x08] = [.unknownInstruction 0x52 2] ∧
    after (.unknownInstruction 0x52 2) State.reset (fun t => t.port.miso == [0, 0, 0] && t.port.nextReg == none) = true := by
  decide

/-- The same registers written in transactions of their own: the last has STATUS, the index byte and two data bytes. -/
theorem test_register_writes_apart : afterAll
    [.attnEnableWrite 0x101, .statusWriteIgnored (.cutNext 0), .statusWriteIgnored (.status 0x101), .statusWriteIgnored (.cutNext 0),
     .start] State.reset
    (fun t => t.perf.state == .loading && t.port.miso.length == 4 && t.port.miso.take 2 == [0, 0]) = true := by decide

/-- R176: a power-on reset while nRST is low leaves the part in pin reset. -/
theorem test_powerOn_in_pin_reset : afterAll
    [.nrstAssertion, .powerOnReset ⟨0, false, false, false, false, true, false⟩] (playing .running)
    (fun t => t.misoHighImpedance && t.scu.dt == 0) = true := by decide

/-- R146: LOADING with an empty cue memory finds the supply thresholds equal and ends with CONFIG_ERROR. -/
theorem test_loadingComplete_fails : after .loadingComplete { loading with mem := [] }
    (fun t => t.perf.state == .ended && t.perf.endCause == .configError &&
      Memory.readBytes t.mem 0x70 4 == [1, 0, 2, 9]) = true := by decide

/-- R147, R7: LOADING with a good configuration schedules tick 0 one look-ahead (50 ms) after RUNNING begins. -/
theorem test_loadingComplete_runs : after .loadingComplete loading
    (fun t => t.perf.state == .running && t.scu.cond == .scheduled 800000 && (t.chan 0).state == .idle &&
      t.reader.tick == 96) = true := by decide

/-- R43, R144: the header LOADING read passes its check, and the block's header as rewritten since has no signature: RUNNING is
entered and the start block is a chain fault. -/
theorem test_loadingComplete_rewritten_header : after .loadingComplete
    { loading with mem := staged.write 0x1000 0, perf := { loading.perf with staged := (List.range 325).map loading.stagedItem } }
    (fun t => t.perf.state == .draining && t.perf.endCause == .chainFault && t.scu.sync == .none &&
      Memory.readBytes t.mem 0x72 1 == [1]) = true := by decide

/-- R119: a rate rising from 0 takes a step at once; at 100 steps/s the next is 10,000 µs on. -/
theorem test_rotorRateEvent :
    after .rotorRateEvent { playing .running with rot := { Rotor.atPowerOn with
        state := .running, cmd := some (.fixed 300), target := 300, rateDue := 100000 } }
      (fun t => t.rot.rate == 100 && t.rot.phase == 1 && t.rot.nextStep == some 110000) = true := by decide

/-- R13: a holdpoint with a delay below 40 ms places its tick 40 ms on. -/
theorem test_continue : after .cont (held false true)
    (fun t => t.perf.state == .running && t.scu.cond == .scheduled (16000000 + 640000) && t.scu.agenda == []) = true := by decide

/-- R164: with a recovery of 0 the channel is granted anew in the step that ends its stroke: DRIVE to DRIVE, with the heat of the
pulse, 3,500 × 64 / 256 = 875, in its report line. -/
theorem test_regrant_reports_heat :
    (let s := withStroke (playing .running) 3 .drive (stroke 3500)
     after (.pulseEnd 3) { s with
         perf := { s.perf with latch := some { latch with chans := latch.chans.set 3 { striker with sensePresent := false, recovery := 0 } } }
         slots := 1, fq := [entry (strikeWork 3) 16000000 (some 99000) 0], fqSeq := 1 }
       (fun t => (t.chan 3).state == .drive && Memory.readBytes t.mem 0x55A 2 == [0x6B, 3])) = true := by decide

/-- R157: a power-on reset with both stop lines asserted at the first sample begins a qualification at DT 0. -/
theorem test_powerOnReset : after (.powerOnReset { sns := 0, synci := false, cuei := false, home := false, stopA := true, stopB := false, dflt := false })
    (playing .running) (fun t => t.scu.dt == 0 && t.siu.quiet == .qualifying 0 && t.perf.latch.isNone) = true := by decide

/-! ### States that meet the hypotheses of the statements

Each theorem shows, for the statement it is named after, that its hypotheses can be met together, clause by clause and at the
boundary where a clause has one. -/

/-- A MARK cue. -/
def markCue : Cue := { body := .mark true, delta := 96 }

/-- A busy performance that meets every invariant: a stroke in DRIVE, an entry in the queue, a TEMPO entry in the agenda, a pass
open and a cue at the horizon, with the status area showing it. -/
def busy : State :=
  let s : State :=
    { reading .horizon (.cue markCue) with
      mem := Memory.atPowerOn
      fq := [entry (strikeWork 0) 16000000 (some 99000) 0], fqSeq := 1, slots := 1
      scu := { (reading .horizon .none).scu with agenda := [{ onset := 96, cue := ref 1, body := .tempo 40000 4 }] } }
  (withStroke s 0 .drive (stroke 3500)).writeLineA.writeLineC.reportAll

theorem busy_scoreOk : busy.scoreOk where
  paused := fun h => absurd h (by decide)
  rest := fun h => absurd h (by decide)
  staged := fun _ => by decide
  reader := fun h => absurd h (by decide)
  last := by decide
  draining := fun h => absurd h (by decide)
  holding := fun h => absurd h (by decide)

theorem busy_driveOk : busy.driveOk where
  slots := by decide
  count := by decide
  limit := by decide
  queue := by
    intro e h
    have hq : busy.fq = [entry (strikeWork 0) 16000000 (some 99000) 0] := by decide
    rw [hq] at h
    have : e = entry (strikeWork 0) 16000000 (some 99000) 0 := List.mem_singleton.mp h
    subst this
    exact (by decide : (busy.ccfg 0).cls = .strike)
  chans := by decide
  rest := fun h => absurd h (by decide)

theorem busy_refs : busy.refsInBlocks where
  passes := by decide
  queue := by decide
  agenda := by decide
  stroke := by decide
  engage := by decide
  rotor := by decide
  reader := ⟨by decide, fun _ _ => by decide, by decide⟩

theorem busy_pause : ∃ t, exec .pause busy = .next t := ⟨_, rfl⟩

theorem witness_EveryCommandOfTheTableCompletes :
    (Instr.unknownCommand 0).wellFormed = true ∧ (Instr.unknownCommand 1).wellFormed = false ∧
    (Instr.unknownCommand 9).wellFormed = false ∧ (Instr.unknownCommand 10).wellFormed = true ∧
    (Instr.unknownInstruction 0x51 0).wellFormed = true ∧ (Instr.unknownInstruction 0x52 2).wellFormed = true ∧
    (Instr.unknownInstruction 0x52 3).wellFormed = false ∧ Instr.start ∈ decodeTransaction [0x77, 1, 1, 0] := by decide

theorem witness_IdlePartRunsADueEventOrLetsTimePass :
    (isOwnEvent .reportEvent = true ∧ isDue State.reset .reportEvent = false) ∧
    (State.reset.pending = [] ∧ dueEvent State.reset = none ∧ State.reset.reader.state ≠ .reading) ∧
    dueEvent { State.reset with scu := { Scu.atPowerOn with dt := 1000 } } = some (.housekeepingEvent 2500000) ∧
    State.reset.perf.state ≠ .loading := by decide

/-- A LOADING that still reads. -/
theorem witness_IdlePartRunsADueEventOrLetsTimePass_loading :
    loading.pending = [] ∧ dueEvent loading = none ∧ loading.reader.state ≠ .reading ∧ loading.perf.state = .loading ∧
    loading.nrstLow = false ∧ loading.perf.staged.length < 325 := by decide

theorem witness_ClocksAndConfigurationChangeOnlyWhereTheSpecSays :
    (∃ t, exec .pause busy = .next t) ∧ isFullReset .pause = false ∧ Instr.pause ≠ .loadingComplete ∧ Instr.pause ≠ .lockConfig ∧
    (∀ v, Instr.pause ≠ .housekeepingEvent v) ∧ Instr.pause ≠ .horizonPassed ∧ Instr.pause ≠ .stallReleased :=
  ⟨busy_pause, by decide, by decide, by decide, fun _ => Instr.noConfusion, by decide, by decide⟩

theorem witness_PerformanceMovesOnlyAlongItsArrows : busy.scoreOk ∧ ∃ t, exec .pause busy = .next t := ⟨busy_scoreOk, busy_pause⟩

/-- A state whose REG_WRITE in progress has advanced to a register. -/
def advanced (s : State) (r : BitVec 2) : State := { s with port := { s.port with nextReg := some r } }

theorem witness_RefusedCommandsChangeControlAlone :
    (busy.nrstLow = false ∧ commandRefusal busy .start = some (1, .refusedState)) ∧
    ((0 : Byte) = 0 ∨ 9 < (0 : Byte).toNat) ∧ ((10 : Byte) = 0 ∨ 9 < (10 : Byte).toNat) := by decide

theorem witness_ACommandThatOnlyMovesThePerformanceChangesNothingElse :
    ((playing .idle).nrstLow = false ∧ ((playing .idle).perf.state = .idle ∨ (playing .idle).perf.state = .ended)) ∧
    ((playing .draining).nrstLow = false ∧ ((playing .draining).perf.state = .running ∨
      (playing .draining).perf.state = .holding ∨ (playing .draining).perf.state = .draining)) ∧
    (loading.nrstLow = false ∧ loading.perf.state = .loading) ∧
    ((playing .frozen).nrstLow = false ∧ (playing .frozen).perf.state = .frozen ∧ (playing .frozen).siu.quiet = .opened ∧
      (playing .frozen).siu.dflt = false) ∧
    ((playing .ended).nrstLow = false ∧ ((playing .ended).perf.state = .idle ∨ (playing .ended).perf.state = .ended) ∧
      (playing .ended).perf.latch.isSome = true) := by decide

/-- A PAUSED performance that remembers a state. -/
def paused (x : PerfState) : State :=
  { playing .paused with perf := { (playing .paused).perf with prior := some x, pausedAt := 99000 } }

theorem witness_ResumeReturnsToTheRememberedState :
    (paused .running).nrstLow = false ∧ (paused .running).perf.state = .paused ∧ (paused .running).perf.prior = some .running ∧
    PerfState.running.advances = true ∧ drainCompleteDue ((paused .running).resumedTo .running).grantTest = false ∧
    PerfState.draining.advances = true ∧ drainCompleteDue ((paused .draining).resumedTo .draining).grantTest = true := by decide

theorem witness_StopEndsTheReadingAndEmptiesTheQueues :
    busy.nrstLow = false ∧ (busy.perf.state = .running ∨ busy.perf.state = .holding ∨ busy.perf.state = .paused ∨
      busy.perf.state = .draining) ∧ (busy.ccfg 2).cls = .hold ∧ (busy.ccfg 0).cls ≠ .hold := by decide

theorem witness_ClearChannelReturnsAFaultedChannelToIdle :
    (let s := (playing .idle).setChanState 3 .faulted
     s.nrstLow = false ∧ (3 : Byte).toNat = (3 : ChanId).val ∧ (s.ccfg 3).cls = .strike ∧ (s.chan 3).state = .faulted) := by
  decide

theorem witness_PerfResetClearsThePerformanceAndKeepsTheRest :
    busy.nrstLow = false ∧ (busy.chan 0).state = .drive ∧ (busy.chan 0).stroke = some (stroke 3500) ∧
    busy.rehearsal = false ∧ (busy.chan 1).state ≠ .drive ∧ (busy.chan 1).state ≠ .engage ∧ (busy.chan 1).heat ≤ 65535 ∧
    (playingIn .running .free true).nrstLow = false ∧ (playingIn .running .free true).rehearsal = true := by decide

/-- A HOLD channel in the ENGAGE granted 5,000 µs ago, and hold wanted. -/
def engaged : State :=
  State.setChan { playing .running with slots := 1 } 2 { (playing .running).chan 2 with
    state := .engage, engage := some { cue := some (ref 0), grantDt := 95000, endDt := 100000 }, holdWanted := true }

theorem witness_PerfResetClearsThePerformanceAndKeepsTheRest_engage :
    engaged.nrstLow = false ∧ (engaged.chan 2).state = .engage ∧
    (engaged.chan 2).engage = some { cue := some (ref 0), grantDt := 95000, endDt := 100000 } ∧ engaged.rehearsal = false := by
  decide

theorem witness_ReadsShowMemoryRegistersAndStatus : busy.nrstLow = false := by decide

/-- The last address, the first two beyond it, a byte for the fault record's state and one written twice. -/
theorem witness_MemWriteCommitsTheHostsBytes :
    busy.nrstLow = false ∧ Memory.wf busy.mem = true ∧
    (¬statusArea (((0xFFFF : Addr).toNat + 0) % 65536) ∧ statusArea (((0xFFFF : Addr).toNat + 1) % 65536)) ∧
    (∃ k, ∃ h : k < [(0 : Byte)].length, ((0x70 : Addr).toNat + k) % 65536 = 0x70 ∧ [(0 : Byte)][k] = 0) :=
  ⟨by decide, by decide, by decide, ⟨0, by decide, by decide, by decide⟩⟩

theorem witness_RegisterWritesActAsTheTableSays :
    busy.nrstLow = false ∧ busy.port.nextReg = none ∧ 3 < (4 : Byte).toNat ∧ ((3 : Byte).toNat ≤ 3 ∧ 1 < 2) ∧
    ((advanced busy 1).nrstLow = false ∧ (advanced busy 1).port.nextReg = some 1) ∧
    ((0x51 : Byte) ≠ 0x52 ∧ (0x51 : Byte) ≠ 0x57 ∧ (0x51 : Byte) ≠ 0x72 ∧ (0x51 : Byte) ≠ 0x77) ∧
    (∀ x ∈ [((0x52 : Byte), 2), (0x57, 1), (0x72, 1), (0x77, 0)], (x.1 = 0x52 → x.2 < 3) ∧ (x.1 = 0x57 → x.2 < 2) ∧
      (x.1 = 0x72 → x.2 < 2) ∧ (x.1 = 0x77 → x.2 < 1)) ∧
    ([1] : List Byte).length < 2 ∧ 2 ≤ ([1, 2] : List Byte).length ∧ isCommandCode 0 = false ∧ isCommandCode 10 = false := by decide

theorem witness_AttnFollowsTheEnabledFlags : busy.nrstLow = false := by decide

theorem witness_ResetsLeaveTheResetState : Memory.wf busy.mem = true := by decide

theorem witness_TheAssertedResetPinHoldsThePart :
    (let s := { busy with nrstLow := true }
     s.nrstLow = true ∧ Instr.reportEvent.wellFormed = true ∧ isFullReset .reportEvent = false ∧
       Instr.reportEvent ≠ .nrstAssertion) := by decide

/-- Tick 0 scheduled at the present PT, and a begun tick whose end is the present PT, with an agenda entry one tick later. -/
theorem witness_ATickBeginsAtItsBoundary :
    (let s := { playing .running with scu := { (playing .running).scu with
      cond := .scheduled 16000000, agenda := [{ onset := 1, cue := ref 1, body := .tempo 40000 4 }] } }
     s.nrstLow = false ∧ s.scu.cond = .scheduled 16000000 ∧ (16000000 : Int) ≤ s.scu.pt.toNat ∧
     tickUpTo 1 s.scu.tick = false ∧ s.scu.tempo.periodAt s.scu.tick = 40000) ∧
    (let s := { playing .draining with scu := { (playing .draining).scu with cond := .begun 15960000 40000 } }
     s.scu.cond = .begun 15960000 40000 ∧ (16000000 : Int) = 15960000 + 40000 ∧ (16000000 : Int) ≤ s.scu.pt.toNat ∧
     s.scu.agenda.head? = none) := by decide

/-- At PT 16,000,000 the start of tick 0 and the end of a begun tick 0, with agenda entries for the tick that begins. -/
def atBoundary (begun : Bool) (l : List AgendaEntry) : State :=
  { playing .running with scu := { (playing .running).scu with
      cond := if begun then .begun 15960000 40000 else .scheduled 16000000, agenda := l } }

/-- A TEMPO entry due at the boundary before a tick, alone and with another one due after it, the reader at a link; and a HOLDPOINT entry. -/
theorem witness_AgendaEntriesAreDealtWithAtTheirBoundary :
    (∀ begun : Bool,
      let x : Tick := if begun then 1 else 0
      let e : AgendaEntry := { onset := x, cue := ref 1, body := .tempo 41000 4 }
      let f (onset : Tick) : AgendaEntry := { onset := onset, cue := ref 2, body := .tempo 40000 0 }
      let s := atBoundary begun [e, f (x + 1)]
      let h : AgendaEntry := { onset := x, cue := ref 1, body := .holdpoint true true 1 20 }
      s.nrstLow = false ∧ s.perf.state = .running ∧ s.boundaryAhead 16000000 x ∧ (16000000 : Int) ≤ s.scu.pt.toNat ∧
      s.scu.agenda = e :: [f (x + 1)] ∧ tickUpTo e.onset x = true ∧ tickUpTo (f (x + 1)).onset x = false ∧
      tickUpTo (f x).onset x = true ∧ (atBoundary begun [e, f x]).scu.agenda = e :: [f x] ∧
      (atBoundary begun [h]).scu.agenda.head? = some h ∧ (atBoundary begun [h]).boundaryAhead 16000000 x) ∧
    (atBoundary false []).global.syncMode ≠ .follow ∧ (playingIn .running .follow false).global.syncMode = .follow := by
  refine ⟨fun begun => ?_, by decide, by decide⟩
  cases begun
  · exact ⟨by decide, by decide, Or.inl (by decide), by decide, rfl, by decide, by decide, by decide, rfl, rfl, Or.inl (by decide)⟩
  · exact ⟨by decide, by decide, Or.inr ⟨15960000, 40000, by decide⟩, by decide, rfl, by decide, by decide, by decide, rfl, rfl,
      Or.inr ⟨15960000, 40000, by decide⟩⟩

/-- R6, R40: two TEMPO entries due at the end of a begun tick are both applied, the later in force, and a reader at a link for that tick is
STARVED; a HOLDPOINT for the tick stops it and leaves the reader as it was. -/
theorem test_tickBoundary :
    (let wait (s : State) : State := { s with reader := { s.reader with state := .linkWait, tick := 1 } }
     after .tickBoundary (wait (atBoundary true [{ onset := 0, cue := ref 1, body := .tempo 50000 0 }, { onset := 1, cue := ref 2, body := .tempo 41000 0 }]))
       (fun t => t.scu.agenda == [] && t.scu.cond == .begun 16000000 41000 && t.flag .starved &&
         Memory.readBytes t.mem 0x1028 5 == [8, 0, 0x50, 0xC3, 0] && Memory.readBytes t.mem 0x1038 5 == [8, 0, 0x28, 0xA0, 0]) &&
     after .tickBoundary (wait (atBoundary true [{ onset := 1, cue := ref 1, body := .holdpoint true true 1 20 }]))
       (fun t => t.perf.state == .holding && t.scu.tick == 1 && t.scu.holdExpiry == some 17600000 && !t.flag .starved)) = true := by
  decide

/-- CUE after exactly 1,000 µs of hold, CONTINUE enabled and not, and a timeout at the present PT. -/
theorem witness_AHoldpointIsReleasedBySourcesItAllows :
    ((playing .running).nrstLow = false ∧ (playing .running).perf.state ≠ .holding ∧
      edge false 1000 = { settled := false, qual := some { rawDt := 99000, holdStart := 99000, bounce := none } }) ∧
    (∃ e byCommand timeout delay, (held false true).scu.agenda.head? = some e ∧ e.body = .holdpoint false byCommand timeout delay) ∧
    (∀ b, (held true b).nrstLow = false ∧ (held true b).perf.state = .holding ∧
      (held true b).scu.agenda = { onset := 0, cue := ref 1, body := .holdpoint true b 1 20 } :: [] ∧
      (held true b).siu.cuei = { settled := false, qual := some { rawDt := 99000, holdStart := 99000, bounce := none } } ∧
      reached (held true b).scu.dt (99000 + 1000) = true ∧
      (held true b).scu.holdExpiry = some 16000000 ∧ (16000000 : Int) ≤ (held true b).scu.pt.toNat) :=
  ⟨by decide, ⟨_, _, _, _, rfl, rfl⟩, by decide⟩

theorem witness_ScoreTimersEnd :
    (let s := { playing .frozen with scu := { (playing .frozen).scu with synco := some 100000 } }
     s.nrstLow = false ∧ s.scu.synco = some 100000 ∧ reached s.scu.dt 100000 = true) ∧
    (let s := { playing .draining with scu := { (playing .draining).scu with sync := .locked, lossElapsed := some 15360000 } }
     s.nrstLow = false ∧ (s.perf.state = .running ∨ s.perf.state = .draining) ∧ s.scu.sync = .locked ∧
     s.scu.lossElapsed = some 15360000 ∧ 2 * 192 * s.scu.period ≤ 15360000) := by decide

/-- A pulse 3/4 of a beat after the last is the nearest that regains the lock, and one su sooner does not. -/
theorem witness_ASyncPulseIsTakenByItsRow :
    (let s := { playingIn .running .follow false with siu := { State.reset.siu with synci := edge false 1000 } }
     s.nrstLow = false ∧ s.siu.synci = { settled := false, qual := some { rawDt := 99000, holdStart := 99000, bounce := none } } ∧
     reached s.scu.dt (99000 + 1000) = true ∧
     (15984000 : Int) = s.scu.pt.toNat + 16 * ((99000 : DevTime) - s.scu.dt).toInt ∧
     s.global.syncMode = .follow ∧ (s.perf.state = .running ∨ s.perf.state = .draining) ∧
     4 * ((15984000 : Int) - 10224000) ≥ 3 * 192 * s.scu.period ∧ 4 * ((15984000 : Int) - 10224000) ≤ 5 * 192 * s.scu.period ∧
     4 * ((15984000 : Int) - 10224001) < 3 * 192 * s.scu.period) ∧
    (TickCond.unscheduled = .unscheduled ∧ TickCond.scheduled 0 ≠ .unscheduled) := by decide

theorem witness_PeriodsFollowTheRegulationAndTheRamp :
    (0 : Int) < 41667 ∧ (Ramp.mk 1004 41667 40000 4).ok ∧ (Ramp.mk 1004 41667 40000 4).len < 65536 ∧
    (Ramp.mk 0 1600 1048575 65535).ok ∧ (Ramp.mk 0 1600 1048575 65535).len < 65536 ∧ isPeriod 1600 := by decide

/-- Projection: an unscheduled tick, the current tick and the farthest earlier one, the tick after a begun one, and the farthest tick ahead. -/
theorem witness_PeriodsFollowTheRegulationAndTheRamp_projection :
    (playing .running).scu.cond = .unscheduled ∧ (atBoundary false []).scu.cond = .scheduled 16000000 ∧
    (atBoundary true []).scu.cond = .begun 15960000 40000 ∧ (atBoundary false []).boundaryAhead 16000000 0 ∧
    tickUpTo 0 (0 - 1) = false ∧ tickUpTo 0 0x80000000 = false ∧ tickUpTo 0 0x7FFFFFFF = true ∧ 2147483645 + 2 < 2147483648 :=
  ⟨by decide, by decide, by decide, Or.inl (by decide), by decide, by decide, by decide, by decide⟩

theorem witness_AMapInterpolatesBetweenItsKnots :
    validateMap 0x740 mapRecord = .ok { knots := [⟨1, 3500, 6960⟩, ⟨127, 3500, 6960⟩] } := by rfl

theorem witness_ThePlannedLeadIsClamped :
    ((playing .running).chan 0).inRange ∧ (playing .running).global.lagSlope ≤ 4095 ∧
    (playing .running).chanOf 0 .strike = some 0 ∧ (playing .running).fq.length < 96 := by decide

theorem witness_AnEntryJoinsTheFireQueueInOrder : fqOrdered busy.fq ∧ busy.perf.state ≠ .paused := by decide

theorem witness_AGrantTestGrantsWhatCanBeGranted :
    busy.queueNumbered ∧ busy.perf.state ≠ .paused ∧ busy.slots ≤ effectiveSlots busy.csm.level busy.global.slotCount ∧
    effectiveSlots .brown busy.global.slotCount ≤ busy.slots ∧ (∀ e ∈ (playing .running).fq, e.wait = none) := by decide

theorem witness_AGrantHandsTheEntryToItsChannel :
    (entry (strikeWork 0) 0 none 0).work = .strike { cue := ref 0, chan := 0, width := 5444, lead := 8349, velocity := 90, restrikeOk := true } ∧
    (entry (.restrike { cue := ref 0, chan := 0, width := 5444, lead := 8349, rerouted := false }) 0 none 0).work =
      .restrike { cue := ref 0, chan := 0, width := 5444, lead := 8349, rerouted := false } ∧
    (entry (.engage (some (ref 0)) 2) 0 none 0).work = .engage (some (ref 0)) 2 ∧ Memory.wf busy.mem = true := by decide

/-- R70, R109: two ENGAGE entries wait for a slot for channel 2; the grant of the first resolves the second ENGAGED, code 16. -/
theorem test_second_engage :
    (let e := entry (.engage (some (ref 0)) 2) 16000000 (some 99000) 0
     let s := { (playing .running).setChanState 2 .released with
       fq := [e, entry (.engage (some (ref 1)) 2) 16000000 (some 99000) 1], fqSeq := 2 }
     (s.grant e 2).fq == [] && ((s.grant e 2).chan 2).state == .engage && Memory.read (s.grant e 2).mem 0x1028 == 16) = true := by decide

/-- A performance whose queue holds one entry. -/
def queued (e : FqEntry) : State := { playing .running with fq := [e], fqSeq := 1 }

/-- An entry whose fire time is the present PT, and each channel state and level an arrival looks at. -/
theorem witness_EntriesArriveInQueueOrderAndActByKind :
    (let e := entry (strikeWork 0) 16000000 none 0
     (queued e).nrstLow = false ∧ ((queued e).perf.state = .running ∨ (queued e).perf.state = .holding ∨
       (queued e).perf.state = .draining) ∧
     (queued e).fq.find? (fun x => x.wait.isNone && decide (x.fireTime ≤ ((queued e).scu.pt.toNat : Int))) = some e) ∧
    ((playing .running).csm.level ≠ .brown ∧ ((playing .running).setChanState 2 .released |>.chan 2).state = .released ∧
     ((playing .running).setChanState 2 .cooldown |>.chan 2).state = .cooldown ∧
     ((playing .running).setChanState 2 .held |>.chan 2).state = .held ∧
     ((playing .running).setChanState 2 .held |>.chan 2).state ≠ .engage) ∧
    ((engaged.chan 2).state = .engage ∧
     (engaged.chan 2).engage = some { cue := some (ref 0), grantDt := 95000, endDt := 100000 }) := by decide

/-- R112, R164: an ENGAGE and a RELEASE of channel 2 with one fire time: the engage is granted and cut in the same step, both are reported
(codes 16 and 17), and the report line shows RELEASED, code 7, as it did before. -/
theorem test_engage_and_release_at_once :
    (let s := { (playing .running).setChanState 2 .released with
       fq := [entry (.engage (some (ref 0)) 2) 16000000 none 0, entry (.release (ref 1) 2) 16000000 none 1], fqSeq := 2 }
     after .fireTimeArrival s.reportAll (fun t => (t.chan 2).state == .released && t.fq == [] && t.slots == 0 &&
       Memory.read t.mem 0x1018 == 16 && Memory.read t.mem 0x1028 == 17 && Memory.read t.mem 0x550 == 7)) = true := by decide

/-- A waiting entry at exactly its skew expiry. -/
theorem witness_EntriesWaitForASlotAndExpire :
    (let e := entry (strikeWork 0) 16000000 none 0
     (queued e).queueNumbered ∧ e ∈ (queued e).fq ∧ (queued e).global.skew ≠ 0) ∧
    (let e := entry (strikeWork 0) 16000000 (some 97000) 0
     (queued e).fq.find? (fun x => match x.wait with
       | some d => reached (queued e).scu.dt (d + BitVec.ofNat 32 (queued e).global.skew)
       | none => false) = some e) ∧
    (let s := State.setChan (playing .running) 2 { (playing .running).chan 2 with standing := true }
     s.nrstLow = false ∧ (s.chan 2).standing = true ∧ s.fq.length < 96) := by decide

theorem witness_EntriesWaitForASlotAndExpire_zero_skew :
    (let s := { playing .running with perf := { (playing .running).perf with latch := some { latch with global := { global with skew := 0 } } } }
     s.global.skew = 0) := by decide

theorem witness_AResultIsWrittenAndItsEndCounted :
    (let p : Pass := { id := 0, block := 0x1000, outstanding := 1, readingDone := false }
     Memory.wf busy.mem = true ∧ (ref 14).loc.inBlock ∧ busy.passes.find? (fun e => e.id == (ref 14).pass) = some p ∧
     validBlockAddr p.block = true ∧ ∀ q ∈ busy.passes, q.id = (ref 14).pass → q = p) := by decide

theorem witness_APulseEndFreesItsSlotAndHeatsTheCoil :
    (busy.nrstLow = false ∧ (busy.chan 0).state = .drive ∧ (busy.chan 0).stroke = some (stroke 3500) ∧
     reached busy.scu.dt (stroke 3500).pulseEnd = true ∧ (busy.ccfg 0).sensePresent = true ∧ (stroke 3500).contact = none ∧
     (stroke 3500).resolved = false) ∧ (busy.ccfg 3).sensePresent = false := by decide

theorem witness_ARecoveryEndsInIdleCooldownOrFault :
    (let s := State.setChan (playing .running) 0 { (playing .running).chan 0 with state := .recover, recoveryEnd := 100000 }
     s.nrstLow = false ∧ (s.chan 0).state = .recover ∧ reached s.scu.dt (s.chan 0).recoveryEnd = true) := by decide

/-- A running performance with a stroke of channel 0 in FLIGHT, granted `ago` µs before the present 100,000 µs, and the
qualification of a contact at 99,500 µs on its line. -/
def struck (ago : DevTime) : State :=
  withStroke { playing .running with siu := { State.reset.siu with sns := State.reset.siu.sns.set 0 (edge false 500) } } 0 .flight
    (stroke ago)

/-- A contact on the last µs of its window, and one on the first µs after it. -/
theorem witness_AContactIsAHitOrAStray :
    reached (stroke 10500).windowClose 99500 = true ∧ reached (stroke 10501).windowClose 99500 = false := by decide

theorem witness_AContactIsAHitOrAStray_line :
    (struck 10500).siu.sns[(0 : ChanId)] =
      { settled := ((struck 10500).ccfg 0).senseFalling, qual := some { rawDt := 99500, holdStart := 99500, bounce := none } } ∧
    (struck 10500).nrstLow = false ∧ (struck 10500).perf.latch = some latch ∧
    reached (struck 10500).scu.dt (99500 + BitVec.ofNat 32 (struck 10500).global.contactFilter) = true := by decide

theorem witness_AContactIsAHitOrAStray_channel :
    ((struck 10500).ccfg 0).cls = .strike ∧ ((struck 10500).ccfg 0).sensePresent = true ∧ ((struck 10500).chan 0).state ≠ .off ∧
    (struck 10500).rehearsal = false ∧ reached 99500 (stroke 10500).windowOpen = true ∧
    reached 99500 (stroke 10500).grantDt = true := by decide

theorem witness_AContactIsAHitOrAStray_rehearsed :
    (let s := withStroke (playingIn .running .free true) 0 .drive (stroke 7000)
     s.nrstLow = false ∧ s.rehearsal = true ∧ (s.ccfg 0).cls = .strike ∧ (s.ccfg 0).sensePresent = true ∧
     (s.chan 0).stroke = some (stroke 7000) ∧ (stroke 7000).resolved = false ∧
     reached s.scu.dt ((stroke 7000).grantDt + BitVec.ofNat 32 (stroke 7000).lead) = true) := by decide

/-- A window settle at exactly its DT: the aim lies 31,000 µs after the onset, beyond a limit of 20,000 and within one of 31,000. -/
theorem witness_AWindowThatClosesWithoutContactIsDecided :
    (let s := withStroke (playing .running) 0 .flight (stroke 10500)
     let k := stroke 10500
     let aim : Int := s.scu.pt.toNat + 16 * (k.windowClose + BitVec.ofNat 32 (s.ccfg 0).recovery - s.scu.dt).toInt
     s.nrstLow = false ∧ (s.ccfg 0).sensePresent = true ∧ s.rehearsal = false ∧ (s.chan 0).stroke = some k ∧ k.resolved = false ∧
     k.contact = none ∧ (s.chan 0).state = .flight ∧
     reached s.scu.dt (k.windowClose + BitVec.ofNat 32 s.global.contactFilter) = true ∧ k.second = false ∧ k.restrikeOk = true ∧
     s.perf.endCause ≠ .stopped ∧ s.fq.length < 96 ∧ 16 * (s.global.restrikeLimit : Int) < aim - k.onset ∧
     aim - k.onset ≤ 16 * (31000 : Int)) := by decide

theorem witness_AnEngageEndsInItsHold :
    (let g : EngageRun := { cue := some (ref 0), grantDt := 95000, endDt := 100000 }
     let s := engaged
     let u := s.pulseOver 2 g.grantDt g.endDt
     s.nrstLow = false ∧ (s.chan 2).state = .engage ∧ (s.chan 2).engage = some g ∧ reached s.scu.dt g.endDt = true ∧
     (s.chan 2).holdWanted = true ∧ (u.chan 2).heat < (s.ccfg 2).hot) := by decide

theorem witness_AHeatEventDecaysTheHeat :
    (let s := State.setChan (playing .running) 2 { (playing .running).chan 2 with state := .held, heat := 64000, heatDue := 100000 }
     s.nrstLow = false ∧ reached s.scu.dt (s.chan 2).heatDue = true ∧
     65250 = (if (s.ccfg 2).cls = .hold ∧ (s.chan 2).state = .held ∧ s.rehearsal = false
       then min 65535 ((s.chan 2).heat + 10000 * (s.ccfg 2).holdDuty * (s.ccfg 2).gain / 65536) else (s.chan 2).heat) ∧
     63975 = 65250 - (65250 * (s.ccfg 2).cooling + 1023) / 1024 ∧ (s.ccfg 2).hot ≤ 63975) := by decide

theorem witness_ThePinsFollowTheState :
    ((playing .running).perf.state ≠ .idle ∧ (playing .running).perf.state ≠ .ended ∧ (playing .running).perf.state ≠ .frozen ∧
     (playing .running).csm.level ≠ .brown ∧ (playing .running).rehearsal = false ∧ (playing .running).nrstLow = false ∧
     (playing .running).siu.dflt = false) ∧ (playing .idle).perf.state = .idle := by decide

/-- VSENSE at the highest voltage that reads BROWN_ON, 120. -/
theorem witness_HousekeepingJudgesTheSupply :
    (let s := { playing .running with sched := { houseDue := 100000, reportDue := 200000 } }
     s.nrstLow = false ∧ reached s.scu.dt s.sched.houseDue = true ∧ Memory.wf s.mem = true ∧
     120 = min 255 (256 * 1181640 / 2500000)) := by decide

/-- A poll that finds the link END, and one that finds it WAIT. -/
theorem witness_HousekeepingJudgesTheSupply_link :
    (reading .linkWait .none).perf.state = .running ∧ (reading .linkWait .none).reader.state = .linkWait ∧
    (Memory.read (reading .linkWait .none).mem ((reading .linkWait .none).reader.block.toNat + 4)).toNat ≠ 2 ∧
    Memory.read (Memory.write staged 0x1004 2) 0x1004 = 2 := by decide

theorem witness_SupplyLevelChangesActOnEveryOutput :
    (let s := { busy with sched := { houseDue := 100000, reportDue := 200000 } }
     s.nrstLow = false ∧ reached s.scu.dt s.sched.houseDue = true ∧ s.perf.latch = some latch ∧ s.csm.level ≠ .brown ∧
     min 255 (256 * 1181640 / 2500000) ≤ latch.global.brownOn ∧ ∀ n, (s.chan n).fits (s.ccfg n).cls) := by decide

/-- The least reading that ends BROWN, 140, with a hold wanted and a full queue or an empty one; and the least that ends SAG, 176. -/
theorem witness_SupplyLevelChangesActOnEveryOutput_rises :
    (let s := State.setChan { playing .running with csm := { State.reset.csm with level := .brown } } 2
       { (playing .running).chan 2 with state := .released, holdWanted := true }
     s.nrstLow = false ∧ s.perf.latch = some latch ∧ s.csm.level = .brown ∧
     latch.global.brownOff ≤ min 255 (256 * 1367188 / 2500000) ∧ min 255 (256 * 1367187 / 2500000) < latch.global.brownOff ∧
     ¬(s.perf.state = .running ∧ s.reader.state = .linkWait) ∧ (s.ccfg 2).cls = .hold ∧ (s.chan 2).state = .released ∧
     (s.chan 2).holdWanted = true) ∧
    latch.global.brownOn < min 255 (256 * 1718750 / 2500000) ∧ latch.global.sagOff ≤ min 255 (256 * 1718750 / 2500000) := by
  decide

/-- R114, R62: BROWN ends with a hold wanted: its re-engage joins an empty queue, and stands where the queue is full. -/
theorem test_brown_ends :
    (let s := State.setChan { playing .running with
         csm := { State.reset.csm with level := .brown }, sched := { houseDue := 100000, reportDue := 200000 } } 2
       { (playing .running).chan 2 with state := .released, holdWanted := true }
     after (.housekeepingEvent 1367188) s (fun t => t.csm.level == .sag && t.fq.length == 1 && !(t.chan 2).standing) &&
     after (.housekeepingEvent 1367188) { s with fq := List.replicate 96 (entry (strikeWork 0) 99000000 none 0) }
       (fun t => t.csm.level == .sag && t.fq.length == 96 && (t.chan 2).standing)) = true := by decide

/-- Log entry 34: a re-engage asked while an older request of the channel stands and there is room: one entry, and no request stands. -/
theorem test_requestReengage :
    (let s := State.setChan (playing .running) 2 { (playing .running).chan 2 with state := .released, holdWanted := true, standing := true }
     (s.requestReengage 2).fq.length == 1 && !((s.requestReengage 2).chan 2).standing) = true := by decide

theorem witness_TheReportEventWritesEveryChannel :
    (let s := { busy with sched := { houseDue := 101000, reportDue := 100000 } }
     s.nrstLow = false ∧ reached s.scu.dt s.sched.reportDue = true ∧ Memory.wf s.mem = true) := by decide

/-- A rotor that turns, with a command, a rate, a target and a search, its rate event due now. -/
def turning (x : RotorState) (c : RotorCmd) (rate target : Nat) (search : Option Nat) : State :=
  { playing .running with rot := { Rotor.atPowerOn with
      state := x, cmd := some c, rate := rate, target := target, search := search, rateDue := 100000, nextStep := some 100000
      owed := some { block := 0x1000, slot := 4 } } }

/-- A rotor with a cue pending, in and out of rehearsal, and a RESTRIKE whose cancelling is the third miss. -/
theorem witness_StopEndsTheReadingAndEmptiesTheQueues_rotor :
    (let s := turning .running (.fixed 300) 200 300 none
     let l : CueLoc := { block := 0x1000, slot := 4 }
     s.nrstLow = false ∧ s.perf.state = .running ∧ s.rot.state = .running ∧ s.rehearsal = false ∧
     s.rot.owed = some l ∧ s.rot.cmd ≠ some .park ∧ l.inBlock ∧ Memory.wf s.mem = true) ∧
    (turning .parking .park 200 200 none).rot.state ≠ .running ∧ (playingIn .running .free true).rehearsal = true ∧
    (let s := { queued (entry (.restrike { cue := ref 0, chan := 0, width := 5444, lead := 8349, rerouted := false }) 16000000 none 0) with
       chans := (playing .running).chans.set 0 { (playing .running).chan 0 with state := .idle, misses := 2 } }
     s.perf.state = .running ∧ (s.ccfg 0).cls ≠ .hold ∧ (s.chan 0).state = .idle ∧
     s.global.missLimit ≤ min 15 ((s.chan 0).misses + (s.fq.filter fun e => match e.work with
       | .restrike w => decide (w.chan = 0)
       | _ => false).length)) := by decide

/-- R94, R104, R123: that STOP faults the channel, CANCELS the rotor's cue (code 5) and parks the rotor. -/
theorem test_stop :
    (let s := { turning .running (.fixed 300) 200 300 none with
       fq := [entry (.restrike { cue := ref 0, chan := 0, width := 5444, lead := 8349, rerouted := false }) 16000000 none 0]
       chans := (playing .running).chans.set 0 { (playing .running).chan 0 with state := .idle, misses := 2 } }
     after .stop s (fun t => (t.chan 0).state == .faulted && t.rot.state == .parking && t.rot.owed == none &&
       Memory.read t.mem 0x1058 == 5)) = true := by decide

theorem witness_ARateEventMovesTheRateTowardItsTarget :
    (let s := turning .running (.fixed 300) 200 300 none
     s.nrstLow = false ∧ reached s.scu.dt s.rot.rateDue = true ∧ s.rot.search = none ∧ s.csm.level ≠ .brown ∧
     300 = (if s.rot.rate < s.rot.target then min s.rot.target (s.rot.rate + s.global.acceleration)
       else max s.rot.target (s.rot.rate - s.global.acceleration))) ∧
    (let s := turning .running .off 100 0 none
     0 = (if s.rot.rate < s.rot.target then min s.rot.target (s.rot.rate + s.global.acceleration)
       else max s.rot.target (s.rot.rate - s.global.acceleration))) ∧
    (let s := turning .parking .park 100 200 none
     s.rot.cmd = some .park ∧ s.rot.state = .parking ∧ s.global.parkRate =
       (if s.rot.rate < s.rot.target then min s.rot.target (s.rot.rate + s.global.acceleration)
       else max s.rot.target (s.rot.rate - s.global.acceleration))) ∧
    (let s := { turning .running (.beat 1) 0 0 none with csm := { State.reset.csm with level := .brown } }
     s.nrstLow = false ∧ reached s.scu.dt s.rot.rateDue = true ∧ s.rot.search = none ∧ s.rot.state = .running ∧
     s.csm.level = .brown ∧ s.rot.cmd = some (.beat 1) ∧ s.rot.rate = s.rot.target) := by decide

/-- With 200 steps a revolution the search ends at its 225th step. -/
theorem witness_TheRotorStepsAndFindsItsHome :
    (∀ c ∈ [223, 224], (let s := turning .parking .park 200 200 (some c)
      s.nrstLow = false ∧ s.rot.nextStep = some 100000 ∧ reached s.scu.dt 100000 = true ∧ s.rot.search = some c ∧
      (c + 1 < s.global.stepsPerRev + s.global.stepsPerRev / 8 ↔ c = 223))) ∧
    (let s := { turning .parking .park 200 200 (some 7) with siu := { State.reset.siu with home := edge false 1000 } }
     s.perf.latch = some latch ∧
     s.siu.home = { settled := latch.global.homeFalling, qual := some { rawDt := 99000, holdStart := 99000, bounce := none } } ∧
     reached s.scu.dt (99000 + 1000) = true) := by decide

theorem witness_ARotorCommandReplacesTheLast :
    ((turning .running .off 100 0 none).rot.state = .running ∧ (turning .running .off 100 0 none).rot.rate ≠ 0) ∧
    ((turning .running .off 0 0 none).rot.rate = 0) ∧ ((turning .parked .park 0 0 none).rot.state = .parked) ∧
    ((turning .stopped .park 0 0 none).rot.state ≠ .parked ∧ (turning .stopped .park 0 0 none).rehearsal = false) ∧
    (playingIn .running .free true).rehearsal = true := by decide

theorem witness_ADrainParksTheRotorAndCompletes :
    (let s := { playing .draining with rot := { Rotor.atPowerOn with state := .running } }
     s.nrstLow = false ∧ s.perf.state = .draining ∧ s.fq = [] ∧ s.rot.owed = none ∧ s.rot.state = .running) ∧
    (let s := playing .draining
     s.nrstLow = false ∧ s.perf.state = .draining ∧ s.fq = [] ∧ s.scu.agenda = [] ∧ s.passes = [] ∧
     (∀ n, (s.chan n).stroke = none ∧ (s.chan n).engage = none ∧ (s.chan n).state ≠ .engage) ∧
     (s.rot.state = .parked ∨ s.rot.state = .stopped ∨ s.rot.state = .homeFault)) := by decide

theorem witness_SamplesMoveFiltersAndQualifiersAlone :
    (let s := { playing .running with siu := { State.reset.siu with
        cuei := edge true 1000, dfltSeen := true
        synci := { settled := false, qual := some { rawDt := 98000, holdStart := 98000, bounce := some 99000 } } } }
     s.nrstLow = false ∧ (s.filter .cuei).qual = some { rawDt := 99000, holdStart := 99000, bounce := none } ∧
     reached s.scu.dt ((99000 : DevTime) + BitVec.ofNat 32 (s.filterTime .cuei)) = true ∧ s.delivers .cuei = false ∧
     (s.filter .synci).qual = some { rawDt := 98000, holdStart := 98000, bounce := some 99000 } ∧
     reached s.scu.dt ((99000 : DevTime) + BitVec.ofNat 32 (s.filterTime .synci)) = true ∧ s.siu.dfltSeen = true) := by decide

/-- R124: a quiet request taken in ENDED leaves no parked rotor. -/
theorem test_quietRequest_at_rest :
    (let s := turning .parked .park 0 0 none
     after .quietRequest { s with perf := { s.perf with state := .ended }, siu := { s.siu with quiet := .qualifying 50000 } }
       (fun t => t.perf.state == .frozen && t.rot.state == .stopped && Memory.read t.mem 0x1058 == 6)) = true := by decide

theorem witness_AQuietRequestOrDfltFreezesThePerformance :
    (∀ x ∈ [PerfState.running, .ended, .frozen],
      (let s := { playing x with siu := { State.reset.siu with quiet := .qualifying 50000 } }
       s.nrstLow = false ∧ s.siu.quiet = .qualifying 50000 ∧ reached s.scu.dt (50000 + 50000) = true ∧ s.siu.dfltSeen = false ∧
       Memory.wf s.mem = true ∧ s.perf.state = x)) ∧
    (∀ l, (turning .parked .park 0 0 none).rot.owed = some l → l.inBlock) ∧
    PerfState.plays .running ∧ ¬PerfState.plays .ended ∧ Memory.read (playing .idle).mem 0x70 ≠ 1 ∧
    Memory.read [(0x70, 1)] 0x70 = 1 := by decide

/-- A playing performance that refers to block space alone, with the fault record EMPTY and HELD. -/
theorem witness_AQuietRequestOrDfltFreezesThePerformance_record :
    busy.nrstLow = false ∧ busy.siu.dfltSeen = false ∧ Memory.wf busy.mem = true ∧ busy.perf.state.plays ∧ busy.refsInBlocks ∧
    Memory.read busy.mem 0x70 ≠ 1 ∧ Memory.read (busy.poke 0x70 [1]).mem 0x70 = 1 ∧ Memory.wf (busy.poke 0x70 [1]).mem = true :=
  ⟨by decide, by decide, by decide, by decide, busy_refs, by decide, by decide, by decide⟩

theorem witness_LoadingChecksTheConfiguration :
    loading.loadingError = none ∧ loading.perf.lock = false ∧
    ({ loading with mem := [] } : State).loadingError = some { block := 0x100, slot := 0, detail := .cfgSupplyThresholds } ∧
    ({ loading with mem := [] } : State).nrstLow = false ∧ ({ loading with mem := [] } : State).perf.state = .loading ∧
    Memory.wf ({ loading with mem := [] } : State).mem = true ∧ loading.perf.staged = [] ∧ validBlockAddr loading.stagedStart = true ∧
    (byteAt (Memory.readBytes loading.mem 0x140 16) 0).toNat % 4 = 1 ∧
    validMapAddr (readChannel (Memory.readBytes loading.mem 0x140 16)).mapAddr = true ∧
    325 ≤ (List.replicate 325 ([] : List Byte)).length := by decide

theorem witness_ASuccessfulLoadingStartsThePerformance :
    loading.nrstLow = false ∧ loading.perf.state = .loading ∧ loading.loadingError = none ∧ loading.passes = [] ∧
    0 < (Memory.read loading.mem (loading.stagedStart.toNat + 2)).toNat ∧
    readCue (Memory.readBytes loading.mem (loading.stagedStart.toNat + 16) 16) = some markCue := by decide

/-- The start block as it stands at completion: its signature gone, a slot 0 without a cue, and no cues with an END or a WAIT link. -/
theorem witness_ASuccessfulLoadingStartsThePerformance_start_block :
    leNat (Memory.readBytes (Memory.write staged 0x1000 0) 0x1000 2) ≠ 0x5A43 ∧
    readCue (Memory.readBytes (Memory.write staged 0x1010 0) 0x1010 16) = none ∧
    (∀ kind ∈ [(1 : Byte), 2],
      (let s := { loading with mem := (Memory.write staged 0x1002 0).write 0x1004 kind }
       s.nrstLow = false ∧ s.perf.state = .loading ∧ s.loadingError = none ∧ s.passes = [] ∧
       (Memory.read s.mem (s.stagedStart.toNat + 2)).toNat = 0 ∧ Memory.read s.mem (s.stagedStart.toNat + 4) = kind)) := by decide

/-- Slot 2 of 3 is the last, slot 1 is not; the link bytes choose the rest. -/
theorem witness_TheReaderGoesOnAsTheChainSays :
    (reading .reading .none).reader.count ≤ (reading .reading .none).reader.slot + 1 ∧
    (1 + 1 < (reading .reading .none).reader.count) ∧
    (Memory.read (reading .reading .none).mem ((reading .reading .none).reader.block.toNat + 4)).toNat = 1 ∧
    (∀ kind ∈ [(2 : Byte), 3], Memory.read (Memory.write staged 0x1004 kind) 0x1004 = kind) ∧
    validBlockAddr 0x1000 = true ∧ validBlockAddr 0x0F00 = false ∧ validBlockAddr 0xFF00 = true ∧
    leNat (Memory.readBytes staged 0x1000 2) = 0x5A43 ∧ leNat (Memory.readBytes staged 0xFF00 2) ≠ 0x5A43 ∧
    0 < (Memory.read staged 0x1002).toNat ∧ (Memory.read staged 0x1002).toNat ≤ 15 ∧
    (∀ p ∈ (reading .reading .none).passes, validBlockAddr p.block = true) ∧
    readCue (Memory.readBytes staged 0x1010 16) = some markCue ∧
    readCue (Memory.readBytes (Memory.write staged 0x1010 0) 0x1010 16) = none ∧
    Memory.read (Memory.write staged 0x1002 0) 0x1002 = 0 ∧ 15 < (Memory.read (Memory.write staged 0x1002 16) 0x1002).toNat := by
  decide

/-- An onset exactly at the horizon. -/
theorem witness_APendingCueIsAdmittedStalledOrRefused :
    (let s := { reading .horizon (.cue markCue) with scu := { (playing .running).scu with cond := .scheduled 17600000 } }
     s.nrstLow = false ∧ s.perf.state = .running ∧ s.reader.state = .horizon ∧ s.reader.pending = .cue markCue ∧
     s.cueOnset markCue = some 17600000 ∧ (17600000 : Int) ≤ s.scu.pt.toNat + 16000 * (s.global.lookAhead : Int)) ∧
    (let s := reading .stalled (.cue markCue)
     s.reader.state = .stalled ∧ s.cueOnset markCue = some 16000000 ∧ s.pendingRoom = true) ∧
    (let s := reading .stalled (.entry 0x1000)
     s.reader.pending = .entry 0x1000 ∧ s.passes.length < 8) ∧
    (let s := reading .horizon .none
     (playingIn .running .free true).rehearsal = true ∧ s.chanOf 64 .strike = none ∧ s.chanOf 2 .strike = none ∧ s.chanOf 0 .strike = some 0 ∧ s.chanOf 2 .hold = some 2 ∧
     s.fq.length < 96 ∧ s.scu.agenda.length < 4) ∧
    96 ≤ (List.replicate 96 (entry (strikeWork 0) 99000000 none 0)).length ∧
    4 ≤ (List.replicate 4 ({ onset := 0, cue := ref 1, body := .tempo 40000 4 } : AgendaEntry)).length := by decide

/-- R29, R30: a STRIKE cue with 96 entries in the fire queue and a HOLDPOINT cue with 4 in the agenda stall the reader. -/
theorem test_stalls :
    (let strike : Cue := { body := .strike 0 90 0 true, delta := 0 }
     let point : Cue := { body := .holdpoint true true 1 20, delta := 0 }
     let r (c : Cue) := reading .horizon (.cue c)
     after .horizonPassed { r strike with fq := List.replicate 96 (entry (strikeWork 0) 99000000 none 0) } (fun t => t.reader.state == .stalled) &&
     after .horizonPassed { r point with scu := { (r point).scu with
       agenda := List.replicate 4 { onset := 9, cue := ref 1, body := .tempo 40000 4 } } } (fun t => t.reader.state == .stalled)) = true := by
  decide

/-- R95, R107: a STRIKE cue on a channel that is none is REFUSED, code 7, with the REHEARSED bit in rehearsal. -/
theorem test_refused_strike_rehearsed :
    (let c : Cue := { body := .strike 64 90 0 true, delta := 0 }
     after .horizonPassed { reading .horizon (.cue c) with perf := (playingIn .running .free true).perf }
       (fun t => Memory.readBytes t.mem 0x1038 8 == [7, 32, 0, 0, 0, 0, 0, 0])) = true := by decide

theorem witness_MapAndRepeatCuesAreTakenAtAdmission :
    (let s := reading .horizon .none
     let f : Frame := { cue := s.cueLoc, target := 0x1000, remaining := 2 }
     s.chanOf 0 .strike = some 0 ∧ (s.ccfg 0).pinned = false ∧
     ({ s.reader with stack := [f] } : Reader).stack = f :: [] ∧ f.cue = s.cueLoc ∧ 1 < f.remaining ∧ s.reader.stack.length < 4 ∧
     s.passes.length < 8 ∧ validBlockAddr 0x1000 = true) ∧
    validateMap 0x741 mapRecord = .error (.address, 0) :=
  ⟨by decide, by rfl⟩

theorem witness_TheIdentityLineNeverChanges :
    Memory.wf busy.mem = true ∧ busy.refsInBlocks ∧ (∃ t, exec .pause busy = .next t) ∧ identityShows busy.mem :=
  ⟨by decide, busy_refs, busy_pause, by decide⟩

theorem witness_ThePartWritesOnlyItsOwnBytes :
    Memory.wf busy.mem = true ∧ busy.refsInBlocks ∧ (∃ t, exec .pause busy = .next t) ∧ (∀ a data, Instr.pause ≠ .memWrite a data) ∧
    ∀ i, Instr.pause ≠ .powerOnReset i :=
  ⟨by decide, busy_refs, busy_pause, fun _ _ => Instr.noConfusion, fun _ => Instr.noConfusion⟩

theorem witness_EveryReferenceStaysInBlockSpace : busy.refsInBlocks ∧ ∃ t, exec .pause busy = .next t := ⟨busy_refs, busy_pause⟩

theorem witness_ThePublishedStatusShowsTheState :
    Memory.wf busy.mem = true ∧ busy.refsInBlocks ∧ busy.snapshotShows ∧ busy.tableShows ∧ ∃ t, exec .pause busy = .next t :=
  ⟨by decide, busy_refs, by decide, by decide, busy_pause⟩

theorem witness_EveryStepKeepsTheRanges :
    (∃ t, exec .pause busy = .next t) ∧ busy.fits ∧ busy.queueNumbered ∧ fqOrdered busy.fq ∧ busy.trimsLatched ∧
    (∀ n, (busy.chan n).inRange) ∧ busy.periodsOk :=
  ⟨busy_pause, ⟨by decide, by decide, by decide, by decide⟩, by decide, by decide, by decide, by decide,
    ⟨by decide, by decide, by decide, by decide, by decide⟩⟩

theorem witness_EveryStepKeepsHoldpointsAndPerformanceInAgreement : busy.scoreOk ∧ ∃ t, exec .pause busy = .next t :=
  ⟨busy_scoreOk, busy_pause⟩

theorem witness_FullDriveNeverExceedsTheSlots : busy.driveOk ∧ ∃ t, exec .pause busy = .next t := ⟨busy_driveOk, busy_pause⟩

end Sys2Proof.Tests
end

namespace Sys2Proof.Machine
open Sys2Proof

/-! ### What a step can answer

One rule for each way in which a command is taken. -/

/-- An event inside the part does nothing, or it is due with nRST high and its changes are published. -/
theorem onEvent_next {due : Bool} {f : State → State} {s t : State} (h : onEvent due f s = .next t) :
    t = s ∨ s.nrstLow = false ∧ due = true ∧ t = publish s (f s) := by
  unfold onEvent at h
  split at h
  next taken =>
    simp only [Bool.and_eq_true, Bool.not_eq_true'] at taken
    cases h
    exact .inr ⟨taken.1, taken.2, rfl⟩
  next => cases h; exact .inl rfl

/-- A command of CONTROL is ignored in reset; otherwise it is recorded, and acts where its verdict is ACCEPTED. -/
theorem onControl_next {code : Byte} {verdict : State → CmdOutcome} {f : State → State} {s t : State}
    (h : onControl code verdict f s = .next t) :
    t = s ∨ (∃ p r, t = publish s (State.setRegs { s with port := p } r)) ∨
      verdict s = .accepted ∧ ∃ p r, t = publish s ((f { s with port := p }).setRegs r) := by
  simp only [onControl, onGroup, onPort] at h
  split at h
  next => cases h; exact .inl rfl
  next =>
    rw [State.shiftGroup_eq] at h
    injection h with h
    cases hv : verdict s <;> rw [hv] at h
    case accepted => exact .inr (.inr ⟨rfl, _, _, h.symm⟩)
    all_goals exact .inr (.inl ⟨_, _, h.symm⟩)

/-- A transaction is ignored in reset. -/
theorem onPort_next {f : State → State} {s t : State} (h : onPort f s = .next t) : t = s ∨ t = f s := by
  unfold onPort at h
  split at h <;> cases h
  · exact .inl rfl
  · exact .inr rfl

/-- A group of a register write is ignored in reset; otherwise it acts after the port has taken its bytes. -/
theorem onGroup_next {r : BitVec 2} {f : State → State} {s t : State} (h : onGroup r f s = .next t) :
    t = s ∨ ∃ p, t = f { s with port := p } :=
  (onPort_next h).imp_right fun e => ⟨_, e.trans (congrArg f (s.shiftGroup_eq r))⟩

/-- A sample is ignored in reset. -/
theorem onSample_next {f : State → State} {s t : State} (h : onSample f s = .next t) :
    t = s ∨ t = publish s (f s) := by
  unfold onSample at h
  split at h <;> cases h
  · exact .inl rfl
  · exact .inr rfl

/-- An event on a schedule of DT does nothing where it is not due; its schedule moves on in reset too (log entry 5). -/
theorem scheduled_next {due low : Bool} {s m x t : State}
    (h : (if due = true then if low = true then .next m else .next x else .next s : Answer) = .next t) :
    t = s ∨ t = m ∨ t = x := by
  split at h
  next => split at h <;> cases h <;> simp
  next => cases h; exact .inl rfl

theorem powerOnReset_next {i : InputLevels} {s t : State} (h : exec (.powerOnReset i) s = .next t) :
    t = (s.powerOn i).initStatusArea := (Host.Outcome.next.inj h).symm

theorem pinReset_next {i : InputLevels} {s t : State} (h : exec (.pinReset i) s = .next t) :
    t = (s.pinRelease i).initStatusArea := (Host.Outcome.next.inj h).symm

/-! ### The clocks and the configuration -/

/-- Two states with the same clocks, latched configuration, lock, supply level and active maps. -/
structure State.configKept (s t : State) : Prop where
  dt    : t.scu.dt = s.scu.dt
  pt    : t.scu.pt = s.scu.pt
  latch : t.perf.latch = s.perf.latch
  lock  : t.perf.lock = s.perf.lock
  level : t.csm.level = s.csm.level
  maps  : t.maps = s.maps

theorem State.configKept_refl (s : State) : s.configKept s := ⟨rfl, rfl, rfl, rfl, rfl, rfl⟩

theorem onControl_configKept {code : Byte} {verdict : State → CmdOutcome} {f : State → State} {s t : State}
    (hf : ∀ u : State, u.configKept (f u)) (h : onControl code verdict f s = .next t) : s.configKept t := by
  rcases onControl_next h with rfl | ⟨p, r, rfl⟩ | ⟨-, p, r, rfl⟩
  · exact t.configKept_refl
  · constructor <;> simp
  · have := hf { s with port := p }
    constructor <;> simp [this.dt, this.pt, this.latch, this.lock, this.level, this.maps]

theorem onEvent_configKept {due : Bool} {f : State → State} {s t : State}
    (hf : ∀ u : State, u.configKept (f u)) (h : onEvent due f s = .next t) : s.configKept t := by
  rcases onEvent_next h with rfl | ⟨-, -, rfl⟩
  · exact t.configKept_refl
  · have := hf s
    constructor <;> simp [this.dt, this.pt, this.latch, this.lock, this.level, this.maps]

/-- The commands that may move a clock other than by time passing, or change the configuration. -/
def changesConfig : Instr → Bool
  | .lockConfig => true
  | .perfReset => true
  | .powerOnReset _ => true
  | .pinReset _ => true
  | .housekeepingEvent _ => true
  | .loadingComplete => true
  | .horizonPassed => true
  | .stallReleased => true
  | _ => false

/-- Every other command keeps the clocks and the configuration. -/
theorem exec_configKept {c : Instr} {s t : State} (hc : changesConfig c = false) (h : exec c s = .next t) :
    s.configKept t := by
  have same := s.configKept_refl
  cases c
  case lockConfig | perfReset | powerOnReset | pinReset | housekeepingEvent | loadingComplete | horizonPassed |
      stallReleased => simp [changesConfig] at hc
  all_goals simp only [exec] at h
  case start | pause | resume | stop | cont | clear | clearChannel =>
    exact onControl_configKept (fun u => by constructor <;> simp) h
  case unknownCommand =>
    unfold execUnknownCommand at h
    split at h
    · cases h
    · exact onControl_configKept State.configKept_refl h
  case attnFlagsWrite | attnEnableWrite =>
    rcases onGroup_next h with rfl | ⟨p, rfl⟩ <;> constructor <;> simp
  case statusWriteIgnored w =>
    unfold execStatusWriteIgnored at h
    split at h
    · cases w
      case status => rcases onGroup_next h with rfl | ⟨p, rfl⟩ <;> constructor <;> simp
      all_goals rcases onPort_next h with rfl | rfl <;> constructor <;> simp
    · cases h
  case memRead | memWrite | regRead =>
    rcases onPort_next h with rfl | rfl <;> constructor <;> simp
  case unknownInstruction =>
    unfold execUnknownInstruction at h
    split at h
    · rcases onPort_next h with rfl | rfl <;> constructor <;> simp
    · cases h
  case nrstAssertion => cases h; constructor <;> simp
  case heatEvent | reportEvent | rotorRateEvent =>
    rcases scheduled_next h with rfl | rfl | rfl <;> constructor <;> simp
  case quietQualifierChange | dfltAssertion | dfltDeassertion | lineTransition =>
    rcases onSample_next h with rfl | rfl <;> constructor <;> simp
  all_goals exact onEvent_configKept (fun u => by constructor <;> simp) h

/-- PT is where it was, or 0 for the new performance. -/
theorem State.loadingCompletes_pt (s : State) :
    s.loadingCompletes.scu.pt = s.scu.pt ∨ s.loadingCompletes.scu.pt = 0 := by
  unfold State.loadingCompletes
  split
  · left; simp
  · right; simp [State.loadingSucceeds, State.startReader, State.startScore]

/-- DT stands still in a step, or a power-on reset sets it to 0. -/
theorem exec_dt {c : Instr} {s t : State} (h : exec c s = .next t) :
    t.scu.dt = s.scu.dt ∨ (∃ i, c = .powerOnReset i) ∧ t.scu.dt = 0 := by
  by_cases hc : changesConfig c = false
  · exact .inl (exec_configKept hc h).dt
  cases c <;> simp only [changesConfig, not_true_eq_false] at hc
  all_goals simp only [exec] at h
  case lockConfig | perfReset =>
    left; rcases onControl_next h with rfl | ⟨p, r, rfl⟩ | ⟨-, p, r, rfl⟩ <;> simp [State.perfReset, State.perfCleared]
  case powerOnReset i => right; rw [powerOnReset_next h]; exact ⟨⟨i, rfl⟩, by simp [Scu.atPowerOn]⟩
  case pinReset => left; rw [pinReset_next h]; simp
  case housekeepingEvent => left; rcases scheduled_next h with rfl | rfl | rfl <;> simp
  all_goals left; rcases onEvent_next h with rfl | ⟨-, -, rfl⟩ <;> simp

/-- PT stands still in a step, or a reset or a completed LOADING sets it to 0. -/
theorem exec_pt {c : Instr} {s t : State} (h : exec c s = .next t) :
    t.scu.pt = s.scu.pt ∨ (c = .loadingComplete ∨ c = .perfReset ∨ isFullReset c = true) ∧ t.scu.pt = 0 := by
  by_cases hc : changesConfig c = false
  · exact .inl (exec_configKept hc h).pt
  cases c <;> simp only [changesConfig, not_true_eq_false] at hc
  all_goals simp only [exec] at h
  case lockConfig =>
    left; rcases onControl_next h with rfl | ⟨p, r, rfl⟩ | ⟨-, p, r, rfl⟩ <;> simp
  case perfReset =>
    rcases onControl_next h with rfl | ⟨p, r, rfl⟩ | ⟨-, p, r, rfl⟩
    · exact .inl rfl
    · left; simp
    · right; simp [State.perfReset, State.perfCleared, Scu.atPowerOn]
  case powerOnReset => right; rw [powerOnReset_next h]; simp [isFullReset, Scu.atPowerOn]
  case pinReset => right; rw [pinReset_next h]; simp [isFullReset, Scu.atPowerOn]
  case housekeepingEvent => left; rcases scheduled_next h with rfl | rfl | rfl <;> simp
  case loadingComplete =>
    rcases onEvent_next h with rfl | ⟨-, -, rfl⟩
    · exact .inl rfl
    · simpa using s.loadingCompletes_pt
  all_goals left; rcases onEvent_next h with rfl | ⟨-, -, rfl⟩ <;> simp

/-- Only a LOADING changes the latch, only LOCK_CONFIG the lock, only housekeeping the supply level, and only an admitted
cue or a LOADING the active maps, but for the two full resets. -/
theorem exec_configuration {c : Instr} {s t : State} (h : exec c s = .next t) (hr : isFullReset c = false) :
    (c ≠ .loadingComplete → t.perf.latch = s.perf.latch) ∧ (c ≠ .lockConfig → t.perf.lock = s.perf.lock) ∧
    ((∀ v, c ≠ .housekeepingEvent v) → t.csm.level = s.csm.level) ∧
    (c ≠ .loadingComplete → c ≠ .horizonPassed → c ≠ .stallReleased → t.maps = s.maps) := by
  by_cases hc : changesConfig c = false
  · have same := exec_configKept hc h
    exact ⟨fun _ => same.latch, fun _ => same.lock, fun _ => same.level, fun _ _ _ => same.maps⟩
  cases c <;> simp only [changesConfig, not_true_eq_false] at hc
  all_goals simp only [exec] at h
  case lockConfig | perfReset =>
    rcases onControl_next h with rfl | ⟨p, r, rfl⟩ | ⟨-, p, r, rfl⟩ <;> simp [State.perfReset, State.perfCleared]
  case powerOnReset | pinReset => simp [isFullReset] at hr
  case housekeepingEvent => rcases scheduled_next h with rfl | rfl | rfl <;> simp
  all_goals rcases onEvent_next h with rfl | ⟨-, -, rfl⟩ <;> simp

/-- Settles O4: command by command, by the frame of each command's effect. -/
theorem clocksAndConfigurationChangeOnlyWhereTheSpecSays :
    Obligations.ClocksAndConfigurationChangeOnlyWhereTheSpecSays := by
  unfold Obligations.ClocksAndConfigurationChangeOnlyWhereTheSpecSays
  exact ⟨fun _ _ _ h => ⟨exec_dt h, exec_pt h⟩, fun _ _ _ => exec_configuration⟩

end Sys2Proof.Machine

namespace Sys2Proof.Machine
open Sys2Proof

/-! ### Agreement of performance, agenda, reader and staging copy -/

/-- The agreement is about the performance, the agenda, the current tick's condition and the reader's state. -/
theorem State.scoreOk.of_eq {s t : State} (h : s.scoreOk) (hp : t.perf = s.perf)
    (ha : t.scu.agenda = s.scu.agenda) (hc : t.scu.cond = s.scu.cond) (hr : t.reader.state = s.reader.state) :
    t.scoreOk := by
  obtain ⟨h1, h2, h3, h4, h5, h6, h7⟩ := h
  have hw : t.holdpointWaits = s.holdpointWaits := by simp only [State.holdpointWaits, ha]
  constructor <;> simpa only [hp, ha, hc, hr, hw]

/-- A step whose changes agree agrees: publication changes cue memory alone. -/
theorem State.scoreOk.publish {b s : State} (h : s.scoreOk) : (publish b s).scoreOk :=
  h.of_eq (by simp) (by simp) (by simp) (by simp)

theorem onEvent_scoreOk {due : Bool} {f : State → State} {s t : State} (h : onEvent due f s = .next t)
    (hs : s.scoreOk) (hf : due = true → (f s).scoreOk) : t.scoreOk := by
  rcases onEvent_next h with rfl | ⟨-, hd, rfl⟩
  · exact hs
  · exact (hf hd).publish

theorem onControl_scoreOk {code : Byte} {verdict : State → CmdOutcome} {f : State → State} {s t : State}
    (h : onControl code verdict f s = .next t) (hs : s.scoreOk)
    (hf : ∀ p, verdict s = .accepted → (f { s with port := p }).scoreOk) : t.scoreOk := by
  rcases onControl_next h with rfl | ⟨p, r, rfl⟩ | ⟨hv, p, r, rfl⟩
  · exact hs
  · exact hs.of_eq (by simp) (by simp) (by simp) (by simp)
  · exact (hf p hv).of_eq (by simp) (by simp) (by simp) (by simp)

/-! #### States that agree because nothing waits -/

/-- With an empty agenda only the staging copy and what a pause remembers are left to agree. -/
theorem scoreOk_of_agenda_nil {t : State} (ha : t.scu.agenda = []) (hold : t.perf.state ≠ .holding)
    (paused : t.perf.state = .paused → t.perf.prior = some .draining)
    (staged : t.perf.state ≠ .loading → t.perf.staged = []) : t.scoreOk where
  paused h := ⟨.draining, paused h, rfl⟩
  rest _ := ha
  staged := staged
  reader h := by simp [State.holdpointWaits, ha] at h
  last := by simp [ha]
  draining _ := by simp [State.holdpointWaits, ha]
  holding h := by
    rcases h with h | ⟨h, hp⟩
    · exact absurd h hold
    · simp [paused h] at hp

/-- RUNNING or DRAINING with no holdpoint waiting. -/
structure State.playsOn (s : State) : Prop where
  state    : s.perf.state = .running ∨ s.perf.state = .draining
  staged   : s.perf.staged = []
  noHold   : s.holdpointWaits = false

theorem State.playsOn.scoreOk {s : State} (h : s.playsOn) : s.scoreOk where
  paused hp := by rcases h.state with e | e <;> simp [e] at hp
  rest hr := by rcases h.state with e | e <;> simp [e, PerfState.resting] at hr
  staged _ := h.staged
  reader hw := by simp [h.noHold] at hw
  last e he := by
    have := h.noHold
    simp only [State.holdpointWaits, List.any_eq_false, Bool.not_eq_true] at this
    exact this e (List.dropLast_subset _ he)
  draining _ := h.noHold
  holding hh := by rcases h.state with e | e <;> simp [e] at hh

/-- While the reader is not HELD no holdpoint waits (R33). -/
theorem State.scoreOk.playsOn {s : State} (h : s.scoreOk) (hp : s.perf.state = .running)
    (hr : s.reader.state ≠ .held) : s.playsOn where
  state := .inl hp
  staged := h.staged (by simp [hp])
  noHold := by
    by_contra hw
    exact hr (h.reader (by simpa using hw))

/-! #### Reading

The reader ends in DRAINING where it comes to the end of the chain or to a fault, and otherwise leaves the
performance state. -/

/-- The performance before and after the reader has gone on. -/
def Perf.readsTo (a b : Perf) : Prop := b.staged = a.staged ∧ (b.state = a.state ∨ b.state = .draining)

theorem Perf.readsTo_refl (a : Perf) : a.readsTo a := ⟨rfl, .inl rfl⟩

theorem Perf.readsTo.trans {a b c : Perf} (h : a.readsTo b) (k : b.readsTo c) : a.readsTo c :=
  ⟨k.1.trans h.1, k.2.elim (fun e => h.2.elim (fun e' => .inl (e.trans e')) fun e' => .inr (e.trans e')) .inr⟩

theorem State.chainFault_readsTo (s : State) (d : FaultDetail) (b : Addr) (i k : Nat) :
    s.perf.readsTo (s.chainFault d b i k).perf := by
  simp [Perf.readsTo, State.chainFault, State.enterDraining]

theorem State.takeEnd_readsTo (s : State) : s.perf.readsTo s.takeEnd.perf := by
  simp [Perf.readsTo, State.takeEnd, State.enterDraining]

theorem State.readSlot_readsTo (s : State) (k : Nat) : s.perf.readsTo (s.readSlot k).perf := by
  simp only [State.readSlot]
  split
  · exact Perf.readsTo_refl _
  · exact s.chainFault_readsTo _ _ _ _

theorem State.entryFault_readsTo (s : State) (a : Addr) (how : Entry) (d : FaultDetail) :
    s.perf.readsTo (s.entryFault a how d).perf := by
  unfold State.entryFault
  split
  · exact s.chainFault_readsTo _ _ _ _
  · cases how <;> exact s.chainFault_readsTo _ _ _ _

theorem State.enterBlock_readsTo (s : State) (a : Addr) (how : Entry) (fuel : Nat) :
    s.perf.readsTo (s.enterBlock a how fuel).perf := by
  induction fuel generalizing s a how with
  | zero => simp [State.enterBlock, Perf.readsTo]
  | succ fuel ih =>
    have committed : s.perf = (s.commitEntry a how).perf := by simp
    simp only [State.enterBlock]
    split
    · simp [Perf.readsTo]
    split
    · exact s.entryFault_readsTo _ _ _
    rw [committed]
    split
    · split
      · exact ih _ _ _
      · simp [Perf.readsTo]
      · exact State.takeEnd_readsTo _
      · exact State.chainFault_readsTo _ _ _ _ _
    · exact State.readSlot_readsTo _ _

theorem State.readLink_readsTo (s : State) : s.perf.readsTo s.readLink.perf := by
  unfold State.readLink
  split
  · exact s.enterBlock_readsTo _ _ _
  · simp [Perf.readsTo]
  · exact s.takeEnd_readsTo
  · exact s.chainFault_readsTo _ _ _ _

theorem State.readNext_readsTo (s : State) : s.perf.readsTo s.readNext.perf := by
  unfold State.readNext
  split
  · exact s.readSlot_readsTo _
  · exact s.readLink_readsTo

theorem State.takeRepeat_readsTo (s : State) (a : Addr) (k : Nat) : s.perf.readsTo (s.takeRepeat a k).perf := by
  simp only [State.takeRepeat]
  split
  next f fs _ =>
    split
    · split
      · exact s.enterBlock_readsTo _ _ _
      · exact State.readNext_readsTo (s.setReader _)
    · split
      · exact s.readNext_readsTo
      · split
        · exact s.chainFault_readsTo _ _ _ _
        · exact s.enterBlock_readsTo _ _ _
  next =>
    split
    · exact s.readNext_readsTo
    · split
      · exact s.chainFault_readsTo _ _ _ _
      · exact s.enterBlock_readsTo _ _ _

/-- What the reader does from such a state leads to such a state. -/
theorem State.playsOn.reads {s t : State} (h : s.playsOn) (ha : t.scu = s.scu) (hr : s.perf.readsTo t.perf) :
    t.playsOn where
  state := hr.2.elim (fun e => e ▸ h.state) .inr
  staged := hr.1.trans h.staged
  noHold := by rw [State.holdpointWaits, ha]; exact h.noHold

/-! #### Admission -/

theorem State.agendaJoin_agenda (s : State) (b : AgendaBody) :
    (s.agendaJoin b).scu.agenda = s.scu.agenda ++ [{ onset := s.reader.tick, cue := s.cueRef, body := b }] := by
  simp [State.agendaJoin]

/-- A TEMPO entry joins without a holdpoint coming to wait. -/
theorem State.playsOn.agendaJoin_tempo {s : State} (h : s.playsOn) (p n : Nat) :
    (s.agendaJoin (.tempo p n)).playsOn where
  state := by simpa using h.state
  staged := by simpa using h.staged
  noHold := by
    have := h.noHold
    simp_all [State.holdpointWaits, State.agendaJoin_agenda, AgendaEntry.isHoldpoint]

/-- A HOLDPOINT entry joins last and holds the reader (R33). -/
theorem State.playsOn.agendaJoin_holdpoint {s t : State} (h : s.playsOn) (hr : s.perf.state = .running)
    {x y : Bool} {d k : Nat} (hp : t.perf = s.perf) (ha : t.scu = (s.agendaJoin (.holdpoint x y d k)).scu)
    (held : t.reader.state = .held) : t.scoreOk where
  paused e := by simp [hp, hr] at e
  rest e := by simp [hp, hr, PerfState.resting] at e
  staged _ := by rw [hp]; exact h.staged
  reader _ := held
  last e he := by
    have := h.noHold
    simp only [State.holdpointWaits, List.any_eq_false, Bool.not_eq_true] at this
    rw [ha, State.agendaJoin_agenda, List.dropLast_concat] at he
    exact this e he
  draining e := by simp [hp, hr] at e
  holding e := by simp [hp, hr] at e

/-- A join of the fire queue leaves the score alone. -/
theorem State.playsOn.fqJoin {s : State} (h : s.playsOn) (w : Work) (o f : Int) : (s.fqJoin w o f).playsOn :=
  h.reads (by simp) (by simp [Perf.readsTo])

theorem State.playsOn.readNext {s : State} (h : s.playsOn) : s.readNext.playsOn :=
  h.reads (by simp) s.readNext_readsTo

theorem State.placeAsk_scoreOk {s : State} (h : s.playsOn) (hr : s.perf.state = .running) (a : Ask) (o : Int) :
    (s.placeAsk a o).scoreOk := by
  cases a with
  | strike n v r => exact (h.fqJoin _ _ _).readNext.scoreOk
  | hold n op => cases op <;> exact (h.fqJoin _ _ _).readNext.scoreOk
  | rotor cmd => exact (h.fqJoin _ _ _).readNext.scoreOk
  | mark r => exact (h.fqJoin _ _ _).readNext.scoreOk
  | agenda body =>
    cases body with
    | tempo p n => exact (h.agendaJoin_tempo p n).readNext.scoreOk
    | holdpoint x y d k =>
      exact h.agendaJoin_holdpoint (x := x) (y := y) (d := d) (k := k) hr (by simp [State.placeAsk])
        (by simp [State.placeAsk]) rfl
  | map n a r =>
    exact (State.playsOn.readNext (h.reads (t := s.resolveMap s.cueLoc n a r) (by simp)
      (by simp [Perf.readsTo]))).scoreOk
  | repeatJump a k => exact (h.reads (by simp) (s.takeRepeat_readsTo a k)).scoreOk

/-- A pending cue that goes on from RUNNING keeps the agreement. -/
theorem State.passHorizon_scoreOk {s : State} (h : s.playsOn) (hr : s.perf.state = .running) :
    s.passHorizon.scoreOk := by
  simp only [State.passHorizon]
  split
  next c o _ =>
    simp only [State.takeOn]
    split
    next a _ =>
      simp only [State.roomAndAdmit]
      split
      · exact s.placeAsk_scoreOk h hr a o
      · exact (h.reads (t := s.setReader { s.reader with state := .stalled }) rfl (Perf.readsTo_refl _)).scoreOk
    next =>
      exact (State.playsOn.readNext (h.reads (t := s.writeResult _ _) (by simp) (by simp [Perf.readsTo]))).scoreOk
  next => exact h.scoreOk

theorem State.releaseStall_scoreOk {s : State} (h : s.playsOn) (hr : s.perf.state = .running) :
    s.releaseStall.scoreOk := by
  unfold State.releaseStall
  split
  · exact (h.reads (by simp) (s.enterBlock_readsTo _ _ _)).scoreOk
  · exact State.passHorizon_scoreOk h hr
  · exact h.scoreOk

/-- The poll of a WAIT link keeps the agreement. -/
theorem State.pollLink_scoreOk {s : State} (h : s.scoreOk) : s.pollLink.scoreOk := by
  unfold State.pollLink
  split
  next waits =>
    have quiet := h.playsOn waits.1 (by simp [waits.2])
    split
    · exact h
    · exact (quiet.reads (by simp) (s.enterBlock_readsTo _ _ _)).scoreOk
    · exact (quiet.reads (by simp) s.takeEnd_readsTo).scoreOk
    · exact (quiet.reads (by simp) (s.chainFault_readsTo _ _ _ _)).scoreOk
  next => exact h

theorem State.housekeeping_scoreOk {s : State} (h : s.scoreOk) (v : Nat) : (s.housekeeping v).scoreOk := by
  have sampled : (s.sampleSupply v).scoreOk := h.of_eq (by simp) (by simp) (by simp) (by simp)
  exact (State.pollLink_scoreOk sampled).of_eq (by simp [State.housekeeping]) (by simp [State.housekeeping])
    (by simp [State.housekeeping]) (by simp [State.housekeeping])

end Sys2Proof.Machine

namespace Sys2Proof.Machine
open Sys2Proof

/-! ### Score time: what its operations leave -/

/-- The rotor's target where P, which was `old`, takes a value (R121). -/
def Rotor.targetAt (r : Rotor) (old p : Nat) : Nat :=
  match r.cmd with
  | some (.beat b) => if r.state = .running ∧ p ≠ old then min 2000 (b * 16000000 / (192 * p)) else r.target
  | _ => r.target

/-- P takes its value, and a rotor running under BEAT takes its target anew where P has changed (R5, R121). -/
theorem State.setPeriod_eq (s : State) (p : Nat) :
    s.setPeriod p = { s with
      scu := { s.scu with period := p }
      rot := { s.rot with target := s.rot.targetAt s.scu.period p } } := by
  simp only [State.setPeriod, Rotor.targetAt]
  split
  next same => split <;> simp [same, State.setScu]
  next differs =>
    cases hc : s.rot.cmd with
    | none => simp only [State.setScu]; rw [← hc]
    | some cmd =>
      cases cmd with
      | beat b =>
        by_cases hr : s.rot.state = .running
        · simp [hc, hr, differs, State.setScu, State.setRot, beatTarget]
        · simp only [hr, State.setScu, false_and, if_false]; rw [← hc]
      | _ => simp only [State.setScu]; rw [← hc]

@[simp] theorem State.setPeriod_scu (s : State) (p : Nat) : (s.setPeriod p).scu = { s.scu with period := p } := by
  rw [State.setPeriod_eq]

/-- The period tick `x` begins with (R5, R9). -/
def State.periodOf (s : State) (x : Tick) : Nat :=
  if s.global.syncMode = .follow then s.scu.period else s.scu.tempo.periodAt x

/-- A tick begins (R6 steps 1 to 4, R16). -/
theorem State.beginTick_eq (s : State) (x : Tick) (start : Int) :
    s.beginTick x start = { s with
      scu := { s.scu with
        cond := .begun start (s.periodOf x), period := s.periodOf x
        synco := if s.global.syncMode = .lead ∧ x.toNat % 192 = 0 then some (s.scu.dt + 1000) else s.scu.synco }
      rot := { s.rot with target := s.rot.targetAt s.scu.period (s.periodOf x) } } := by
  have mode (scu : Scu) (rot : Rotor) : State.global { s with scu := scu, rot := rot } = s.global := rfl
  cases hm : s.global.syncMode <;>
    simp [State.beginTick, State.periodOf, State.setPeriod_eq, State.setScu, mode, hm]

/-- The tick that the next boundary is before (R6). -/
def State.tickAhead (s : State) : Tick :=
  match s.scu.cond with
  | .begun .. => s.scu.tick + 1
  | .scheduled _ => s.scu.tick
  | .unscheduled => s.scu.tick

/-- At a boundary the tick ahead is current, a ramp that has ended is discarded, the agenda is dealt with, and STARVED is
tested (R6, R8, R40). -/
theorem State.boundaryAt_eq (s : State) (b : Int) :
    s.boundaryAt b = ((s.setScu { s.scu with
      tick := s.tickAhead, tempo := s.scu.tempo.discard s.tickAhead }).agendaAt s.tickAhead b s.scu.agenda).starvedTest :=
  rfl

/-! #### Tick boundaries and sync -/

/-- What dealing with the head of the agenda leaves: the end of it, and either the performance as it was or one that holds
at the holdpoint at its head (R6, R12). -/
theorem State.agendaAt_cases (s : State) (x : Tick) (b : Int) (l : List AgendaEntry) :
    ∃ rest, rest <:+ l ∧ (s.agendaAt x b l).scu.agenda = rest ∧
      ((s.agendaAt x b l).perf = s.perf ∨
        (s.agendaAt x b l).perf = { s.perf with state := .holding } ∧
          (s.agendaAt x b l).scu.cond = .unscheduled ∧ ∃ e, rest.head? = some e ∧ e.isHoldpoint = true) := by
  induction l generalizing s with
  | nil =>
    exact ⟨[], List.suffix_refl _, by simp [State.agendaAt, State.beginTick_eq], .inl (by simp [State.agendaAt])⟩
  | cons e es ih =>
    simp only [State.agendaAt]
    split
    · cases hb : e.body with
      | tempo target n =>
        obtain ⟨rest, hs, ha, hp⟩ := ih ((s.setScu { s.scu with agenda := es }).tempoAtBoundary x e target n)
        exact ⟨rest, hs.trans (List.suffix_cons e es), ha, by simpa using hp⟩
      | holdpoint c d u k =>
        exact ⟨e :: es, List.suffix_refl _, by simp [State.holdAt],
          .inr ⟨by simp [State.holdAt], by simp [State.holdAt], e, rfl, by simp [AgendaEntry.isHoldpoint, hb]⟩⟩
    · exact ⟨e :: es, List.suffix_refl _, by simp [State.beginTick_eq], .inl (by simp)⟩

/-- The entries but the last of the end of a list are among those of the list. -/
theorem dropLast_subset_of_suffix {α : Type} {l m : List α} (h : l <:+ m) : l.dropLast ⊆ m.dropLast := by
  obtain ⟨p, rfl⟩ := h
  rcases eq_or_ne l [] with rfl | hl
  · simp
  · simp [List.dropLast_append_of_ne_nil hl]

@[simp] theorem State.starvedTest_reader_state (s : State) : s.starvedTest.reader.state = s.reader.state := by
  unfold State.starvedTest
  split <;> simp

/-- A boundary in RUNNING or DRAINING keeps the agreement. -/
theorem State.boundaryAt_scoreOk {s : State} (h : s.scoreOk) (plays : s.perf.state.scores = true) (b : Int) :
    (s.boundaryAt b).scoreOk := by
  rw [State.boundaryAt_eq]
  generalize hu : s.setScu { s.scu with tick := s.tickAhead, tempo := s.scu.tempo.discard s.tickAhead } = u
  generalize s.tickAhead = x at *
  have hperf : u.perf = s.perf := by simp [← hu]
  have hread : u.reader = s.reader := by simp [← hu]
  obtain ⟨rest, suffix, agenda, outcome⟩ := u.agendaAt_cases x b s.scu.agenda
  generalize hv : u.agendaAt x b s.scu.agenda = v at *
  have vread : v.reader = s.reader := by simp [← hv, hread]
  rw [PerfState.scores_iff] at plays
  have staged : s.perf.staged = [] := h.staged (by rcases plays with e | e <;> simp [e])
  have fewer : v.holdpointWaits = true → s.holdpointWaits = true := by
    simp only [State.holdpointWaits, agenda, List.any_eq_true]
    exact fun ⟨e, he, hp⟩ => ⟨e, suffix.subset he, hp⟩
  have last : ∀ e ∈ v.scu.agenda.dropLast, e.isHoldpoint = false := fun e he =>
    h.last e (dropLast_subset_of_suffix suffix (agenda ▸ he))
  have held : v.scoreOk := by
    rcases outcome with same | ⟨holds, unscheduled, e, head, isHold⟩
    · rw [hperf] at same
      exact {
        paused := fun e => by rcases plays with p | p <;> simp [same, p] at e
        rest := fun e => by rcases plays with p | p <;> simp [same, p, PerfState.resting] at e
        staged := fun _ => by rw [same]; exact staged
        reader := fun w => by rw [vread]; exact h.reader (fewer w)
        last := last
        draining := fun e => by
          rw [same] at e
          by_contra w
          simp [h.draining e] at fewer
          simp [fewer] at w
        holding := fun e => by rcases plays with p | p <;> simp [same, p] at e }
    · rw [hperf] at holds
      exact {
        paused := fun e => by simp [holds] at e
        rest := fun e => by simp [holds, PerfState.resting] at e
        staged := fun _ => by rw [holds]; exact staged
        reader := fun w => by rw [vread]; exact h.reader (fewer w)
        last := last
        draining := fun e => by simp [holds] at e
        holding := fun _ => ⟨unscheduled, e, by rw [agenda]; exact head, isHold⟩ }
  exact held.of_eq (by simp) (by simp) (by simp) (by simp)

/-- Where no state of the performance keeps a tick waiting, its condition is free. -/
theorem State.scoreOk.setCond {s t : State} (h : s.scoreOk) (plays : s.perf.state.scores = true)
    (hp : t.perf = s.perf) (ha : t.scu.agenda = s.scu.agenda) (hr : t.reader = s.reader) : t.scoreOk := by
  obtain ⟨h1, h2, h3, h4, h5, h6, h7⟩ := h
  have hw : t.holdpointWaits = s.holdpointWaits := by simp only [State.holdpointWaits, ha]
  rw [PerfState.scores_iff] at plays
  constructor
  case holding => rcases plays with p | p <;> simp [hp, p]
  all_goals simpa only [hp, ha, hr, hw]

@[simp] theorem State.regulate_agenda (s : State) (t : Int) : (s.regulate t).scu.agenda = s.scu.agenda := by
  simp only [State.regulate]
  split <;> simp

@[simp] theorem State.takePulse_agenda (s : State) (t : Int) : (s.takePulse t).scu.agenda = s.scu.agenda := by
  simp only [State.takePulse]
  repeat' split
  all_goals simp [State.restartLoss, State.recordPulse, State.countIn]

/-- An accepted SYNCI edge keeps the agreement. -/
theorem State.syncEdge_scoreOk {s : State} (h : s.scoreOk) (d : DevTime) : (s.syncEdge d).scoreOk := by
  unfold State.syncEdge
  split
  next taken => exact h.setCond taken.2 (by simp) (by simp) (by simp)
  next => exact h

end Sys2Proof.Machine

namespace Sys2Proof.Machine
open Sys2Proof

/-! #### Commands of CONTROL -/

theorem State.startLoading_scoreOk {s : State} (h : s.scoreOk) (rests : s.atRest = true) :
    s.startLoading.scoreOk := by
  have still : s.perf.state.resting = true := by
    simp only [State.atRest, Bool.or_eq_true, beq_iff_eq] at rests
    rcases rests with e | e <;> rw [e] <;> rfl
  exact scoreOk_of_agenda_nil (by simpa using h.rest still) (by simp [State.startLoading])
    (by simp [State.startLoading]) (by simp [State.startLoading])

/-- PAUSE remembers the state, and with it the holdpoint that holds or that cannot come any more. -/
theorem State.takePause_scoreOk {s : State} (h : s.scoreOk) (runs : s.perf.state.advances = true) :
    s.takePause.scoreOk where
  paused _ := ⟨s.perf.state, rfl, runs⟩
  rest e := by simp [State.takePause, PerfState.resting] at e
  staged _ := h.staged fun e => by simp [e, PerfState.advances] at runs
  reader := h.reader
  last := h.last
  draining e := h.draining (.inl (by simpa [State.takePause] using e))
  holding e := h.holding (.inl (by simpa [State.takePause] using e))

/-- A drain completes only with an empty agenda. -/
theorem State.drainCheck_scoreOk {s : State} (h : s.scoreOk) : s.drainCheck.scoreOk := by
  unfold State.drainCheck
  split
  next due =>
    simp only [drainCompleteDue, Bool.and_eq_true, beq_iff_eq, List.isEmpty_iff] at due
    obtain ⟨⟨⟨⟨⟨drains, -⟩, -⟩, empty⟩, -⟩, -⟩ := due
    exact scoreOk_of_agenda_nil (by simpa using empty) (by simp [State.drained, State.enterEnded])
      (by simp [State.drained, State.enterEnded])
      (by simpa [State.drained, State.enterEnded] using h.staged (by simp [drains]))
  next => exact h

/-- RESUME comes back to a state that agreed when PAUSE left it. -/
theorem State.takeResume_scoreOk {s : State} (h : s.scoreOk) (paused : s.perf.state = .paused) :
    s.takeResume.scoreOk := by
  obtain ⟨x, hx, runs⟩ := h.paused paused
  have rests : x.resting = false := by cases x <;> simp_all [PerfState.advances, PerfState.resting]
  have back : State.scoreOk { s with perf := { s.perf with state := x, prior := none } } := {
    paused := fun e => by simp only at e; simp [e, PerfState.advances] at runs
    rest := fun e => by simp [rests] at e
    staged := fun _ => h.staged (by simp [paused])
    reader := h.reader
    last := h.last
    draining := fun e => h.draining (.inr ⟨paused, by simpa [hx] using e⟩)
    holding := fun e => h.holding (.inr ⟨paused, by simpa [hx] using e⟩) }
  exact State.drainCheck_scoreOk
    (back.of_eq (by simp [hx]) (by simp) (by simp) (by simp))

@[simp] theorem State.agendaEnds_scu (s : State) (o : CueOutcome) :
    (s.agendaEnds o).scu = { s.scu with agenda := [], holdExpiry := none } :=
  fold_keep State.scu (by simp) rfl

/-- STOP leaves nothing in the agenda. -/
theorem State.takeStop_scoreOk {s : State} (h : s.scoreOk) : s.takeStop.scoreOk := by
  unfold State.takeStop
  split
  next loads =>
    exact scoreOk_of_agenda_nil (by simpa using h.rest (by simp [loads, PerfState.resting]))
      (by simp [State.enterEnded]) (by simp [State.enterEnded]) (by simp [State.enterEnded, State.dropLoading])
  next plays =>
    have staged := h.staged plays
    unfold State.stopPlaying
    refine State.drainCheck_scoreOk (scoreOk_of_agenda_nil ?_ ?_ ?_ ?_)
    · simp only [State.stopAgenda]
      split <;> simp
    all_goals
      simp only [State.stopState]
      split <;> simp_all

/-- With a holdpoint at its head the agenda holds nothing else (R33). -/
theorem State.scoreOk.agenda_singleton {s : State} {e : AgendaEntry} {es : List AgendaEntry} (h : s.scoreOk)
    (ha : s.scu.agenda = e :: es) (he : e.isHoldpoint = true) : es = [] := by
  cases es with
  | nil => rfl
  | cons f fs => simp [h.last e (by simp [ha])] at he

/-- The holding holdpoint is the HOLDPOINT entry at the head of the agenda. -/
theorem State.holdpoint_eq_some {s : State} {e : AgendaEntry} (h : s.holdpoint = some e) :
    ∃ es, s.scu.agenda = e :: es ∧ e.isHoldpoint = true := by
  unfold State.holdpoint at h
  split at h
  next f fs hf =>
    split at h <;> simp_all [AgendaEntry.isHoldpoint]
  next => cases h

/-- The release of a holdpoint leaves the performance RUNNING, or DRAINING where the reader comes to an end. -/
theorem State.releaseHoldpoint_readsTo (s : State) (e : AgendaEntry) (x : ReleaseSource) (d : Nat) :
    Perf.readsTo { s.perf with state := .running } (s.releaseHoldpoint e x d).perf := by
  simp only [State.releaseHoldpoint]
  split
  · exact Perf.readsTo.trans (by simp [Perf.readsTo]) (State.readNext_readsTo _)
  · simp [Perf.readsTo]

@[simp] theorem State.releaseHoldpoint_agenda (s : State) (e : AgendaEntry) (x : ReleaseSource) (d : Nat) :
    (s.releaseHoldpoint e x d).scu.agenda = s.scu.agenda.tail := by
  simp only [State.releaseHoldpoint]
  split <;> simp

/-- The release of the holding holdpoint empties the agenda. -/
theorem State.releaseHeld_scoreOk {s : State} (h : s.scoreOk) (holds : s.perf.state = .holding) (x : ReleaseSource) :
    (s.releaseHeld x).scoreOk := by
  unfold State.releaseHeld
  split
  next e he =>
    obtain ⟨es, ha, isHold⟩ := State.holdpoint_eq_some he
    split
    next d _ =>
      have goes := s.releaseHoldpoint_readsTo e x d
      have staged := h.staged (by simp [holds])
      refine State.playsOn.scoreOk ⟨goes.2, goes.1.trans staged, ?_⟩
      simp [State.holdpointWaits, ha, h.agenda_singleton ha isHold]
    next => exact h
  next => exact h

theorem State.cueEdge_scoreOk {s : State} (h : s.scoreOk) : s.cueEdge.scoreOk := by
  unfold State.cueEdge
  split
  next taken => exact State.releaseHeld_scoreOk h taken.1 _
  next => exact h

/-! #### LOADING and the freeze -/

/-- A LOADING ends with an empty agenda and without its staging copy. -/
theorem State.loadingCompletes_scoreOk {s : State} (h : s.scoreOk) (loads : s.perf.state = .loading) :
    s.loadingCompletes.scoreOk := by
  have empty : s.scu.agenda = [] := h.rest (by simp [loads, PerfState.resting])
  unfold State.loadingCompletes
  split
  next e _ =>
    exact scoreOk_of_agenda_nil (by simpa using empty) (by simp [State.loadingFails, State.enterEnded])
      (by simp [State.loadingFails, State.enterEnded])
      (by simp [State.loadingFails, State.enterEnded, State.dropLoading])
  next =>
    simp only [State.loadingSucceeds, State.startReader]
    refine State.playsOn.scoreOk (State.playsOn.reads ?_ (by simp) (State.enterBlock_readsTo _ _ _ _))
    refine ⟨.inl (by simp), ?_, ?_⟩
    · simp only [State.latchConfig]
      split <;> simp
    · simp [State.holdpointWaits, State.startScore, empty]

@[simp] theorem State.quietBlocks_scu (s : State) :
    s.quietBlocks.scu = { s.scu with agenda := [], holdExpiry := none } := by
  simp only [State.quietBlocks, State.rotorQuiet_keeps]
  refine (fold_keep State.scu (fun u n => ?_) rfl).trans (by simp)
  simp

/-- A freeze leaves nothing in the agenda. -/
theorem State.freeze_scoreOk {s : State} (h : s.scoreOk) (c : EndCause) : (s.freeze c).scoreOk := by
  have playing (plays : s.perf.state ≠ .loading) : (s.quietBlocks.enterFrozen c).scoreOk := by
    have staged := h.staged plays
    exact scoreOk_of_agenda_nil (by simp) (by simp [State.enterFrozen]) (by simp [State.enterFrozen])
      (by simp [State.enterFrozen, staged])
  have resting (rests : s.perf.state.resting = true) : (s.freezeResting c).scoreOk :=
    scoreOk_of_agenda_nil (by simpa using h.rest rests) (by simp [State.freezeResting, State.enterFrozen])
      (by simp [State.freezeResting, State.enterFrozen])
      (by simp [State.freezeResting, State.enterFrozen, State.dropLoading])
  unfold State.freeze
  split
  next e => exact playing (by simp [e])
  next e => exact playing (by simp [e])
  next e => exact playing (by simp [e])
  next e => exact playing (by simp [e])
  next e => exact resting (by simp [e, PerfState.resting])
  next e => exact resting (by simp [e, PerfState.resting])
  next e => exact resting (by simp [e, PerfState.resting])
  next => exact h

theorem State.takeDflt_scoreOk {s : State} (h : s.scoreOk) : s.takeDflt.scoreOk := by
  unfold State.takeDflt
  split
  · exact h
  · have seen : (s.setSiu { s.siu with dflt := true, dfltSeen := true }).scoreOk := h.of_eq rfl rfl rfl rfl
    exact (State.freeze_scoreOk seen .driveFault).of_eq (by simp) (by simp) (by simp) (by simp)

/-! #### The resets -/

/-- A part with nothing waiting and nothing staged agrees. -/
theorem scoreOk_of_idle {t : State} (ha : t.scu.agenda = []) (hi : t.perf.state = .idle) (hst : t.perf.staged = []) :
    t.scoreOk :=
  scoreOk_of_agenda_nil ha (by simp [hi]) (by simp [hi]) fun _ => hst

theorem State.perfReset_scoreOk (s : State) : s.perfReset.scoreOk := by
  rw [State.perfReset_eq]
  exact scoreOk_of_idle rfl rfl rfl

/-! #### Every command -/

/-- A step that leaves the performance, the score and the reader keeps the agreement. -/
theorem State.scoreOk.of_same {s t : State} (h : s.scoreOk) (hp : t.perf = s.perf) (hs : t.scu = s.scu)
    (hr : t.reader = s.reader) : t.scoreOk :=
  h.of_eq hp (congrArg Scu.agenda hs) (congrArg Scu.cond hs) (congrArg Reader.state hr)

theorem acceptIf_accepted {b : Bool} (h : acceptIf b = .accepted) : b = true := by
  cases b <;> simp_all [acceptIf]

/-- The agreement holds after every command. -/
theorem exec_scoreOk {c : Instr} {s t : State} (hs : s.scoreOk) (h : exec c s = .next t) : t.scoreOk := by
  have port (p : Port) : State.scoreOk { s with port := p } := hs.of_same rfl rfl rfl
  cases c
  all_goals simp only [exec] at h
  case start => exact onControl_scoreOk h hs (fun p v => State.startLoading_scoreOk (port p) (acceptIf_accepted v))
  case pause => exact onControl_scoreOk h hs (fun p v => State.takePause_scoreOk (port p) (acceptIf_accepted v))
  case resume =>
    exact onControl_scoreOk h hs (fun p v => State.takeResume_scoreOk (port p) (by simpa using acceptIf_accepted v))
  case stop => exact onControl_scoreOk h hs (fun p _ => State.takeStop_scoreOk (port p))
  case cont =>
    refine onControl_scoreOk h hs (fun p v => State.releaseHeld_scoreOk (port p) ?_ _)
    unfold continueVerdict at v
    split at v
    · assumption
    · cases v
  case clear =>
    refine onControl_scoreOk h hs fun p v => ?_
    have frozen := acceptIf_accepted v
    simp only [Bool.and_eq_true, beq_iff_eq] at frozen
    obtain ⟨⟨frozen, -⟩, -⟩ := frozen
    exact scoreOk_of_agenda_nil (by simpa using hs.rest (by simp [frozen, PerfState.resting]))
      (by simp [State.enterEnded]) (by simp [State.enterEnded])
      (by simpa [State.enterEnded] using hs.staged (by simp [frozen]))
  case clearChannel n =>
    refine onControl_scoreOk h hs fun p _ => ?_
    exact hs.of_same (by simp) (by simp) (by simp)
  case lockConfig =>
    refine onControl_scoreOk h hs fun p _ => ?_
    obtain ⟨h1, h2, h3, h4, h5, h6, h7⟩ := port p
    constructor <;> simpa [State.setLock]
  case perfReset => exact onControl_scoreOk h hs (fun _ _ => State.perfReset_scoreOk _)
  case powerOnReset => rw [powerOnReset_next h]; exact scoreOk_of_idle (by simp; rfl) (by simp; rfl) (by simp; rfl)
  case pinReset => rw [pinReset_next h]; exact scoreOk_of_idle (by simp; rfl) (by simp; rfl) (by simp; rfl)
  case unknownCommand =>
    unfold execUnknownCommand at h
    split at h
    · cases h
    · exact onControl_scoreOk h hs (fun p _ => port p)
  case attnFlagsWrite | attnEnableWrite =>
    rcases onGroup_next h with rfl | ⟨p, rfl⟩ <;> exact hs.of_same (by simp) (by simp) (by simp)
  case statusWriteIgnored w =>
    unfold execStatusWriteIgnored at h
    split at h
    · cases w
      case status => rcases onGroup_next h with rfl | ⟨p, rfl⟩ <;> exact hs.of_same (by simp) (by simp) (by simp)
      all_goals rcases onPort_next h with rfl | rfl <;> exact hs.of_same (by simp) (by simp) (by simp)
    · cases h
  case memRead | memWrite | regRead =>
    rcases onPort_next h with rfl | rfl <;> exact hs.of_same (by simp) (by simp) (by simp)
  case unknownInstruction =>
    unfold execUnknownInstruction at h
    split at h
    · rcases onPort_next h with rfl | rfl <;> exact hs.of_same (by simp) (by simp) (by simp)
    · cases h
  case nrstAssertion => cases h; exact hs.of_same (by simp) (by simp) (by simp)
  case housekeepingEvent v =>
    have moved : State.scoreOk (s.setSched { s.sched with houseDue := s.sched.houseDue + 1000 }) :=
      hs.of_same (by simp) (by simp) (by simp)
    rcases scheduled_next h with rfl | rfl | rfl
    · exact hs
    · exact moved
    · exact (State.housekeeping_scoreOk moved v).publish
  case heatEvent | reportEvent | rotorRateEvent =>
    rcases scheduled_next h with rfl | rfl | rfl <;> exact hs.of_same (by simp) (by simp) (by simp)
  case quietQualifierChange | dfltDeassertion | lineTransition =>
    rcases onSample_next h with rfl | rfl <;> exact hs.of_same (by simp) (by simp) (by simp)
  case dfltAssertion =>
    rcases onSample_next h with rfl | rfl
    · exact hs
    · exact (State.takeDflt_scoreOk hs).publish
  case tickBoundary =>
    refine onEvent_scoreOk h hs fun due => ?_
    unfold State.boundary
    unfold tickBoundaryDue at due
    split
    next b hb =>
      simp only [hb, Bool.and_eq_true] at due
      exact State.boundaryAt_scoreOk hs due.1 b
    next => exact hs
  case holdpointTimeout =>
    refine onEvent_scoreOk h hs (fun due => State.releaseHeld_scoreOk hs ?_ _)
    unfold holdpointTimeoutDue at due
    split at due
    · simp_all
    · cases due
  case syncLoss =>
    refine onEvent_scoreOk h hs fun due => ?_
    unfold syncLossDue at due
    split at due
    · simp only [Bool.and_eq_true] at due
      exact hs.setCond due.1.2 (by simp) (by simp [State.syncLost]) (by simp)
    · cases due
  case syncPulse =>
    have settled : (s.settleLine .synci).scoreOk := hs.of_same (by simp) (by simp) (by simp)
    exact onEvent_scoreOk h hs (fun _ => State.syncEdge_scoreOk settled _)
  case syncoPulseEnd => exact onEvent_scoreOk h hs (fun _ => hs.of_eq rfl rfl rfl rfl)
  case cueiEdge =>
    have settled : (s.settleLine .cuei).scoreOk := hs.of_same (by simp) (by simp) (by simp)
    exact onEvent_scoreOk h hs (fun _ => State.cueEdge_scoreOk settled)
  case quietRequest =>
    have taken : (s.setSiu { s.siu with quiet := .taken }).scoreOk := hs.of_same rfl rfl rfl
    exact onEvent_scoreOk h hs (fun _ => State.freeze_scoreOk taken .quiet)
  case loadingComplete =>
    exact onEvent_scoreOk h hs (fun due => State.loadingCompletes_scoreOk hs (by simpa [loadingCompleteDue] using due))
  case horizonPassed =>
    refine onEvent_scoreOk h hs fun due => ?_
    simp only [horizonPassedDue, Bool.and_eq_true, beq_iff_eq] at due
    obtain ⟨⟨runs, waits⟩, -⟩ := due
    exact State.passHorizon_scoreOk (hs.playsOn runs (by simp [waits])) runs
  case stallReleased =>
    refine onEvent_scoreOk h hs fun due => ?_
    simp only [stallReleasedDue, Bool.and_eq_true, Bool.or_eq_true, beq_iff_eq] at due
    obtain ⟨⟨runs, waits⟩, -⟩ := due
    exact State.releaseStall_scoreOk (hs.playsOn runs (by rcases waits with e | e <;> simp [e])) runs
  case drainComplete =>
    refine onEvent_scoreOk h hs fun due => ?_
    have := State.drainCheck_scoreOk hs
    rwa [State.drainCheck, if_pos due] at this
  all_goals
    refine onEvent_scoreOk h hs fun _ => ?_
    exact hs.of_same (by simp) (by simp) (by simp)

/-- Settles O59: the agreement of performance state, agenda, reader and staging copy is kept by every command. -/
theorem everyStepKeepsHoldpointsAndPerformanceInAgreement :
    Obligations.EveryStepKeepsHoldpointsAndPerformanceInAgreement := by
  unfold Obligations.EveryStepKeepsHoldpointsAndPerformanceInAgreement
  exact fun _ _ _ => exec_scoreOk

end Sys2Proof.Machine

namespace Sys2Proof.Machine
open Sys2Proof

/-! ### The output pins -/

/-- The states that hold every output off (R140). -/
theorem PerfState.silent_iff (x : PerfState) : x.silent = true ↔ x = .idle ∨ x = .ended ∨ x = .frozen := by
  cases x <;> simp [PerfState.silent]

/-- Nothing but DFLT holds the drive outputs off. -/
abbrev State.ungated (s : State) : Prop :=
  s.perf.state ≠ .idle ∧ s.perf.state ≠ .ended ∧ s.perf.state ≠ .frozen ∧ s.csm.level ≠ .brown ∧
    s.rehearsal = false ∧ s.nrstLow = false

theorem State.not_silent_iff (s : State) :
    s.perf.state.silent = false ↔ s.perf.state ≠ .idle ∧ s.perf.state ≠ .ended ∧ s.perf.state ≠ .frozen := by
  rw [← Bool.not_eq_true, PerfState.silent_iff]
  tauto

/-- A drive output is on where its channel's state has it on and nothing gates it. -/
theorem State.drvOut_iff (s : State) (n : ChanId) :
    s.drvOut n = true ↔ s.driveLevel n = true ∧ s.ungated ∧ s.siu.dflt = false := by
  simp only [State.drvOut, State.ungated, Bool.and_eq_true, Bool.not_eq_true', State.not_silent_iff, bne_iff_ne]
  tauto

/-- The rotor's phases show its pattern where it turns and nothing gates it. -/
theorem State.phOut_eq (s : State) :
    s.phOut = if s.ungated ∧ (s.rot.state = .running ∨ s.rot.state = .parking) then phasePattern s.rot.phase else 0 := by
  refine if_congr ?_ rfl rfl
  rw [State.not_silent_iff]
  tauto

/-- Settles O39: each pin is its level and its gates. -/
theorem thePinsFollowTheState : Obligations.ThePinsFollowTheState := by
  unfold Obligations.ThePinsFollowTheState
  intro s n open_
  refine ⟨fun gated => ?_, fun ho hd => ⟨fun driven => ?_, fun held => ?_, fun h1 h2 h3 => ?_⟩, fun off => ?_,
    fun ho turns => ?_, fun hn => ?_⟩
  · rw [← Bool.not_eq_true, s.drvOut_iff n]
    rintro ⟨-, ho, hd⟩
    rcases gated with no | yes
    · exact no ho
    · simp [hd] at yes
  · exact (s.drvOut_iff n).2 ⟨by rcases driven with e | e <;> simp [State.driveLevel, e], ho, hd⟩
  · rw [s.drvOut_iff n]
    simp only [State.driveLevel, held, decide_eq_true_eq]
    exact ⟨And.left, fun h => ⟨h, ho, hd⟩⟩
  · rw [← Bool.not_eq_true, s.drvOut_iff n]
    rintro ⟨level, -⟩
    unfold State.driveLevel at level
    cases hs : (s.chan n).state <;> simp_all
  · rw [State.phOut_eq, if_neg]
    rintro ⟨ho, turns⟩
    rcases off with no | still
    · exact no ho
    · exact turns.elim still.1 still.2
  · rw [State.phOut_eq, if_pos ⟨ho, turns⟩]
    refine ⟨?_, ?_, ?_, ?_⟩ <;> intro e <;> rw [e] <;> rfl
  · simp [State.syncoOut, State.attnDrivenLow, State.misoHighImpedance, hn]

/-! ### The idle part -/

/-- An event that is not due, or comes in reset, changes nothing. -/
theorem onEvent_idle {due : Bool} {f : State → State} {s : State} (h : (!s.nrstLow && due) = false) :
    onEvent due f s = .next s := by
  simp [onEvent, h]

/-- An event of the part that is not due changes nothing (log entry 5). -/
theorem exec_notDue {c : Instr} {s : State} (own : isOwnEvent c = true) (h : isDue s c = false) :
    exec c s = .next s := by
  cases c <;> simp only [isOwnEvent, Bool.false_eq_true] at own
  all_goals simp only [isDue] at h; simp only [exec]
  case housekeepingEvent => simp [execHousekeepingEvent, h]
  case heatEvent => simp [execHeatEvent, h]
  case reportEvent => simp [execReportEvent, h]
  case rotorRateEvent => simp [execRotorRateEvent, h]
  all_goals exact onEvent_idle h

theorem State.ptRuns_iff (s : State) :
    s.ptRuns = true ↔ (s.perf.state = .running ∨ s.perf.state = .holding ∨ s.perf.state = .draining) ∧
      s.nrstLow = false := by
  simp [State.ptRuns, PerfState.advances_iff]

/-- The loss timer runs with PT in RUNNING and DRAINING (R18). -/
theorem State.lossRuns_iff (s : State) :
    (s.ptRuns && s.perf.state.scores) = true ↔
      (s.perf.state = .running ∨ s.perf.state = .draining) ∧ s.nrstLow = false := by
  rw [Bool.and_eq_true, State.ptRuns_iff, PerfState.scores_iff]
  tauto

theorem State.readsOn_iff (s : State) :
    s.readsOn = true ↔ s.perf.state = .loading ∧ s.nrstLow = false ∧ s.perf.staged.length < 325 := by
  have more : s.readsDone = false ↔ s.perf.staged.length < 325 := decide_eq_false_iff_not.trans Nat.not_le
  simp [State.readsOn, more, and_assoc]

/-- One microsecond later on the clocks (R1, R2, R18). -/
def State.later (s : State) : State :=
  { s with scu := { s.scu with
    dt := s.scu.dt + 1
    pt := if (s.perf.state = .running ∨ s.perf.state = .holding ∨ s.perf.state = .draining) ∧ s.nrstLow = false
          then s.scu.pt + 16 else s.scu.pt
    lossElapsed := if (s.perf.state = .running ∨ s.perf.state = .draining) ∧ s.nrstLow = false
                   then s.scu.lossElapsed.map (· + 16) else s.scu.lossElapsed } }

/-- LOADING's read of a line, but for the map staging buffer (R144). -/
theorem State.loadLine_eq (s : State) :
    s.loadLine = { s with
      perf := { s.perf with staged := s.perf.staged ++ [s.stagedItem s.perf.staged.length] }
      staging := s.loadLine.staging } := by
  apply State.eq_of_fields <;> simp [State.loadLine_staged]

theorem tick_eq (s : State) : tick s = (if s.readsOn then s.loadLine else s).later := by
  simp only [tick, State.later, State.setScu, ← State.ptRuns_iff, ← State.lossRuns_iff]

/-- With nothing waiting and nothing due, and no reader at rest in READING, time passes. -/
theorem step_idle {s : State} (hp : s.pending = []) (due : dueEvent s = none) (hr : s.reader.state ≠ .reading) :
    step s = .next (tick s) := by
  simp [step, hp, idle, due, State.restsReading, hr]

/-- Settles O3. -/
theorem idlePartRunsADueEventOrLetsTimePass : Obligations.IdlePartRunsADueEventOrLetsTimePass := by
  unfold Obligations.IdlePartRunsADueEventOrLetsTimePass
  refine ⟨fun _ _ => exec_notDue, fun s hl => onEvent_idle (by simp [loadingCompleteDue, hl]), fun s hp =>
    ⟨fun e due => ?_, fun due hr => ⟨fun still => ?_, fun loads high more => ?_⟩⟩⟩
  · simp [step, hp, idle, due]
  · rw [step_idle hp due hr, tick_eq, if_neg (by rwa [State.readsOn_iff])]
    rfl
  · refine ⟨s.loadLine.staging, ?_⟩
    rw [step_idle hp due hr, tick_eq, if_pos (s.readsOn_iff.2 ⟨loads, high, more⟩), State.loadLine_eq]
    rfl

end Sys2Proof.Machine

namespace Sys2Proof.Machine
open Sys2Proof

/-! ### RESUME -/

/-- An accepted command acts on the state whose port has taken its bytes, and is recorded (R142). -/
theorem onControl_accepted {code : Byte} {verdict : State → CmdOutcome} (f : State → State) {s : State}
    (hn : s.nrstLow = false) (hv : verdict s = .accepted) :
    onControl code verdict f s =
      let u := f { s with port := s.wrotePort regControl }
      .next (publish s (u.setRegs (u.regs.accepted code))) := by
  simp only [onControl, onGroup_taken _ hn, hv, Regs.accepted]

/-- A refused command is recorded, which shows in no published line. -/
theorem onControl_refused {code : Byte} {verdict : State → CmdOutcome} (f : State → State) {s : State} {v : CmdOutcome}
    (hn : s.nrstLow = false) (hv : verdict s = v) (refused : v ≠ .accepted) :
    onControl code verdict f s =
      .next { s with port := s.wrotePort regControl, regs := { s.regs with code := code, outcome := v } } := by
  have quiet : publish s { s with port := s.wrotePort regControl, regs := { s.regs with code := code, outcome := v } } =
      { s with port := s.wrotePort regControl, regs := { s.regs with code := code, outcome := v } } :=
    publish_same rfl rfl rfl rfl
  simp only [onControl, onGroup_taken _ hn, hv]
  cases v with
  | accepted => exact absurd rfl refused
  | _ => exact congrArg Host.Outcome.next quiet

/-- RESUME is `resumedTo` the remembered state, a grant test and, into DRAINING, the check for drain completion. -/
theorem State.takeResume_eq {s : State} {x : PerfState} (hx : s.perf.prior = some x) :
    State.takeResume { s with port := s.wrotePort regControl } = (s.resumedTo x).grantTest.drainCheck := by
  simp only [State.takeResume, hx, Option.getD_some]
  rfl

/-- Settles O8. -/
theorem resumeReturnsToTheRememberedState : Obligations.ResumeReturnsToTheRememberedState := by
  unfold Obligations.ResumeReturnsToTheRememberedState
  intro s x hn hp hx _
  have taken := onControl_accepted (code := 3) State.takeResume hn (verdict := resumeVerdict)
    (by simp [resumeVerdict, acceptIf, hp])
  rw [State.takeResume_eq hx] at taken
  have regs : (s.resumedTo x).grantTest.regs = s.regs := by simp [State.resumedTo]
  refine ⟨_, taken, fun goesOn => ?_, fun ends => ?_⟩
  · rw [State.drainCheck, if_neg (by simp [goesOn]), regs]
    exact publishes_publish s _
  · rw [State.drainCheck, if_pos ends, State.drained, State.enterEnded, State.setFlag]
    simp [State.resumedTo, Regs.withFlag]

/-! ### Score timers -/

/-- Settles O22: the lines that publication shows say nothing of SYNCO, and a loss is published. -/
theorem scoreTimersEnd : Obligations.ScoreTimersEnd := by
  unfold Obligations.ScoreTimersEnd
  refine ⟨fun s d hn hd passed => ?_, fun s e hn plays locked he twoBeats => ?_⟩
  · refine (onEvent_due State.syncoOff hn (by simp [syncoPulseEndDue, hd, passed])).trans ?_
    exact congrArg _ (publish_same rfl rfl rfl rfl)
  · have due : syncLossDue s = true := by
      simp [syncLossDue, he, locked, (PerfState.scores_iff _).2 plays, twoBeats]
    exact ⟨_, onEvent_due State.syncLost hn due, publishes_publish s _⟩

/-! ### Tick boundaries -/

theorem tickUpTo_self (x : Tick) : tickUpTo x x = true := by simp [tickUpTo]

/-- The next boundary is at the PT and before the tick that the condition of the current tick says. -/
theorem State.boundaryAhead_iff (s : State) (start : Int) (x : Tick) :
    s.boundaryAhead start x ↔ s.scu.cond.boundary = some start ∧ x = s.tickAhead := by
  unfold State.boundaryAhead State.tickAhead TickCond.boundary
  cases s.scu.cond with
  | unscheduled => simp
  | scheduled b => simp
  | begun b len => simp [eq_comm]

/-- A boundary that PT has reached is taken (R6). -/
theorem exec_tickBoundary {s : State} {start : Int} {x : Tick} (hn : s.nrstLow = false)
    (plays : s.perf.state = .running ∨ s.perf.state = .draining) (ahead : s.boundaryAhead start x)
    (reached : start ≤ s.scu.pt.toNat) :
    exec .tickBoundary s = .next (publish s
      ((s.setScu { s.scu with tick := x, tempo := s.scu.tempo.discard x }).agendaAt x start s.scu.agenda).starvedTest) := by
  obtain ⟨at_, rfl⟩ := (s.boundaryAhead_iff start x).1 ahead
  have due : tickBoundaryDue s = true := by
    simp [tickBoundaryDue, at_, (PerfState.scores_iff _).2 plays, State.now, reached]
  have taken : s.boundary = s.boundaryAt start := by simp [State.boundary, at_]
  rw [← State.boundaryAt_eq, ← taken]
  exact onEvent_due State.boundary hn due

/-- Where no entry at the head of the agenda is due the tick begins. -/
theorem State.agendaAt_notDue (s : State) (x : Tick) (b : Int) {l : List AgendaEntry}
    (h : ∀ e, l.head? = some e → tickUpTo e.onset x = false) :
    s.agendaAt x b l = (s.setScu { s.scu with agenda := l }).beginTick x b := by
  cases l with
  | nil => rfl
  | cons e es => simp [State.agendaAt, h e rfl]

/-- A begun tick and those before it are reached (R40). -/
theorem State.tickReached_begun {s : State} {b : Int} {len : Nat} (h : s.scu.cond = .begun b len) (n : Tick) :
    s.tickReached n = tickUpTo n s.scu.tick := by
  unfold State.tickReached
  split
  next e => simp [h, ← e, tickUpTo_self]
  next => rfl

/-- Where the current tick is unscheduled the ticks before it are reached (R40). -/
theorem State.tickReached_unscheduled {s : State} (h : s.scu.cond = .unscheduled) (n : Tick) :
    s.tickReached n = (n != s.scu.tick && tickUpTo n s.scu.tick) := by
  unfold State.tickReached
  split
  next e => simp [h, ← e]
  next e => simp [bne_iff_ne.2 (Ne.symm e)]

/-- STARVED is tested at the reader tick. -/
theorem State.starvedTest_eq (s : State) : s.starvedTest = s.starvedWhere (s.tickReached s.reader.tick) := rfl

theorem State.starvedWhere_eq (s : State) (r : Bool) :
    s.starvedWhere r = { s with
      reader := { s.reader with starved := s.reader.starved || (s.reader.state == .linkWait && r) }
      regs := if s.reader.state = .linkWait ∧ s.reader.starved = false ∧ r = true then s.regs.withFlag .starved
              else s.regs } := by
  unfold State.starvedWhere
  split
  next h => simp [h]
  next h =>
    have same : (s.reader.starved || (s.reader.state == .linkWait && r)) = s.reader.starved := by
      cases hr : s.reader.starved <;> simp_all
    simp [same]

/-- Discarding an ended ramp leaves the period of the tick that begins (R8). -/
theorem Tempo.discard_periodAt (t : Tempo) (x : Tick) : (t.discard x).periodAt x = t.periodAt x := by
  obtain ⟨base, _ | r⟩ := t
  · rfl
  · by_cases h : r.governs x = true <;> simp [Tempo.discard, Tempo.periodAt, h]

/-- Settles O19. -/
theorem aTickBeginsAtItsBoundary : Obligations.ATickBeginsAtItsBoundary := by
  unfold Obligations.ATickBeginsAtItsBoundary
  intro s start x p hn plays ahead reached notDue hp
  refine ⟨_, exec_tickBoundary hn plays ahead reached, ?_⟩
  rw [State.agendaAt_notDue _ x start notDue, State.starvedTest_eq, State.tickReached_begun (by rw [State.beginTick_eq]),
    State.starvedWhere_eq, State.beginTick_eq]
  have period : State.periodOf { s with scu := { s.scu with tick := x, tempo := s.scu.tempo.discard x } } x = p := by
    rw [hp, ← Tempo.discard_periodAt]
    rfl
  simp only [State.setScu, period]
  exact publishes_publish s _

/-! ### Agenda entries at their boundary -/

/-- A pass closes in cue memory and the open block table: the score does not enter (R38). -/
theorem State.closePass_setScu (s : State) (x : Scu) (p : Nat) :
    (s.setScu x).closePass p = (s.closePass p).setScu x := by
  unfold State.closePass
  rw [State.setScu_passes]
  cases s.passes.find? (fun e => e.id == p) with
  | none => rfl
  | some e => by_cases h : (e.readingDone && e.outstanding == 0) = true <;> simp only [h] <;> rfl

/-- An item's end is about cue memory and the open block table (R158). -/
theorem State.resolve_setScu (s : State) (x : Scu) (c : CueRef) (r : List Byte) :
    (s.setScu x).resolve c r = (s.resolve c r).setScu x :=
  State.closePass_setScu ((s.writeResult c.loc r).mapPass c.pass _) x c.pass

/-- What a TEMPO entry makes of the tempo at its boundary: its tempo in FREE and LEAD, nothing in FOLLOW (R9, R10). -/
def State.tempoTaking (s : State) (x : Tick) (target len : Nat) : Tempo :=
  if s.global.syncMode = .follow then s.scu.tempo else s.scu.tempo.apply x target len

/-- A TEMPO entry's result at its boundary (R9, R10). -/
def State.tempoOutcome (s : State) (target : Nat) : List Byte :=
  if s.global.syncMode = .follow then tempoResult .superseded s.scu.period else tempoResult .applied target

theorem State.setScu_self {s : State} {x : Scu} (h : x = s.scu) : s.setScu x = s := by
  subst h
  rfl

theorem State.tempoAtBoundary_eq (s : State) (x : Tick) (e : AgendaEntry) (target len : Nat) :
    s.tempoAtBoundary x e target len =
      (s.resolve e.cue (s.tempoOutcome target)).setScu { s.scu with tempo := s.tempoTaking x target len } := by
  cases hm : s.global.syncMode <;> simp only [State.tempoAtBoundary, State.tempoTaking, State.tempoOutcome, hm]
  case follow => exact (State.setScu_self (by simp)).symm
  all_goals exact s.resolve_setScu _ _ _

theorem State.tempoAtBoundary_setCond (s : State) (c : TickCond) (x : Tick) (e : AgendaEntry) (target len : Nat) :
    (s.setScu { s.scu with cond := c }).tempoAtBoundary x e target len =
      (s.tempoAtBoundary x e target len).setScu { (s.tempoAtBoundary x e target len).scu with cond := c } := by
  simp only [State.tempoAtBoundary_eq, State.resolve_setScu]
  rfl

/-- The tick that a boundary begins or stops takes its condition from the boundary alone. -/
theorem State.agendaAt_setCond (s : State) (c : TickCond) (x : Tick) (b : Int) (l : List AgendaEntry) :
    (s.setScu { s.scu with cond := c }).agendaAt x b l = s.agendaAt x b l := by
  induction l generalizing s with
  | nil => simp only [State.agendaAt, State.beginTick_eq]; rfl
  | cons e es ih =>
    by_cases due : tickUpTo e.onset x = true
    · cases hb : e.body with
      | tempo target len =>
        simp only [State.agendaAt, due, hb, if_true]
        rw [← ih ((s.setScu { s.scu with agenda := es }).tempoAtBoundary x e target len),
          ← State.tempoAtBoundary_setCond]
        rfl
      | holdpoint _ _ timeout _ => simp only [State.agendaAt, due, hb, if_true]; rfl
    · simp only [State.agendaAt, due, if_false, State.beginTick_eq, Bool.false_eq_true]; rfl

/-- A ramp just begun governs its first tick, and a discarded one is gone: nothing more is discarded at that boundary. -/
theorem Tempo.discard_apply (t : Tempo) (x : Tick) (target len : Nat) :
    (t.apply x target len).discard x = t.apply x target len := by
  unfold Tempo.apply
  split
  next => rfl
  next h => simp [Tempo.discard, Ramp.governs, tickUpTo_self, Nat.pos_of_ne_zero h]

theorem Tempo.discard_discard (t : Tempo) (x : Tick) : (t.discard x).discard x = t.discard x := by
  obtain ⟨base, _ | r⟩ := t
  · rfl
  · by_cases h : r.governs x = true <;> simp [Tempo.discard, h]

/-- The tempo after the boundary before tick `x` has dealt with a TEMPO entry (R8 to R10). -/
def State.tempoDealt (s : State) (x : Tick) (target len : Nat) : Tempo :=
  if s.global.syncMode = .follow then s.scu.tempo.discard x
  else if len = 0 then { base := target, ramp := none }
  else { base := target
         ramp := some { first := x, start := (s.scu.tempo.discard x).periodAt x, target := target, len := len } }

theorem State.tempoDealt_discard (s : State) (x : Tick) (target len : Nat) :
    (s.tempoDealt x target len).discard x = s.tempoDealt x target len := by
  by_cases follow : s.global.syncMode = .follow
  · simp only [State.tempoDealt, follow, if_true, Tempo.discard_discard]
  · simp only [State.tempoDealt, follow, if_false]
    exact (s.scu.tempo.discard x).discard_apply x target len

/-- A TEMPO entry at the head of the agenda is dealt with, and the boundary goes on with the entries after it (R6). -/
theorem State.agendaAt_tempo (s : State) {x : Tick} {e : AgendaEntry} (b : Int) {es : List AgendaEntry} {target len : Nat}
    (hb : e.body = .tempo target len) (due : tickUpTo e.onset x = true) :
    (s.setScu { s.scu with tick := x, tempo := s.scu.tempo.discard x }).agendaAt x b (e :: es) =
      ((s.resolve e.cue (s.tempoOutcome target)).setScu
        { s.scu with agenda := es, tick := x, tempo := s.tempoDealt x target len }).agendaAt x b es := by
  simp only [State.agendaAt, due, hb, if_true, State.tempoAtBoundary_eq, State.resolve_setScu]
  rfl

/-- A HOLDPOINT entry at the head of the agenda stops its tick (R12). -/
theorem State.agendaAt_holdpoint (s : State) {x : Tick} {e : AgendaEntry} (b : Int) {es : List AgendaEntry}
    {c d : Bool} {timeout delay : Nat} (hb : e.body = .holdpoint c d timeout delay) (due : tickUpTo e.onset x = true) :
    s.agendaAt x b (e :: es) = (s.setScu { s.scu with agenda := e :: es }).holdAt b timeout := by
  simp only [State.agendaAt, due, hb, if_true]

/-- An item's end changes cue memory and the open block table alone. -/
theorem State.resolve_eq (s : State) (c : CueRef) (r : List Byte) :
    ∃ mem passes, s.resolve c r = { s with mem := mem, passes := passes } :=
  ⟨_, _, by apply State.eq_of_fields <;> simp <;> rfl⟩

/-- What a step changes does not depend on the state it is published against, but for the bytes published. -/
theorem publish_base (a b x : State) :
    publish a x = { publish b x with mem := (publish a x).mem } ∧ sameOutside (publish b x) (publish a x) published :=
  ⟨by apply State.eq_of_fields <;> simp, fun _ h => (read_publish a x h).trans (read_publish b x h).symm⟩

/-- A tick that its boundary has made current, scheduled there again, goes on with the agenda as it then is (R6). -/
theorem exec_tickBoundary_again {B : State} {start : Int} (hn : B.nrstLow = false)
    (plays : B.perf.state = .running ∨ B.perf.state = .draining)
    (stays : B.scu.tempo.discard B.scu.tick = B.scu.tempo) (reached : start ≤ B.scu.pt.toNat) :
    exec .tickBoundary (B.setScu { B.scu with cond := .scheduled start }) =
      .next (publish (B.setScu { B.scu with cond := .scheduled start })
        (B.agendaAt B.scu.tick start B.scu.agenda).starvedTest) := by
  rw [← B.agendaAt_setCond (.scheduled start)]
  refine (exec_tickBoundary (s := B.setScu { B.scu with cond := .scheduled start }) hn plays (.inl ⟨rfl, rfl⟩)
    reached).trans ?_
  rw [State.setScu_self (s := B.setScu { B.scu with cond := .scheduled start }) (by simp [stays])]
  rfl

/-- Settles O20. -/
theorem agendaEntriesAreDealtWithAtTheirBoundary : Obligations.AgendaEntriesAreDealtWithAtTheirBoundary := by
  unfold Obligations.AgendaEntriesAreDealtWithAtTheirBoundary
  constructor
  · intro s start x e es target len hn plays ahead reached ha hb due tempo dealt
    have taken := exec_tickBoundary hn plays ahead reached
    rw [ha, s.agendaAt_tempo start hb due] at taken
    have htempo : s.tempoDealt x target len = tempo := rfl
    have stays : tempo.discard x = tempo := s.tempoDealt_discard x target len
    have hdealt : s.resolve e.cue (s.tempoOutcome target) = dealt := rfl
    rw [htempo, hdealt] at taken
    obtain ⟨mem, passes, hd⟩ : ∃ mem passes, dealt = { s with mem := mem, passes := passes } := s.resolve_eq _ _
    clear_value tempo dealt
    subst hd
    constructor
    · intro alone
      rw [State.agendaAt_notDue _ x start alone, State.starvedTest_eq,
        State.tickReached_begun (by rw [State.beginTick_eq]), State.beginTick_eq] at taken
      exact ⟨_, taken, publishes_publish s _⟩
    · intro f hf more
      generalize hB : State.setScu { s with mem := mem, passes := passes } _ = B at taken
      have again := exec_tickBoundary_again (B := B) (start := start) (by rw [← hB]; exact hn) (by rw [← hB]; exact plays)
        (by rw [← hB]; exact stays) (by rw [← hB]; exact reached)
      subst hB
      exact ⟨_, _, taken, again, publish_base _ _ _⟩
  · intro s start x e c d timeout delay hn plays ahead reached ha hb due
    obtain ⟨es, ha⟩ : ∃ es, s.scu.agenda = e :: es := by
      cases h : s.scu.agenda <;> simp_all
    have taken := exec_tickBoundary hn (.inl plays) ahead reached
    rw [ha, State.agendaAt_holdpoint _ start hb due, State.starvedTest_eq,
      State.tickReached_unscheduled (by simp [State.holdAt])] at taken
    refine ⟨_, taken, ?_⟩
    rw [← ha]
    exact publishes_publish s _

end Sys2Proof.Machine

namespace Sys2Proof.Machine
open Sys2Proof

/-! ### Release of a holdpoint -/

/-- The holding holdpoint is the HOLDPOINT entry at the head of the agenda (R12). -/
theorem State.holdpoint_of_head {s : State} {e : AgendaEntry} {c d : Bool} {timeout delay : Nat}
    (ha : s.scu.agenda.head? = some e) (hb : e.body = .holdpoint c d timeout delay) : s.holdpoint = some e := by
  unfold State.holdpoint
  cases h : s.scu.agenda <;> simp_all

/-- Where a released tick is placed (R13 step 5). -/
theorem State.placeReleased_eq (s : State) (delay : Nat) :
    s.placeReleased delay =
      if s.global.syncMode = .follow ∧ (s.scu.sync = .locked ∨ s.scu.sync = .acquire) then .unscheduled
      else .scheduled (s.scu.pt.toNat + 16000 * (max delay 40 : Nat)) := by
  unfold State.placeReleased State.now
  cases s.global.syncMode <;> cases s.scu.sync <;> simp

/-- The release of the holding holdpoint (R13, R33). -/
theorem State.releaseHeld_eq {s : State} {e : AgendaEntry} {es : List AgendaEntry} {c d : Bool} {timeout delay : Nat}
    (src : ReleaseSource) (ha : s.scu.agenda = e :: es) (hb : e.body = .holdpoint c d timeout delay) :
    s.releaseHeld src = s.releasedFrom e es src delay := by
  have head : s.holdpoint = some e := State.holdpoint_of_head (by rw [ha]; rfl) hb
  simp only [State.releaseHeld, head, hb, State.releaseHoldpoint, State.releasedFrom, State.placeReleased_eq]
  rw [State.setPerf_scu, ha, List.tail_cons]
  exact if_congr (by simp) rfl rfl

/-- An edge that a filter of SYNCI, CUEI or HOME accepts rising is due once the line has held for 1,000 µs (R126, R127). -/
theorem accepts_rising {s : State} {l : InLine} {q : Qual} (hf : s.filter l = { settled := false, qual := some q })
    (ht : s.filterTime l = 1000) (hb : q.bounce = none) (held : reached s.scu.dt (q.holdStart + 1000) = true) :
    s.accepts l = some q.rawDt := by
  simp [State.accepts, hf, ht, hb]
  exact held

/-- The CUEI filter has accepted a rising edge (R126). -/
abbrev State.cueiSettled (s : State) : State :=
  { s with siu := { s.siu with cuei := { settled := true, qual := none } } }

/-- An accepted rising edge of CUEI settles its filter and is delivered (R126, R129). -/
theorem exec_cueiEdge {s : State} {q : Qual} (hn : s.nrstLow = false)
    (hf : s.siu.cuei = { settled := false, qual := some q }) (hb : q.bounce = none)
    (held : reached s.scu.dt (q.holdStart + 1000) = true) :
    exec .cueiEdge s = .next (publish s s.cueiSettled.cueEdge) := by
  have due : edgeDue .cuei s = true := by
    simp [edgeDue, accepts_rising (l := .cuei) hf rfl hb held, State.delivers, State.filter, hf]
  have settled : s.settleLine .cuei = s.cueiSettled := by
    simp only [State.settleLine, State.filter, hf]
    rfl
  rw [← settled]
  simp only [exec, execCueiEdge]
  exact onEvent_due _ hn due

/-- The holding holdpoint's own parameters say which sources release it (R13). -/
theorem State.holdBy_of_head {s : State} {e : AgendaEntry} {c d : Bool} {timeout delay : Nat}
    (ha : s.scu.agenda.head? = some e) (hb : e.body = .holdpoint c d timeout delay) :
    s.holdByCue = c ∧ s.holdByCommand = d := by
  simp [State.holdByCue, State.holdByCommand, State.holdpoint_of_head ha hb, hb]

/-- CONTINUE is recorded with its verdict where it is refused (R152). -/
theorem exec_cont_refused {s : State} {v : CmdOutcome} (hn : s.nrstLow = false) (hv : continueVerdict s = v)
    (refused : v ≠ .accepted) :
    exec .cont s =
      .next { s with port := s.wrotePort regControl, regs := { s.regs with code := 5, outcome := v } } := by
  simp only [exec, execContinue]
  exact onControl_refused _ hn hv refused

/-- CONTINUE releases the holding holdpoint that enables it (R13, R152). -/
theorem exec_cont_releases {s : State} {e : AgendaEntry} {es : List AgendaEntry} {c : Bool} {timeout delay : Nat}
    (hn : s.nrstLow = false) (holds : s.perf.state = .holding) (ha : s.scu.agenda = e :: es)
    (hb : e.body = .holdpoint c true timeout delay) :
    exec .cont s =
      let u := State.releasedFrom { s with port := s.wrotePort regControl } e es .cont delay
      .next (publish s (u.setRegs (u.regs.accepted 5))) := by
  have allowed : continueVerdict s = .accepted := by
    simp [continueVerdict, holds, (State.holdBy_of_head (by rw [ha]; rfl) hb).2]
  rw [← State.releaseHeld_eq (s := { s with port := s.wrotePort regControl }) .cont ha hb]
  simp only [exec, execContinue]
  exact onControl_accepted _ hn allowed

/-- A timeout that PT has reached releases the holding holdpoint (R13). -/
theorem exec_holdpointTimeout {s : State} {e : AgendaEntry} {es : List AgendaEntry} {c d : Bool} {timeout delay : Nat}
    {x : Int} (hn : s.nrstLow = false) (holds : s.perf.state = .holding) (ha : s.scu.agenda = e :: es)
    (hb : e.body = .holdpoint c d timeout delay) (hx : s.scu.holdExpiry = some x) (passed : x ≤ s.scu.pt.toNat) :
    exec .holdpointTimeout s = .next (publish s (s.releasedFrom e es .timeout delay)) := by
  have due : holdpointTimeoutDue s = true := by
    simp [holdpointTimeoutDue, hx, holds, State.holdpoint_of_head (s := s) (by rw [ha]; rfl) hb, State.now, passed]
  rw [← State.releaseHeld_eq .timeout ha hb]
  simp only [exec, execHoldpointTimeout]
  exact onEvent_due _ hn due

/-- A recorded command publishes what it made, with the registers as recorded. -/
theorem publishes_recorded (b u : State) (r : Regs) :
    publishes { u with regs := (publish b (u.setRegs r)).regs } (publish b (u.setRegs r)) := by
  rw [show (publish b (u.setRegs r)).regs = r by simp]
  exact publishes_publish b _

/-- Settles O21. -/
theorem aHoldpointIsReleasedBySourcesItAllows : Obligations.AHoldpointIsReleasedBySourcesItAllows := by
  unfold Obligations.AHoldpointIsReleasedBySourcesItAllows
  refine ⟨fun s hn elsewhere => exec_cont_refused hn (by simp [continueVerdict, elsewhere]) (by simp),
    fun s q hn hf hb held idle => ?_, fun s e es c d timeout delay hn holds ha hb => ?_⟩
  · have kept : s.cueiSettled.cueEdge = s.cueiSettled := by
      rw [State.cueEdge, if_neg]
      rintro ⟨holds, byCue⟩
      rcases idle with other | ⟨e, d, timeout, delay, ha, he⟩
      · exact other holds
      · rw [(State.holdBy_of_head (s := s.cueiSettled) ha he).1] at byCue
        cases byCue
    rw [exec_cueiEdge hn hf hb held, kept]
    exact congrArg _ (publish_same rfl rfl rfl rfl)
  · have head : s.scu.agenda.head? = some e := by rw [ha]; rfl
    refine ⟨fun allowed => ?_, fun refused => ?_, fun q allowed hf bounce held => ?_, fun x hx passed => ?_⟩
    · subst allowed
      exact ⟨_, exec_cont_releases hn holds ha hb, by simp, by simp, publishes_recorded s _ _⟩
    · exact exec_cont_refused hn (by simp [continueVerdict, holds, (State.holdBy_of_head head hb).2, refused]) (by simp)
    · have released : s.cueiSettled.cueEdge = s.cueiSettled.releasedFrom e es .cue delay := by
        rw [State.cueEdge, if_pos ⟨holds, (State.holdBy_of_head (s := s.cueiSettled) head hb).1.trans allowed⟩]
        exact State.releaseHeld_eq .cue ha hb
      rw [exec_cueiEdge hn hf bounce held, released]
      exact ⟨_, rfl, publishes_publish s _⟩
    · exact ⟨_, exec_holdpointTimeout hn holds ha hb hx passed, publishes_publish s _⟩

/-! ### Sync pulses -/

/-- An accepted rising edge of SYNCI settles its filter and is delivered with its raw-edge DT (R126, R129). -/
theorem exec_syncPulse {s : State} {q : Qual} (hn : s.nrstLow = false)
    (hf : s.siu.synci = { settled := false, qual := some q }) (hb : q.bounce = none)
    (held : reached s.scu.dt (q.holdStart + 1000) = true) :
    exec .syncPulse s = .next (publish s (s.synciSettled.syncEdge q.rawDt)) := by
  have accepted : s.accepts .synci = some q.rawDt := accepts_rising (l := .synci) hf rfl hb held
  have due : edgeDue .synci s = true := by
    simp [edgeDue, accepted, State.delivers, State.filter, hf]
  have settled : s.settleLine .synci = s.synciSettled := by
    simp only [State.settleLine, State.filter, hf]
    rfl
  have raw : s.rawEdge .synci = q.rawDt := by simp [State.rawEdge, accepted]
  rw [← settled, ← raw]
  simp only [exec, execSyncPulse]
  exact onEvent_due _ hn due

/-- Regulation gives P its new value where the current tick is placed (R18). -/
theorem State.regulate_eq {s : State} {t : Int} (placed : s.scu.cond ≠ .unscheduled) :
    s.regulate t = s.setPeriod (s.regulatedPeriod t) := by
  unfold State.regulate State.regulatedPeriod
  cases hc : s.scu.cond <;> simp_all

@[simp] theorem Rotor.targetAt_same (r : Rotor) (p : Nat) : r.targetAt p p = r.target := by
  unfold Rotor.targetAt
  split <;> simp

/-- The row of ACQUIRE counts the waiting tick in and locks (R17). -/
theorem State.takePulse_acquire {s : State} (t : Int) (h : s.scu.sync = .acquire) :
    s.takePulse t = s.setScu { s.scu with
      cond := .scheduled (t + 192 * s.scu.period), prevPulse := some t, resumed := false
      lossElapsed := some 0, sync := .locked } := by
  simp only [State.takePulse, h]
  rfl

/-- In LOCKED or LOST a waiting tick is counted in (R17). -/
theorem State.takePulse_countIn {s : State} (t : Int) (h : s.scu.sync = .locked ∨ s.scu.sync = .lost)
    (waits : s.scu.cond = .unscheduled) :
    s.takePulse t = s.setScu { s.scu with
      cond := .scheduled (t + 192 * s.scu.period), prevPulse := some t, resumed := false, lossElapsed := some 0 } := by
  have row : s.takePulse t = ((s.countIn t).recordPulse t).restartLoss := by
    rcases h with h | h <;> simp only [State.takePulse, h, waits, if_true]
  exact row

/-- The first pulse after a RESUME in LOCKED only records its time and restarts the loss timer (R17). -/
theorem State.takePulse_resumed {s : State} (t : Int) (h : s.scu.sync = .locked) (placed : s.scu.cond ≠ .unscheduled)
    (hr : s.scu.resumed = true) :
    s.takePulse t = s.setScu { s.scu with prevPulse := some t, resumed := false, lossElapsed := some 0 } := by
  have row : s.takePulse t = (s.recordPulse t).restartLoss := by
    simp only [State.takePulse, h, placed, hr, if_true, if_false]
  exact row

/-- A pulse in LOCKED regulates (R18). -/
theorem State.takePulse_regulates {s : State} (t : Int) (h : s.scu.sync = .locked)
    (placed : s.scu.cond ≠ .unscheduled) (hr : s.scu.resumed = false) :
    s.takePulse t = { s with
      scu := { s.scu with
        period := s.regulatedPeriod t, prevPulse := some t, resumed := false, lossElapsed := some 0 }
      rot := { s.rot with target := s.rot.targetAt s.scu.period (s.regulatedPeriod t) } } := by
  simp only [State.takePulse, h, placed, hr, if_false, Bool.false_eq_true, State.regulate_eq placed, State.setPeriod_eq]
  rfl

/-- A pulse a good interval after the one before it regains the lock and regulates (R19). -/
theorem State.takePulse_regains {s : State} (t : Int) (h : s.scu.sync = .lost) (placed : s.scu.cond ≠ .unscheduled)
    (hr : s.scu.resumed = false) (good : goodInterval (t - s.scu.prevPulse.getD t) s.scu.period = true) :
    s.takePulse t = { s with
      scu := { s.scu with
        period := s.regulatedPeriod t, prevPulse := some t, resumed := false, lossElapsed := some 0, sync := .locked }
      rot := { s.rot with target := s.rot.targetAt s.scu.period (s.regulatedPeriod t) }
      regs := s.regs.withFlag .sync } := by
  simp only [State.takePulse, h, placed, hr, good, if_true, if_false, Bool.false_eq_true, State.regulate_eq placed,
    State.setPeriod_eq]
  rfl

/-- In LOST any other pulse only records its time (R19). -/
theorem State.takePulse_records {s : State} (t : Int) (h : s.scu.sync = .lost) (placed : s.scu.cond ≠ .unscheduled)
    (other : s.scu.resumed = true ∨ goodInterval (t - s.scu.prevPulse.getD t) s.scu.period = false) :
    s.takePulse t = s.setScu { s.scu with prevPulse := some t, resumed := false } := by
  have row : s.takePulse t = s.recordPulse t := by
    rcases other with e | e <;> simp [State.takePulse, h, placed, e]
  exact row

/-- In sync state NONE a pulse has no effect (R17). -/
theorem State.takePulse_none {s : State} (t : Int) (h : s.scu.sync = .none) : s.takePulse t = s := by
  simp only [State.takePulse, h]

/-- Every row of R17 leaves the rotor's target as P says. -/
theorem State.takePulse_rot (s : State) (t : Int) :
    (s.takePulse t).rot = { s.rot with target := s.rot.targetAt s.scu.period (s.takePulse t).scu.period } := by
  by_cases waits : s.scu.cond = .unscheduled
  · cases h : s.scu.sync
    · simp [State.takePulse_none t h]
    · simp [State.takePulse_acquire t h]
    · simp [State.takePulse_countIn t (.inl h) waits]
    · simp [State.takePulse_countIn t (.inr h) waits]
  · cases h : s.scu.sync
    · simp [State.takePulse_none t h]
    · simp [State.takePulse_acquire t h]
    · cases hr : s.scu.resumed
      · simp [State.takePulse_regulates t h waits hr]
      · simp [State.takePulse_resumed t h waits hr]
    · cases hr : s.scu.resumed
      · cases good : goodInterval (t - s.scu.prevPulse.getD t) s.scu.period
        · simp [State.takePulse_records t h waits (.inr good)]
        · simp [State.takePulse_regains t h waits hr good]
      · simp [State.takePulse_records t h waits (.inl hr)]

/-- The interval is good within 3/4 and 5/4 of a beat, both included (R19). -/
theorem goodInterval_iff (m : Int) (p : Nat) :
    goodInterval m p = true ↔ 4 * m ≥ 3 * 192 * p ∧ 4 * m ≤ 5 * 192 * p := by
  simp [goodInterval]

/-- Publishing leaves the score unit and the rotor. -/
theorem publish_scu_rot (b u : State) : (publish b u).scu = u.scu ∧ (publish b u).rot = u.rot := by simp

/-- A command that makes a new rotor publishes what it made. -/
theorem publishes_turned (b u : State) : publishes { u with rot := (publish b u).rot } (publish b u) := by
  rw [(publish_scu_rot b u).2]
  exact publishes_publish b u

/-- Settles O23: the row of the sync state, each by its own lemma. -/
theorem aSyncPulseIsTakenByItsRow : Obligations.ASyncPulseIsTakenByItsRow := by
  unfold Obligations.ASyncPulseIsTakenByItsRow
  intro s q t0 hn hf hb held ht
  have quiet {u : State} (ha : u.lineA = s.lineA) (hc : u.lineC = s.lineC) (hch : u.chans = s.chans)
      (hm : u.mem = s.mem) : publish s u = u := publish_same ha hc hch hm
  refine ⟨_, exec_syncPulse hn hf hb held, fun elsewhere => ?_, fun follow plays => ?_, ?_⟩
  · rw [State.syncEdge, if_neg]
    · exact quiet rfl rfl rfl rfl
    · rw [PerfState.scores_iff]
      rintro ⟨follow, plays⟩
      exact elsewhere.elim (fun e => e follow) fun e => plays.elim e.1 e.2
  · have taken : s.synciSettled.syncEdge q.rawDt = s.synciSettled.takePulse t0 := by
      rw [State.syncEdge, if_pos ⟨follow, (PerfState.scores_iff _).2 plays⟩, ht]
      rfl
    rw [taken]
    refine ⟨fun h => ?_, fun h => ?_, fun h waits => ?_, fun h placed hr => ?_, fun h placed hr => ?_,
      fun h placed hr lo hi => ?_, fun h placed other => ?_⟩
    · rw [State.takePulse_none (s := s.synciSettled) t0 h]
      exact quiet rfl rfl rfl rfl
    · rw [State.takePulse_acquire (s := s.synciSettled) t0 h]
      exact publishes_publish s _
    · rw [State.takePulse_countIn (s := s.synciSettled) t0 h waits]
      exact publishes_publish s _
    · rw [State.takePulse_resumed (s := s.synciSettled) t0 h placed hr]
      exact publishes_publish s _
    · rw [State.takePulse_regulates (s := s.synciSettled) t0 h placed hr]
      exact publishes_turned s _
    · rw [State.takePulse_regains (s := s.synciSettled) t0 h placed hr ((goodInterval_iff _ _).2 ⟨lo, hi⟩)]
      exact publishes_turned s _
    · rw [State.takePulse_records (s := s.synciSettled) t0 h placed]
      · exact quiet rfl rfl rfl rfl
      · refine other.imp_right fun e => ?_
        rw [← Bool.not_eq_true, goodInterval_iff]
        rintro ⟨lo, hi⟩
        exact e.elim (fun e => not_lt.2 lo e) fun e => not_lt.2 hi e
  · have turned : (s.synciSettled.syncEdge q.rawDt).rot =
        { s.rot with target := s.rot.targetAt s.scu.period (s.synciSettled.syncEdge q.rawDt).scu.period } := by
      unfold State.syncEdge
      split
      · exact State.takePulse_rot s.synciSettled _
      · exact congrArg (fun x => { s.rot with target := x }) (Rotor.targetAt_same s.rot s.scu.period).symm
    obtain ⟨score, rotor⟩ := publish_scu_rot s (s.synciSettled.syncEdge q.rawDt)
    rw [rotor, score, turned]
    rfl

end Sys2Proof.Machine

/-! PROOFS. Score time: regulation, ramps and projection. -/
namespace Sys2Proof.Machine
open Sys2Proof

/-! ### Regulation (R18) -/

/-- The pulse lies at most half a beat from the nearest beat, and not a whole half before it (R18 steps 2 to 4). -/
theorem phaseError_bounds (n since : Int) {len : Int} (pos : 0 < len) :
    -(96 * len) < phaseError n len since ∧ phaseError n len since ≤ 96 * len := by
  have above := Int.mul_ediv_self_le (x := 192 * len - 2 * (n * len + since)) (k := 384 * len) (by omega)
  have below := Int.lt_mul_ediv_self_add (x := 192 * len - 2 * (n * len + since)) (k := 384 * len) (by omega)
  simp only [phaseError, nearestBeat]
  constructor <;> linarith

/-! ### Ramps (R8, R9) -/

/-- Fewer than 2^31 ticks on, the signed difference of ticks counts them (R4). -/
theorem tickAhead_toInt (j : Tick) {k : Nat} (small : k < 2147483648) : (j + BitVec.ofNat 32 k - j).toInt = k := by
  rw [add_sub_cancel_left, BitVec.toInt_eq_toNat_cond, BitVec.toNat_ofNat]
  omega

theorem tickUpTo_iff (a b : Tick) : tickUpTo a b = true ↔ 0 ≤ (b - a).toInt := by
  simp [tickUpTo, BitVec.msb_eq_toInt]

theorem Ramp.governs_iff (r : Ramp) (j : Tick) :
    r.governs j = true ↔ 0 ≤ (j - r.first).toInt ∧ (j - r.first).toInt < r.len := by
  simp [Ramp.governs, tickUpTo_iff]

theorem Tempo.periodAt_governed {r : Ramp} {j : Tick} (base : Nat) (h : r.governs j = true) :
    (Tempo.mk base (some r)).periodAt j = r.periodAt j := by
  simp [Tempo.periodAt, h]

theorem Tempo.periodAt_beyond {r : Ramp} {j : Tick} (base : Nat) (h : r.governs j = false) :
    (Tempo.mk base (some r)).periodAt j = base := by
  simp [Tempo.periodAt, h]

/-- A part of a distance, truncated toward zero, lies within the distance (R9). -/
theorem tdiv_within {x n l : Int} (hn : 0 ≤ n) (hl : n ≤ l) (pos : 0 < l) :
    min 0 x ≤ (x * n).tdiv l ∧ (x * n).tdiv l ≤ max 0 x := by
  have part (y : Int) (hy : 0 ≤ y) : 0 ≤ (y * n).tdiv l ∧ (y * n).tdiv l ≤ y := by
    have within : y * n ≤ y * l := Int.mul_le_mul_of_nonneg_left hl hy
    rw [Int.tdiv_eq_ediv_of_nonneg (mul_nonneg hy hn)]
    exact ⟨Int.ediv_nonneg (mul_nonneg hy hn) pos.le, Int.ediv_le_of_le_mul pos within⟩
  rcases le_total 0 x with up | down
  · obtain ⟨low, high⟩ := part x up
    omega
  · obtain ⟨low, high⟩ := part (-x) (by omega)
    rw [neg_mul, Int.neg_tdiv] at low high
    omega

/-- A ramp between periods gives periods (R8, R9). -/
theorem Ramp.periodAt_isPeriod {r : Ramp} {j : Tick} (ok : r.ok) (h : r.governs j = true) : isPeriod (r.periodAt j) := by
  obtain ⟨⟨_, _⟩, ⟨_, _⟩, _⟩ := ok
  obtain ⟨since, before⟩ := r.governs_iff j |>.1 h
  have within := tdiv_within (x := (r.target : Int) - r.start) (n := (j - r.first).toInt + 1) (l := r.len)
    (by omega) (by omega) (by omega)
  simp only [isPeriod, Ramp.periodAt]
  omega

/-- The ticks a ramp gives, its last one, and those beside it (R8, R9). -/
theorem ramp_interpolates (r : Ramp) (base i : Nat) (ok : r.ok) (short : r.len < 65536) :
    (i < r.len → (Tempo.mk base (some r)).periodAt (r.first + BitVec.ofNat 32 i)
      = ((r.start : Int) + Int.tdiv (((r.target : Int) - r.start) * (i + 1)) r.len).toNat) ∧
    (Tempo.mk base (some r)).periodAt (r.first + BitVec.ofNat 32 (r.len - 1)) = r.target ∧
    (Tempo.mk base (some r)).periodAt (r.first + BitVec.ofNat 32 r.len) = base ∧
    (Tempo.mk base (some r)).periodAt (r.first - 1) = base ∧
    (∀ j, isPeriod base → isPeriod ((Tempo.mk base (some r)).periodAt j)) := by
  have long : 0 < r.len := ok.2.2
  have inside (i : Nat) (hi : i < r.len) : (Tempo.mk base (some r)).periodAt (r.first + BitVec.ofNat 32 i)
      = ((r.start : Int) + Int.tdiv (((r.target : Int) - r.start) * (i + 1)) r.len).toNat := by
    have count := tickAhead_toInt r.first (k := i) (by omega)
    rw [Tempo.periodAt_governed base ((r.governs_iff _).2 (by omega)), Ramp.periodAt, count]
  refine ⟨inside i, ?_, ?_, ?_, fun j hb => ?_⟩
  · rw [inside (r.len - 1) (by omega), show ((r.len - 1 : Nat) : Int) + 1 = r.len by omega,
      Int.mul_tdiv_cancel _ (by omega)]
    omega
  · refine Tempo.periodAt_beyond base (Bool.eq_false_iff.2 fun h => ?_)
    have count := tickAhead_toInt r.first (k := r.len) (by omega)
    have := (r.governs_iff _).1 h
    omega
  · refine Tempo.periodAt_beyond base (Bool.eq_false_iff.2 fun h => ?_)
    have back : (r.first - 1 - r.first).toInt = -1 := by
      rw [show r.first - 1 - r.first = -1 by bv_omega]; rfl
    have := (r.governs_iff _).1 h
    omega
  · cases h : r.governs j with
    | true => rw [Tempo.periodAt_governed base h]; exact Ramp.periodAt_isPeriod ok h
    | false => rwa [Tempo.periodAt_beyond base h]

/-! ### Projection (R11) -/

theorem Tempo.taking_tempo {e : AgendaEntry} {target len : Nat} (t : Tempo) (x : Tick) (h : e.body = .tempo target len) :
    Tempo.taking x t e = t.apply x target len := by
  simp [Tempo.taking, Tempo.apply, h]

/-- Applying what is due takes the TEMPO entries at the head of the agenda that the boundary applies (R6, R9). -/
theorem Tempo.applyDue_eq (x : Tick) (agenda : List AgendaEntry) (t : Tempo) :
    t.applyDue x agenda = ((agenda.takeWhile (AgendaEntry.appliesAt x)).foldl (Tempo.taking x) t,
      agenda.dropWhile (AgendaEntry.appliesAt x)) := by
  induction agenda generalizing t with
  | nil => rfl
  | cons e es ih =>
    cases due : tickUpTo e.onset x with
    | false => simp [Tempo.applyDue, AgendaEntry.appliesAt, due]
    | true =>
      cases body : e.body with
      | tempo target len =>
        simp [Tempo.applyDue, AgendaEntry.appliesAt, AgendaEntry.isHoldpoint, due, body, ih,
          Tempo.taking_tempo t x body]
      | holdpoint => simp [Tempo.applyDue, AgendaEntry.appliesAt, AgendaEntry.isHoldpoint, due, body]

/-- What governs tick `first + k + 1` is what governs the `k`-th tick after the next one, from what the boundary before `first` leaves. -/
theorem tempoAhead_succ (t : Tempo) (agenda : List AgendaEntry) (first : Tick) (k : Nat) :
    tempoAhead t agenda first (k + 1) =
      tempoAhead (tempoThrough first t agenda).1 (tempoThrough first t agenda).2 (first + 1) k := by
  induction k with
  | zero => rfl
  | succ k ih =>
    have same : first + BitVec.ofNat 32 (k + 1 + 1) = first + 1 + BitVec.ofNat 32 (k + 1) := by
      apply BitVec.eq_of_toNat_eq; simp; omega
    rw [tempoAhead, ih, same]
    rfl

/-- One tick more adds its period to the sum. -/
theorem sumPeriods_succ (t : Tempo) (agenda : List AgendaEntry) (j : Tick) (k : Nat) :
    sumPeriods t agenda j (k + 1) =
      sumPeriods t agenda j k + ((tempoAhead t agenda j k).1.periodAt (j + BitVec.ofNat 32 k) : Int) := by
  induction k generalizing t agenda j with
  | zero => simp [sumPeriods, tempoAhead, tempoThrough, Tempo.applyDue_eq]
  | succ k ih =>
    have through : (t.discard j).applyDue j agenda = tempoThrough j t agenda := Tempo.applyDue_eq j agenda _
    have same : j + BitVec.ofNat 32 (k + 1) = j + 1 + BitVec.ofNat 32 k := by
      apply BitVec.eq_of_toNat_eq; simp; omega
    rw [sumPeriods, ih, tempoAhead_succ, same, sumPeriods, through]
    omega

theorem State.future_succ (s : State) (first : Tick) (k : Nat) :
    s.future first (k + 1) = s.future first k + (s.periodAhead first k : Int) := by
  unfold State.future State.periodAhead
  cases s.global.syncMode with
  | follow => simp [mul_add]
  | free => simpa using sumPeriods_succ ..
  | lead => simpa using sumPeriods_succ ..

/-- The ticks from the next boundary on start after the periods between (R11). -/
theorem State.project_ahead {s : State} {start : Int} {first : Tick} (h : s.boundaryAhead start first) {k : Nat}
    (small : k + 1 < 2147483648) : s.project (first + BitVec.ofNat 32 k) = some (start + s.future first k) := by
  rcases h with ⟨hc, rfl⟩ | ⟨b, len, hc, rfl, rfl⟩
  · have upTo : tickUpTo s.scu.tick (s.scu.tick + BitVec.ofNat 32 k) = true := by
      rw [tickUpTo_iff, tickAhead_toInt _ (by omega)]; omega
    have count : (s.scu.tick + BitVec.ofNat 32 k - s.scu.tick).toNat = k := by
      rw [add_sub_cancel_left, BitVec.toNat_ofNat]; omega
    simp only [State.project, hc, upTo, count, if_true]
  · have same : s.scu.tick + 1 + BitVec.ofNat 32 k = s.scu.tick + BitVec.ofNat 32 (k + 1) := by
      apply BitVec.eq_of_toNat_eq; simp; omega
    have upTo : tickUpTo s.scu.tick (s.scu.tick + BitVec.ofNat 32 (k + 1)) = true := by
      rw [tickUpTo_iff, tickAhead_toInt _ (by omega)]; omega
    have count : (s.scu.tick + BitVec.ofNat 32 (k + 1) - s.scu.tick).toNat = k + 1 := by
      rw [add_sub_cancel_left, BitVec.toNat_ofNat]; omega
    simp only [State.project, hc, same, upTo, count, if_true]

@[simp] theorem State.future_zero (s : State) (j : Tick) : s.future j 0 = 0 := by
  unfold State.future
  cases s.global.syncMode <;> simp [sumPeriods]

/-- The current tick and those before it are projected to the start of the current tick (R11). -/
theorem State.project_current {s : State} {start : Int} {n : Tick}
    (placed : s.scu.cond = .scheduled start ∨ ∃ len, s.scu.cond = .begun start len)
    (h : n = s.scu.tick ∨ tickUpTo s.scu.tick n = false) : s.project n = some start := by
  have ahead : (if tickUpTo s.scu.tick n then (n - s.scu.tick).toNat else 0) = 0 := by
    rcases h with rfl | h
    · simp
    · simp [h]
  rcases placed with hc | ⟨len, hc⟩ <;> simp only [State.project, ahead, hc, State.future_zero, add_zero]

/-- Settles O24. -/
theorem periodsFollowTheRegulationAndTheRamp : Obligations.PeriodsFollowTheRegulationAndTheRamp := by
  unfold Obligations.PeriodsFollowTheRegulationAndTheRamp
  refine ⟨fun m n len since p pos => ?_, ramp_interpolates, fun s n => ⟨fun waits => ?_, ?_, ?_⟩, ?_, fun s c => ?_⟩
  · obtain ⟨after, before⟩ := phaseError_bounds n since pos
    exact ⟨nearestBeat (n * len + since) len, _, _, dvd_mul_right _ _, rfl, after, before, rfl, rfl⟩
  · simp [State.project, waits]
  · exact fun start placed h => State.project_current placed h
  · intro start len hc
    have next := State.project_ahead (s := s) (k := 0) (.inr ⟨start, len, hc, rfl, rfl⟩) (by omega)
    simpa using next
  · intro s start first k h small
    rw [State.project_ahead h (by omega), State.project_ahead h (by omega), State.future_succ]
    simp [add_assoc]
  · unfold State.cueOnset
    cases c.body <;> rfl

end Sys2Proof.Machine

/-! PROOFS. What the reader's steps from block to block leave as it was: memory outside the completion counts and the fault record, the
flags that are set, and the loop stack. -/
namespace Sys2Proof.Machine
open Sys2Proof

/-! ### Flags -/

/-- A flag set stays set whatever flag is set after it (R169). -/
theorem State.flag_setFlag_of {s : State} {f : AttnFlag} (g : AttnFlag) (h : s.flag f = true) :
    (s.setFlag g).flag f = true := by
  simp only [State.flag] at h
  simp [State.flag, State.setFlag, h]

theorem State.flag_setFlag (s : State) (f : AttnFlag) : (s.setFlag f).flag f = true := by
  cases f <;> simp [State.flag, State.setFlag, AttnFlag.bit]

theorem State.flag_of_regs {s t : State} {f : AttnFlag} (hr : t.regs = s.regs) (h : s.flag f = true) :
    t.flag f = true := by
  rwa [State.flag, hr]

/-! ### Reading on -/

/-- Every open pass is one of a block of block space (R23, R36). -/
def State.passesPlaced (s : State) : Prop := ∀ p ∈ s.passes, validBlockAddr p.block = true

/-- The bytes that reading on may write: the fault record, and completion counts in block space (R38, R166). -/
def readingBytes (a : Nat) : Prop := faultBytes a ∨ (0x1000 ≤ a ∧ a % 256 = 3)

/-- `t` is left where the reader went on from `s`, entering blocks by their links. -/
structure State.goesOnTo (s t : State) : Prop where
  passes : s.passesPlaced → t.passesPlaced
  mem    : s.passesPlaced → sameOutside s t readingBytes
  flags  : ∀ f, s.flag f = true → t.flag f = true
  stack  : t.reader.stack = s.reader.stack

theorem State.goesOnTo.refl (s : State) : s.goesOnTo s := ⟨id, fun _ _ _ => rfl, fun _ => id, rfl⟩

theorem State.goesOnTo.trans {s t u : State} (h : s.goesOnTo t) (k : t.goesOnTo u) : s.goesOnTo u where
  passes placed := k.passes (h.passes placed)
  mem placed a ha := (k.mem (h.passes placed) a ha).trans (h.mem placed a ha)
  flags f hf := k.flags f (h.flags f hf)
  stack := k.stack.trans h.stack

/-- A step that touches neither passes, memory, flags nor stack. -/
theorem State.goesOnTo.of_eq {s t : State} (hp : t.passes = s.passes) (hm : t.mem = s.mem) (hr : t.regs = s.regs)
    (hs : t.reader.stack = s.reader.stack) : s.goesOnTo t where
  passes placed := by rwa [State.passesPlaced, hp]
  mem _ _ _ := by rw [hm]
  flags _ hf := State.flag_of_regs hr hf
  stack := hs

/-- What the reader goes on to from changed registers of its own, the stack kept. -/
theorem State.goesOnTo.of_setReader {s t : State} (r : Reader) (h : (s.setReader r).goesOnTo t)
    (same : r.stack = s.reader.stack) : s.goesOnTo t :=
  (State.goesOnTo.of_eq (s := s) (t := s.setReader r) rfl rfl rfl same).trans h

/-- The performance state counts for nothing here. -/
theorem State.goesOnTo.setPerf {s t : State} (h : s.goesOnTo t) (x : Perf) : s.goesOnTo (t.setPerf x) :=
  h.trans (.of_eq rfl rfl rfl rfl)

theorem readingBytes_completion {a : Addr} (h : validBlockAddr a = true) : readingBytes (a.toNat + 3) := by
  simp only [validBlockAddr, Bool.and_eq_true, beq_iff_eq, decide_eq_true_eq] at h
  exact .inr (by omega)

/-- Closing a pass writes the completion count of its block alone (R38). -/
theorem State.closePass_goesOnTo (s : State) (p : Nat) : s.goesOnTo (s.closePass p) := by
  unfold State.closePass
  split
  next e he =>
    split
    · refine ⟨fun placed q hq => ?_, fun placed a ha => ?_, fun f hf => ?_, rfl⟩
      · exact placed q (List.mem_of_mem_filter hq)
      · refine s.read_poke_ne _ ?_
        have : a ≠ e.block.toNat + 3 := by
          rintro rfl
          exact ha (readingBytes_completion (placed e (List.mem_of_find?_eq_some he)))
        simp only [List.length_singleton]
        omega
      · exact hf
    · exact .refl s
  next => exact .refl s

theorem State.markDone_goesOnTo (s : State) (p : Nat) : s.goesOnTo (s.markDone p) := by
  refine State.goesOnTo.trans (t := s.mapPass p fun e => { e with readingDone := true }) ?_ (State.closePass_goesOnTo _ p)
  refine ⟨fun placed q hq => ?_, fun _ _ _ => rfl, fun _ => id, rfl⟩
  obtain ⟨e, he, rfl⟩ := List.mem_map.1 hq
  split <;> exact placed e he

theorem State.leavePass_goesOnTo (s : State) : s.goesOnTo s.leavePass := by
  unfold State.leavePass
  split
  · exact .of_setReader _ (State.markDone_goesOnTo _ _) rfl
  · exact .refl s

/-- A fault's record stands in its four lines (R166). -/
theorem State.read_handFault (s : State) (i : FaultInfo) {a : Nat} (h : ¬faultBytes a) :
    Memory.read (s.handFault i).mem a = Memory.read s.mem a := by
  have elsewhere : a < 0x40 ∨ 0x80 ≤ a := by simp only [not_and_or] at h; omega
  rw [State.handFault, show ∀ t : State, (t.setFlag .fault).mem = t.mem from fun _ => rfl]
  split
  · exact s.read_poke_ne _ (by simp only [List.length_singleton]; omega)
  · have length : (s.faultRecord i).length = 64 := by simp [State.faultRecord]
    exact s.read_poke_ne _ (by omega)

theorem State.flag_handFault (s : State) (i : FaultInfo) : (s.handFault i).flag .fault = true := State.flag_setFlag _ _

theorem State.flag_handFault_of {s : State} {f : AttnFlag} (i : FaultInfo) (h : s.flag f = true) :
    (s.handFault i).flag f = true := by
  unfold State.handFault
  refine State.flag_setFlag_of .fault ?_
  split
  · exact State.flag_of_regs (State.setMem_regs s _) h
  · exact State.flag_of_regs (State.setMem_regs s _) h

theorem State.handFault_goesOnTo (s : State) (i : FaultInfo) : s.goesOnTo (s.handFault i) where
  passes placed := by simpa [State.passesPlaced] using placed
  mem _ a ha := s.read_handFault i fun h => ha (.inl h)
  flags _ hf := State.flag_handFault_of i hf
  stack := by simp

theorem State.chainFault_goesOnTo (s : State) (d : FaultDetail) (b : Addr) (i k : Nat) :
    s.goesOnTo (s.chainFault d b i k) := by
  have left := State.leavePass_goesOnTo (s.setReader { s.reader with state := .faulted, pending := .none })
  exact (left.of_setReader _ rfl).trans ((State.handFault_goesOnTo _ _).setPerf _)

theorem State.takeEnd_goesOnTo (s : State) : s.goesOnTo s.takeEnd := by
  have left := State.leavePass_goesOnTo (s.setReader { s.reader with state := .finished, pending := .none })
  exact (left.of_setReader _ rfl).setPerf _

theorem State.starvedTest_goesOnTo (s : State) : s.goesOnTo s.starvedTest := by
  unfold State.starvedTest
  split
  · exact ⟨id, fun _ _ _ => rfl, fun _ hf => State.flag_setFlag_of (s := s.setReader _) _ hf, rfl⟩
  · exact .refl s

theorem State.enterLinkWait_goesOnTo (s : State) : s.goesOnTo s.enterLinkWait :=
  .of_setReader _ (State.starvedTest_goesOnTo _) rfl

theorem State.readSlot_goesOnTo (s : State) (k : Nat) : s.goesOnTo (s.readSlot k) := by
  simp only [State.readSlot]
  split
  · exact .of_eq rfl rfl rfl rfl
  · exact s.chainFault_goesOnTo _ _ _ _

theorem State.entryFault_goesOnTo (s : State) (a : Addr) (how : Entry) (d : FaultDetail) :
    s.goesOnTo (s.entryFault a how d) := by
  unfold State.entryFault
  split
  · exact s.chainFault_goesOnTo _ _ _ _
  · cases how <;> exact s.chainFault_goesOnTo _ _ _ _

theorem State.stallEntry_goesOnTo (s : State) (a : Addr) (how : Entry) (x : ReaderState) :
    s.goesOnTo (s.stallEntry a how x) := by
  cases how <;> exact .of_eq rfl rfl rfl rfl

/-- An entry that fails no test of R23 is into a block of block space. -/
theorem validBlockAddr_of_header {a : Addr} {header : List Byte} (h : headerFault a header = none) :
    validBlockAddr a = true := by
  unfold headerFault at h
  split at h
  · contradiction
  next valid => simpa using valid

/-- An entry by a link, or of the start block, opens a pass and leaves the stack (R24). -/
theorem State.commitEntry_goesOnTo (s : State) {a : Addr} {how : Entry} (valid : validBlockAddr a = true)
    (byLink : how = .start ∨ how = .link) : s.goesOnTo (s.commitEntry a how) := by
  have entered : s.leavePass.goesOnTo (s.commitEntry a how) := by
    refine ⟨fun placed p hp => ?_, fun _ _ _ => rfl, fun _ => id, ?_⟩
    · rcases List.mem_append.1 hp with hp | hp
      · exact placed p hp
      · rw [List.mem_singleton.1 hp]; exact valid
    · rcases byLink with rfl | rfl <;> rfl
  exact s.leavePass_goesOnTo.trans entered

theorem State.enterBlock_goesOnTo (s : State) (a : Addr) {how : Entry} (byLink : how = .start ∨ how = .link) (fuel : Nat) :
    s.goesOnTo (s.enterBlock a how fuel) := by
  induction fuel generalizing s a how with
  | zero => exact s.stallEntry_goesOnTo _ _ _
  | succ fuel ih =>
    simp only [State.enterBlock]
    split
    · exact s.stallEntry_goesOnTo _ _ _
    split
    · exact s.entryFault_goesOnTo _ _ _
    next good =>
      refine (s.commitEntry_goesOnTo (validBlockAddr_of_header good) byLink).trans ?_
      split
      · split
        · exact ih _ _ (.inr rfl)
        · exact State.enterLinkWait_goesOnTo _
        · exact State.takeEnd_goesOnTo _
        · exact State.chainFault_goesOnTo _ _ _ _ _
      · exact State.readSlot_goesOnTo _ _

end Sys2Proof.Machine

/-! PROOFS. A LOADING that succeeds: what it latches and places, and the entry into the start block. -/
namespace Sys2Proof.Machine
open Sys2Proof

/-! ### Latching and placing (R147) -/

/-- The state in which a LOADING that succeeds enters the start block: latched, placed, RUNNING, the score at tick 0 (R147). -/
def State.poised (s : State) : State :=
  let t := s.latchConfig.placeChannels
  let t := (t.setPerf { t.perf with state := .running }).startScore
  t.setReader { t.reader with state := .reading, tick := 0, stack := [], pending := .none, pass := none }

/-- The start block is entered with the fuel of every entry, here as a successor (R43, log entry 7). -/
theorem State.loadingSucceeds_eq (s : State) :
    s.loadingSucceeds = s.poised.enterBlock s.stagedStart .start (240 + 1) := rfl

theorem State.latchConfig_perf (s : State) :
    s.latchConfig.perf = { s.perf with
      staged := []
      latch := if s.perf.lock then s.perf.latch.map fun l => { l with startBlock := s.stagedStart }
        else some { global := readGlobal s.stagedGlobal
                    chans := Vector.ofFn fun n => readChannel (s.stagedChan n)
                    startBlock := s.stagedStart } } := by
  unfold State.latchConfig
  split
  next locked => simp [locked]
  next unlocked => simp [unlocked]

theorem State.global_of_latch {s t : State} (h : t.perf.latch = s.perf.latch) : t.global = s.global := by
  simp only [State.global, h]

theorem State.ccfg_of_latch {s t : State} (h : t.perf.latch = s.perf.latch) (n : ChanId) : t.ccfg n = s.ccfg n := by
  simp only [State.ccfg, h]

theorem State.ccfg_latchConfig {s : State} (unlocked : s.perf.lock = false) (n : ChanId) :
    s.latchConfig.ccfg n = readChannel (s.stagedChan n) := by
  simp [State.ccfg, State.latchConfig_perf, unlocked]

/-- A channel whose class cannot be read is unused. -/
theorem readChannel_strike_iff (r : List Byte) : (readChannel r).cls = .strike ↔ readClass r = some .strike := by
  simp only [readChannel]
  cases readClass r <;> simp

/-- The map entries an unlocked LOADING leaves: its STRIKE channels' records, checked (R48). -/
theorem State.loadedMap_eq (s : State) (n : ChanId) :
    s.loadedMap n = if (readChannel (s.stagedChan n)).cls = .strike then
      (validateMap (readChannel (s.stagedChan n)).mapAddr (s.stagedRecord n)).toOption else none := by
  simp only [State.loadedMap, readChannel_strike_iff, State.stagedMap, State.stagedMapAddr]
  split
  · cases validateMap (readChannel (s.stagedChan n)).mapAddr (s.stagedRecord n) <;> rfl
  · rfl

theorem State.maps_latchConfig (s : State) (n : ChanId) :
    s.latchConfig.maps[n] = if s.perf.lock then s.maps[n] else
      if (s.latchConfig.ccfg n).cls = .strike then
        (validateMap (s.latchConfig.ccfg n).mapAddr (s.stagedRecord n)).toOption
      else none := by
  cases locked : s.perf.lock
  · rw [State.ccfg_latchConfig locked, ← State.loadedMap_eq]
    simp [State.latchConfig, locked]
  · simp [State.latchConfig, locked]

/-- A channel is placed by its class (R82, R83, R108, R147). -/
theorem placeChannel_placed (k : ChannelConfig) (locked : Bool) (c : Channel) :
    let p := placeChannel k locked c
    p.stroke = none ∧ p.engage = none ∧ p.holdWanted = false ∧ p.standing = false ∧ p.heat = c.heat ∧
    (k.cls = .unused → p.state = .off) ∧
    (k.cls ≠ .unused → p.misses = 0 ∧ p.strays = 0 ∧ p.hits = 0 ∧ (k.hot ≤ c.heat → p.state = .cooldown)) ∧
    (k.cls = .strike → p.trim = (if locked then c.trim else k.initialTrim) ∧ (c.heat < k.hot → p.state = .idle)) ∧
    (k.cls = .hold → c.heat < k.hot → p.state = .released) := by
  simp only [placeChannel]
  cases k.cls with
  | unused => simp
  | strike =>
    have below (h : c.heat < k.hot) : ¬k.hot ≤ c.heat := by omega
    simp_all
  | hold =>
    have below (h : c.heat < k.hot) : ¬k.hot ≤ c.heat := by omega
    simp_all

theorem State.placeChannels_chan (s : State) (n : ChanId) :
    s.placeChannels.chan n = placeChannel (s.ccfg n) s.perf.lock (s.chan n) := by
  simp only [State.placeChannels]
  split <;> simp [State.chan, State.setFlag]

theorem State.placeChannels_flag {s : State} {n : ChanId} (h : (s.placeChannels.chan n).state = .cooldown) :
    s.placeChannels.flag .channel = true := by
  simp only [State.placeChannels] at h ⊢
  split
  · exact State.flag_setFlag _ _
  next none =>
    rw [if_neg none] at h
    have others := List.any_eq_false.1 (Bool.eq_false_iff.2 none) n (by simp [allChans])
    simp only [beq_iff_eq] at others
    exact absurd h others

/-! ### The state the start block is entered in -/

theorem State.poised_perf (s : State) : s.poised.perf = { s.latchConfig.perf with state := .running } := by
  simp [State.poised]

theorem State.poised_reader (s : State) :
    s.poised.reader = { s.reader with state := .reading, tick := 0, stack := [], pending := .none, pass := none } := by
  simp [State.poised]

@[simp] theorem State.poised_keeps (s : State) :
    s.poised.mem = s.mem ∧ s.poised.passes = s.passes ∧ s.poised.passSeq = s.passSeq ∧
      s.poised.maps = s.latchConfig.maps := by
  simp [State.poised]

theorem State.poised_chan (s : State) (n : ChanId) :
    s.poised.chan n = placeChannel (s.latchConfig.ccfg n) s.perf.lock (s.chan n) := by
  have placed := s.latchConfig.placeChannels_chan n
  simpa [State.poised, State.chan] using placed

theorem State.poised_regs (s : State) : s.poised.regs = s.latchConfig.placeChannels.regs := by
  simp [State.poised]

theorem State.poised_flag {s : State} {n : ChanId} (h : (s.poised.chan n).state = .cooldown) :
    s.poised.flag .channel = true := by
  have chan : s.latchConfig.placeChannels.chan n = s.poised.chan n := by simp [State.poised, State.chan]
  rw [← chan] at h
  exact State.flag_of_regs s.poised_regs (State.placeChannels_flag h)

theorem State.poised_scu (s : State) :
    s.poised.scu = { s.scu with
      pt := 0, tick := 0, period := s.latchConfig.global.initialPeriod
      tempo := { base := s.latchConfig.global.initialPeriod, ramp := none }
      cond := if s.latchConfig.global.syncMode = .follow then .unscheduled
        else .scheduled (s.latchConfig.global.lookAhead * 16000)
      sync := if s.latchConfig.global.syncMode = .follow then .acquire else .none
      holdExpiry := none, lossElapsed := none, prevPulse := none, resumed := false } := by
  have placed : (s.latchConfig.placeChannels.setPerf { s.latchConfig.placeChannels.perf with state := .running }).global =
      s.latchConfig.global := State.global_of_latch (by simp)
  simp only [State.poised, State.startScore, placed, State.setPeriod_eq, GlobalConfig.tickZero]
  cases s.latchConfig.global.syncMode <;> simp

end Sys2Proof.Machine

/-! PROOFS. The entry into the start block, and the performance a successful LOADING starts. -/
namespace Sys2Proof.Machine
open Sys2Proof

/-! ### Entering the start block (R24, R25, R26, R43) -/

/-- The pass being read, if the reader is in one, is the only open pass, with nothing outstanding. -/
def State.readsAlone (s : State) : Prop :=
  (s.reader.pass = none ∧ s.passes = []) ∨
    ∃ p b, s.reader.pass = some p ∧ s.passes = [{ id := p, block := b, outstanding := 0, readingDone := false }]

theorem State.leavePass_none {s : State} (h : s.reader.pass = none) : s.leavePass = s := by
  simp [State.leavePass, h]

theorem State.leavePass_reader (s : State) : s.leavePass.reader = { s.reader with pass := none } := by
  unfold State.leavePass
  split
  · simp
  next h => simp [← h]

/-- Leaving the only pass closes it (R37, R38). -/
theorem State.readsAlone.leavePass {s : State} (h : s.readsAlone) : s.leavePass.passes = [] := by
  rcases h with ⟨outside, none⟩ | ⟨p, b, inside, one⟩
  · rwa [State.leavePass_none outside]
  · simp [State.leavePass, inside, State.markDone, State.mapPass, State.closePass, one]

/-- A chain fault has ended the reading, and no pass is open (R41, R42). -/
abbrev State.endsByChainFault (t : State) : Prop :=
  t.perf.state = .draining ∧ t.perf.endCause = .chainFault ∧ t.reader.state = .faulted ∧
    t.reader.pending = .none ∧ t.reader.pass = none ∧ t.passes = [] ∧ t.flag .fault = true

/-- A chain fault out of the only pass leaves a faulted reader and a draining performance (R41, R42). -/
theorem State.readsAlone.chainFault {s : State} (h : s.readsAlone) (d : FaultDetail) (b : Addr) (i k : Nat) :
    (s.chainFault d b i k).endsByChainFault ∧ (s.chainFault d b i k).reader.block = s.reader.block ∧
      (s.chainFault d b i k).reader.count = s.reader.count := by
  have alone : (s.setReader { s.reader with state := .faulted, pending := .none }).readsAlone := h
  simp only [State.chainFault]
  refine ⟨⟨rfl, rfl, ?_, ?_, ?_, ?_, State.flag_handFault _ _⟩, ?_, ?_⟩ <;>
    simp [State.enterDraining, State.leavePass_reader, alone.leavePass]

/-- An END link taken in the only pass finishes the reading (R25). -/
theorem State.readsAlone.takeEnd {s : State} (h : s.readsAlone) :
    s.takeEnd.perf.state = .draining ∧ s.takeEnd.perf.endCause = .complete ∧ s.takeEnd.reader.state = .finished ∧
      s.takeEnd.passes = [] := by
  have alone : (s.setReader { s.reader with state := .finished, pending := .none }).readsAlone := h
  refine ⟨rfl, rfl, ?_, alone.leavePass⟩
  simp [State.takeEnd, State.enterDraining, State.leavePass_reader]

theorem State.enterLinkWait_reader (s : State) : s.enterLinkWait.reader.state = .linkWait := by
  simp only [State.enterLinkWait, State.starvedTest]
  split <;> rfl

/-- A header R23 accepts at a valid address: its signature, and a count of at most 15. -/
theorem blockFault_none_iff {m : Memory} {a : Addr} (valid : validBlockAddr a = true) :
    blockFault m a = none ↔
      leNat (Memory.readBytes m a.toNat 2) = 0x5A43 ∧ (Memory.read m (a.toNat + 2)).toNat ≤ 15 := by
  have signature : u16 (Memory.line m a.toNat) 0 = leNat (Memory.readBytes m a.toNat 2) := rfl
  have count : u8 (Memory.line m a.toNat) 2 = (Memory.read m (a.toNat + 2)).toNat := rfl
  simp only [blockFault, headerFault, valid, signature, count, blockSignature]
  split_ifs <;> simp_all

/-- The start block's entry commits: a new pass at its slot 0 (R24, R43). -/
theorem State.commitEntry_start {s : State} (a : Addr) (outside : s.reader.pass = none) :
    s.commitEntry a .start = { s with
      reader := { s.reader with
        state := .reading, block := a, slot := 0, pass := some s.passSeq, pending := .none
        count := (Memory.read s.mem (a.toNat + 2)).toNat }
      passes := s.passes ++ [{ id := s.passSeq, block := a, outstanding := 0, readingDone := false }]
      passSeq := s.passSeq + 1 } := by
  simp only [State.commitEntry, State.leavePass_none outside]
  rfl

theorem State.commitEntry_readsAlone {s : State} (a : Addr) (outside : s.reader.pass = none) (none : s.passes = []) :
    (s.commitEntry a .start).readsAlone := by
  rw [State.commitEntry_start a outside]
  exact .inr ⟨_, a, rfl, by simp [none]⟩

/-- A start block whose header R23 refuses is a chain fault. -/
theorem State.enterBlock_refused {s : State} {a : Addr} (fuel : Nat) (room : s.passes = [])
    (h : blockFault s.mem a ≠ none) : ∃ d, s.enterBlock a .start (fuel + 1) = s.chainFault d a 15 0 := by
  obtain ⟨d, hd⟩ := Option.ne_none_iff_exists'.1 h
  exact ⟨d, by simp [State.enterBlock, State.passRoom, room, hd, State.entryFault]⟩

/-- A start block with cues is read from its slot 0. -/
theorem State.enterBlock_cues {s : State} {a : Addr} (fuel : Nat) (outside : s.reader.pass = none) (room : s.passes = [])
    (good : blockFault s.mem a = none) (cues : 0 < (Memory.read s.mem (a.toNat + 2)).toNat) :
    s.enterBlock a .start (fuel + 1) = (s.commitEntry a .start).readSlot 0 := by
  have count : (s.commitEntry a .start).reader.count ≠ 0 := by rw [State.commitEntry_start a outside]; exact cues.ne'
  simp [State.enterBlock, State.passRoom, room, good, count]

/-- A start block without cues is left by its link. -/
theorem State.enterBlock_empty {s : State} {a : Addr} (fuel : Nat) (outside : s.reader.pass = none) (room : s.passes = [])
    (good : blockFault s.mem a = none) (empty : (Memory.read s.mem (a.toNat + 2)).toNat = 0) :
    ((Memory.read s.mem (a.toNat + 4)).toNat = 1 →
      s.enterBlock a .start (fuel + 1) = (s.commitEntry a .start).takeEnd) ∧
    ((Memory.read s.mem (a.toNat + 4)).toNat = 2 →
      s.enterBlock a .start (fuel + 1) = (s.commitEntry a .start).enterLinkWait) := by
  have count : (s.commitEntry a .start).reader.count = 0 := by rw [State.commitEntry_start a outside]; exact empty
  have link : (s.commitEntry a .start).currentLink = readLinkWord (Memory.line s.mem a.toNat) := by
    rw [State.commitEntry_start a outside]; rfl
  have kind : u8 (Memory.line s.mem a.toNat) 4 = (Memory.read s.mem (a.toNat + 4)).toNat := rfl
  constructor <;> intro hk <;>
    simp [State.enterBlock, State.passRoom, room, good, count, link, readLinkWord, kind, hk]

/-- Slot 0 of the start block: its cue is pending at the horizon, or is a chain fault (R26, R27). -/
theorem State.readSlot_eq (s : State) (k : Nat) :
    (∀ c, readCue (Memory.readBytes s.mem (s.reader.block.toNat + 16 * (k + 1)) 16) = some c →
      s.readSlot k = s.setReader { s.reader with
        state := .horizon, slot := k, pending := .cue c, tick := s.reader.tick + c.delta.setWidth 32 }) ∧
    (readCue (Memory.readBytes s.mem (s.reader.block.toNat + 16 * (k + 1)) 16) = none →
      ∃ b, s.readSlot k = s.chainFault .badCueKind s.reader.block k b) := by
  have line : Memory.line s.mem (cueAddr { block := s.reader.block, slot := k }) =
      Memory.readBytes s.mem (s.reader.block.toNat + 16 * (k + 1)) 16 := rfl
  simp only [State.readSlot, line]
  constructor
  · intro c hc
    rw [hc]
  · intro hc
    rw [hc]
    exact ⟨_, rfl⟩

/-- The start block's slot 0 is a cue, which waits at the horizon, or a chain fault in that block (R26, R27, R41, R43). -/
theorem State.enterBlock_slotZero {s : State} {a : Addr} (fuel : Nat) (outside : s.reader.pass = none)
    (room : s.passes = []) (good : blockFault s.mem a = none) (cues : 0 < (Memory.read s.mem (a.toNat + 2)).toNat) :
    (∀ c, readCue (Memory.readBytes s.mem (a.toNat + 16) 16) = some c →
      (s.enterBlock a .start (fuel + 1)).perf = s.perf ∧
      (s.enterBlock a .start (fuel + 1)).reader = { s.reader with
        state := .horizon, tick := s.reader.tick + c.delta.setWidth 32, block := a, slot := 0
        count := (Memory.read s.mem (a.toNat + 2)).toNat, pass := some s.passSeq, pending := .cue c } ∧
      (s.enterBlock a .start (fuel + 1)).passes =
        [{ id := s.passSeq, block := a, outstanding := 0, readingDone := false }]) ∧
    (readCue (Memory.readBytes s.mem (a.toNat + 16) 16) = none →
      (s.enterBlock a .start (fuel + 1)).endsByChainFault ∧ (s.enterBlock a .start (fuel + 1)).reader.block = a ∧
      (s.enterBlock a .start (fuel + 1)).reader.count = (Memory.read s.mem (a.toNat + 2)).toNat) := by
  rw [State.enterBlock_cues fuel outside room good cues]
  have alone := State.commitEntry_readsAlone a outside room
  obtain ⟨cue, bad⟩ := (s.commitEntry a .start).readSlot_eq 0
  rw [State.commitEntry_start a outside, room] at cue bad alone ⊢
  refine ⟨fun c hc => ?_, fun hc => ?_⟩
  · rw [cue c hc]
    exact ⟨rfl, rfl, rfl⟩
  · obtain ⟨b, slot⟩ := bad hc
    rw [slot]
    exact alone.chainFault .badCueKind _ 0 b

/-! ### LOADING completes -/

theorem State.startError_of_loadingError {s : State} (h : s.loadingError = none) : s.startError = none := by
  unfold State.loadingError at h
  split at h
  · exact h
  · split at h
    · contradiction
    · split at h
      · contradiction
      · exact h

theorem State.validStart_of_loadingError {s : State} (h : s.loadingError = none) :
    validBlockAddr s.stagedStart = true := by
  have start := State.startError_of_loadingError h
  rw [State.startError, Option.map_eq_none_iff] at start
  exact validBlockAddr_of_header start

/-- The last map record stays in the staging buffer, and nothing else changes (R46, R144). -/
theorem State.stageLast_eq (s : State) : s.stageLast = s.setStaging s.stageLast.staging := by
  apply State.eq_of_fields <;> simp

theorem exec_loadingComplete {s : State} (hn : s.nrstLow = false) (hs : s.perf.state = .loading)
    (pass : s.loadingError = none) :
    exec .loadingComplete s = .next (publish s (s.setStaging s.stageLast.staging).loadingSucceeds) := by
  have due : loadingCompleteDue s = true := by simp [loadingCompleteDue, hs]
  have succeeds : s.loadingCompletes = (s.setStaging s.stageLast.staging).loadingSucceeds := by
    rw [State.loadingCompletes, pass, ← State.stageLast_eq]
  rw [← succeeds]
  simp only [exec, execLoadingComplete]
  exact onEvent_due _ hn due

/-- What a successful LOADING starts, the reader and memory apart (R7, R48, R147). -/
theorem State.loadingSucceeds_started (s : State) :
    s.loadingSucceeds.perf.latch = s.latchConfig.perf.latch ∧ s.loadingSucceeds.perf.lock = s.perf.lock ∧
      s.loadingSucceeds.perf.staged = [] ∧
      (s.loadingSucceeds.perf.state = .running ∨ s.loadingSucceeds.perf.state = .draining) ∧
      s.loadingSucceeds.scu = s.poised.scu ∧ s.loadingSucceeds.chans = s.poised.chans ∧
      s.loadingSucceeds.maps = s.latchConfig.maps := by
  obtain ⟨staged, state⟩ := s.poised.enterBlock_readsTo s.stagedStart .start (240 + 1)
  rw [State.poised_perf] at staged state
  rw [State.loadingSucceeds_eq]
  exact ⟨by simp [State.poised_perf], by simp [State.poised_perf], staged.trans (by rw [State.latchConfig_perf]), state,
    by simp, by simp, by simp⟩

theorem State.loadingSucceeds_rot (s : State) :
    s.loadingSucceeds.rot = { s.rot with target := s.loadingSucceeds.rot.target } := by
  rw [State.loadingSucceeds_eq, show (s.poised.enterBlock s.stagedStart .start (240 + 1)).rot = s.poised.rot by simp]
  simp [State.poised, State.startScore, State.setPeriod_eq]

theorem State.loadingSucceeds_regs (s : State) :
    s.loadingSucceeds.regs = { s.regs with flags := s.loadingSucceeds.regs.flags } := by
  obtain ⟨code, outcome, enable⟩ := s.loadingSucceeds_code_outcome_enable
  show _ = Regs.mk _ _ _ _
  rw [← code, ← outcome, ← enable]

/-- Every channel stands as it was placed, its flag set where it is placed in COOLDOWN (R82, R83, R108, R147). -/
theorem State.loadingSucceeds_chan (s : State) (n : ChanId) :
    s.loadingSucceeds.chan n = placeChannel (s.loadingSucceeds.ccfg n) s.perf.lock (s.chan n) ∧
      ((s.loadingSucceeds.chan n).state = .cooldown → s.loadingSucceeds.flag .channel = true) := by
  obtain ⟨latch, _, _, _, _, chans, _⟩ := s.loadingSucceeds_started
  have chan : s.loadingSucceeds.chan n = s.poised.chan n := by rw [State.chan, chans]; rfl
  obtain ⟨_, _, flags, _⟩ := s.poised.enterBlock_goesOnTo s.stagedStart (.inl rfl) (240 + 1)
  rw [chan, State.ccfg_of_latch latch, State.loadingSucceeds_eq]
  exact ⟨s.poised_chan n, fun h => flags _ (State.poised_flag h)⟩

/-- LOADING enters the start block with no pass open, and writes only what reading on writes. -/
theorem State.loadingSucceeds_mem {s : State} (none : s.passes = []) :
    sameOutside s s.loadingSucceeds readingBytes ∧ s.loadingSucceeds.reader.stack = [] := by
  have placed : s.poised.passesPlaced := by simp [State.passesPlaced, none]
  obtain ⟨_, mem, _, stack⟩ := s.poised.enterBlock_goesOnTo s.stagedStart (.inl rfl) (240 + 1)
  rw [State.loadingSucceeds_eq, stack, State.poised_reader]
  refine ⟨fun a ha => (mem placed a ha).trans ?_, rfl⟩
  rw [s.poised_keeps.1]

section
variable {s : State} (closed : s.passes = [])
include closed

theorem State.poised_outside : s.poised.reader.pass = none ∧ s.poised.passes = [] :=
  ⟨by rw [State.poised_reader], by simp [closed]⟩

/-- A start block whose header has been rewritten is a chain fault, and the reader has not left its old block (R41, R43). -/
theorem State.loadingSucceeds_refused (bad : blockFault s.mem s.stagedStart ≠ none) :
    s.loadingSucceeds.endsByChainFault ∧ s.loadingSucceeds.reader.block = s.reader.block := by
  obtain ⟨outside, room⟩ := State.poised_outside closed
  rw [← s.poised_keeps.1] at bad
  obtain ⟨d, refused⟩ := State.enterBlock_refused 240 room bad
  obtain ⟨fault, block, _⟩ := State.readsAlone.chainFault (.inl ⟨outside, room⟩) d s.stagedStart 15 0
  have begun : s.loadingSucceeds = _ := s.loadingSucceeds_eq.trans refused
  rw [begun]
  exact ⟨fault, block.trans (by rw [State.poised_reader])⟩

variable (good : blockFault s.mem s.stagedStart = none)
include good

/-- The start block's first cue waits at the horizon, or its slot 0 is a chain fault (R26, R43). -/
theorem State.loadingSucceeds_slotZero (cues : 0 < (Memory.read s.mem (s.stagedStart.toNat + 2)).toNat) :
    (∀ c, readCue (Memory.readBytes s.mem (s.stagedStart.toNat + 16) 16) = some c →
      (s.loadingSucceeds.perf.state = .running ∧ s.loadingSucceeds.perf.endCause = s.perf.endCause) ∧
      s.loadingSucceeds.reader = {
        state := .horizon, tick := c.delta.setWidth 32, block := s.stagedStart, slot := 0
        count := (Memory.read s.mem (s.stagedStart.toNat + 2)).toNat, pass := some s.passSeq, pending := .cue c, stack := []
        starved := s.reader.starved } ∧
      s.loadingSucceeds.passes = [{ id := s.passSeq, block := s.stagedStart, outstanding := 0, readingDone := false }]) ∧
    (readCue (Memory.readBytes s.mem (s.stagedStart.toNat + 16) 16) = none →
      s.loadingSucceeds.endsByChainFault ∧ s.loadingSucceeds.reader.block = s.stagedStart ∧
        s.loadingSucceeds.reader.count = (Memory.read s.mem (s.stagedStart.toNat + 2)).toNat) := by
  obtain ⟨outside, room⟩ := State.poised_outside closed
  obtain ⟨mem, _, seq, _⟩ := s.poised_keeps
  rw [← mem] at good cues
  obtain ⟨cue, bad⟩ := State.enterBlock_slotZero 240 outside room good cues
  rw [mem] at cue bad
  rw [State.loadingSucceeds_eq]
  refine ⟨fun c hc => ?_, bad⟩
  obtain ⟨perf, reader, passes⟩ := cue c hc
  simp only [perf, reader, passes, seq, State.poised_perf, State.poised_reader, State.latchConfig_perf,
    zero_add, and_self]

/-- A start block without cues is left by its END or WAIT link (R25). -/
theorem State.loadingSucceeds_empty (empty : (Memory.read s.mem (s.stagedStart.toNat + 2)).toNat = 0) :
    ((Memory.read s.mem (s.stagedStart.toNat + 4)).toNat = 1 →
      s.loadingSucceeds.perf.state = .draining ∧ s.loadingSucceeds.perf.endCause = .complete ∧
      s.loadingSucceeds.reader.state = .finished ∧ s.loadingSucceeds.passes = []) ∧
    ((Memory.read s.mem (s.stagedStart.toNat + 4)).toNat = 2 →
      s.loadingSucceeds.perf.state = .running ∧ s.loadingSucceeds.reader.state = .linkWait ∧
      s.loadingSucceeds.passes = [{ id := s.passSeq, block := s.stagedStart, outstanding := 0, readingDone := false }]) := by
  obtain ⟨outside, room⟩ := State.poised_outside closed
  obtain ⟨mem, _, seq, _⟩ := s.poised_keeps
  rw [← mem] at good empty
  obtain ⟨ends, waits⟩ := State.enterBlock_empty 240 outside room good empty
  rw [mem] at ends waits
  constructor
  · intro link
    have begun : s.loadingSucceeds = _ := s.loadingSucceeds_eq.trans (ends link)
    rw [begun]
    exact (State.commitEntry_readsAlone s.stagedStart outside room).takeEnd
  · intro link
    have begun : s.loadingSucceeds = _ := s.loadingSucceeds_eq.trans (waits link)
    rw [begun]
    refine ⟨?_, State.enterLinkWait_reader _, ?_⟩
    · simp [State.poised_perf]
    · obtain ⟨_, _, passes, _⟩ := (s.poised.commitEntry s.stagedStart .start).enterLinkWait_keeps
      rw [passes, State.commitEntry_start s.stagedStart outside, room, seq]
      rfl

end

/-- Settles O50: what the start leaves, field by field, then the entry into the start block by its header, count and first cue. -/
theorem aSuccessfulLoadingStartsThePerformance : Obligations.ASuccessfulLoadingStartsThePerformance := by
  unfold Obligations.ASuccessfulLoadingStartsThePerformance
  intro s hn hs pass closed
  have answer := exec_loadingComplete hn hs pass
  generalize s.stageLast.staging = x at answer
  have valid := State.validStart_of_loadingError pass
  obtain ⟨latch, lock, staged, state, scu, _, maps⟩ := (s.setStaging x).loadingSucceeds_started
  have placed (n : ChanId) := (s.setStaging x).loadingSucceeds_chan n
  have mapped (n : ChanId) := (s.setStaging x).maps_latchConfig n
  simp only [← State.ccfg_of_latch latch, ← State.global_of_latch latch, State.poised_scu] at mapped scu
  have rot := (s.setStaging x).loadingSucceeds_rot
  have regs := (s.setStaging x).loadingSucceeds_regs
  obtain ⟨fq, fqSeq, slots, _, siu, csm, port, sched, nrst, pending⟩ := (s.setStaging x).loadingSucceeds_keeps
  rw [← maps] at mapped
  rw [State.latchConfig_perf] at latch
  obtain ⟨mem, stack⟩ := State.loadingSucceeds_mem (s := s.setStaging x) closed
  have header := blockFault_none_iff (m := s.mem) valid
  have refused := State.loadingSucceeds_refused (s := s.setStaging x) closed
  have slotZero := State.loadingSucceeds_slotZero (s := s.setStaging x) closed
  have empties := State.loadingSucceeds_empty (s := s.setStaging x) closed
  generalize (s.setStaging x).loadingSucceeds = w at *
  have wrote : ∀ a, ¬(published a ∨ faultBytes a ∨ (0x1000 ≤ a ∧ a % 256 = 3)) →
      Memory.read (publish s w).mem a = Memory.read s.mem a := fun a ha =>
    (read_publish s w fun h => ha (.inl h)).trans (mem a fun h => ha (.inr h))
  rw [publish_eq] at answer
  generalize (publish s w).mem = m at answer wrote
  refine ⟨_, answer, ?_, latch, lock, staged, state, scu, fun n => ?_, wrote, ?_⟩
  · exact State.eq_of_fields rfl rfl rfl rfl rfl fq fqSeq slots rfl rfl rfl siu csm rot rfl regs port sched nrst pending
  · have chan := placeChannel_placed (w.ccfg n) s.perf.lock (s.chan n)
    rw [show placeChannel (w.ccfg n) s.perf.lock (s.chan n) = w.chan n from (placed n).1.symm] at chan
    obtain ⟨stroke, engage, wanted, standing, heat, unused, used, strike, hold⟩ := chan
    refine ⟨stroke, engage, wanted, standing, heat, unused, fun h => ?_, strike, hold, mapped n⟩
    obtain ⟨misses, strays, hits, hot⟩ := used h
    exact ⟨misses, strays, hits, fun h => ⟨hot h, (placed n).2 (hot h)⟩⟩
  · intro start count good faulted
    have entered (h : good) : blockFault s.mem s.stagedStart = none := header.2 h
    refine ⟨fun bad => refused fun e => bad (header.1 e), fun h => ⟨stack, fun cues => ?_⟩,
      fun h cues hc => ((slotZero (entered h) cues).2 hc).1, fun h empty => (empties (entered h) empty).1,
      fun h empty => (empties (entered h) empty).2, fun c h cues hc => ?_⟩
    · obtain ⟨cue, bad⟩ := slotZero (entered h) cues
      cases hc : readCue (Memory.readBytes s.mem (start + 16) 16) with
      | none => exact (bad hc).2
      | some c =>
        obtain ⟨_, reader, _⟩ := cue c hc
        exact ⟨congrArg Reader.block reader, congrArg Reader.count reader⟩
    · obtain ⟨perf, reader, passes⟩ := (slotZero (entered h) cues).1 c hc
      exact ⟨perf.1, perf.2, reader, passes⟩

end Sys2Proof.Machine

/-! PROOFS. Results and the end of an item: what a result's write and a pass's end leave in cue memory and in the open
block table. -/
namespace Sys2Proof.Machine
open Sys2Proof

/-! ### Addresses of block space -/

theorem validBlockAddr_iff (a : Addr) :
    validBlockAddr a = true ↔ a.toNat % 256 = 0 ∧ 0x1000 ≤ a.toNat ∧ a.toNat ≤ 0xFF00 := by
  simp [validBlockAddr, and_assoc]

/-- A cue's result area lies in the lines after its block's header (Table 10-4). -/
theorem CueLoc.inBlock.bounds {l : CueLoc} (h : l.inBlock) :
    0x1000 ≤ cueAddr l ∧ 16 ≤ cueAddr l % 256 ∧ cueAddr l % 256 ≤ 240 ∧ cueAddr l + 16 ≤ 0x10000 := by
  obtain ⟨valid, slot⟩ := h
  obtain ⟨line, low, high⟩ := (validBlockAddr_iff _).1 valid
  simp only [cueAddr]
  omega

/-! ### The open block table -/

/-- The entry of a pass, changed in place (R36). -/
theorem find?_mapEntry {l : List Pass} {p : Nat} {e : Pass} (f : Pass → Pass) (keeps : ∀ q, (f q).id = q.id)
    (h : l.find? (fun q => q.id == p) = some e) :
    (l.map fun q => if q.id == p then f q else q).find? (fun q => q.id == p) = some (f e) := by
  have same : (fun q : Pass => q.id == p) ∘ (fun q => if q.id == p then f q else q) = fun q => q.id == p := by
    funext q
    simp only [Function.comp]
    split <;> simp [keeps]
  have found : e.id = p := by simpa using List.find?_some h
  rw [List.find?_map, same, h]
  simp [found]

/-- The other entries are not touched by a change of one pass's entry. -/
theorem filter_mapEntry (l : List Pass) (p : Nat) (f : Pass → Pass) (keeps : ∀ q, (f q).id = q.id) :
    (l.map fun q => if q.id == p then f q else q).filter (fun q => q.id != p) = l.filter fun q => q.id != p := by
  induction l with
  | nil => rfl
  | cons q l ih =>
    rw [List.map_cons, List.filter_cons, List.filter_cons, ih]
    split <;> simp_all

/-- An item's end: its pass closes where it is reading-done and this was the last, and otherwise counts one less (R36,
R38). -/
theorem State.endItem_of_find {s : State} {p : Nat} {e : Pass} (h : s.passes.find? (fun q => q.id == p) = some e) :
    s.endItem p =
      if e.readingDone && decide (e.outstanding ≤ 1) then
        (s.countCompletion e.block).setPasses (s.passes.filter fun q => q.id != p)
      else s.setPasses (s.passes.map fun q => if q.id = p then { q with outstanding := q.outstanding - 1 } else q) := by
  have found := find?_mapEntry (fun q => { q with outstanding := q.outstanding - 1 }) (fun _ => rfl) h
  have last : (e.outstanding - 1 == 0) = decide (e.outstanding ≤ 1) := by
    rw [Bool.eq_iff_iff]
    simp only [beq_iff_eq, decide_eq_true_eq]
    omega
  simp only [State.endItem, State.mapPass, State.closePass, State.setPasses_passes, found, last,
    filter_mapEntry _ p (fun q => { q with outstanding := q.outstanding - 1 }) fun _ => rfl]
  split
  · rfl
  · simp only [beq_iff_eq]

/-! ### Results -/

/-- A result is 8 bytes, inside its own result area. -/
theorem State.read_writeResult {s : State} {l : CueLoc} {r : List Byte} (short : r.length ≤ 8) {a : Nat}
    (h : ¬resultArea l a) : Memory.read (s.writeResult l r).mem a = Memory.read s.mem a := by
  refine s.read_poke_ne r ?_
  unfold resultArea at h
  omega

/-- A completion count is one byte. -/
theorem State.read_countCompletion (s : State) (b : Addr) {a : Nat} (h : a ≠ b.toNat + 3) :
    Memory.read (s.countCompletion b).mem a = Memory.read s.mem a :=
  s.read_poke_ne _ (by simp only [List.length_singleton]; omega)

/-- A completion count has been raised by one, 255 becoming 0 (R38). -/
theorem State.read_countCompletion_same {s : State} (wf : Memory.wf s.mem = true) {b : Addr}
    (valid : validBlockAddr b = true) :
    Memory.read (s.countCompletion b).mem (b.toNat + 3) = Memory.read s.mem (b.toNat + 3) + 1 := by
  have := (validBlockAddr_iff b).1 valid
  exact Memory.read_writeBytes_same (i := 0) [Memory.read s.mem (b.toNat + 3) + 1] (by simp)
    (by simp only [List.length_singleton]; omega) wf

/-- Settles O32: the result is written first, and the pass's end raises no byte but its block's completion count. -/
theorem aResultIsWrittenAndItsEndCounted : Obligations.AResultIsWrittenAndItsEndCounted := by
  unfold Obligations.AResultIsWrittenAndItsEndCounted
  intro s c r p wf len placed found valid _ closes
  obtain ⟨mem, passes, only⟩ := s.resolve_eq c r
  have below := CueLoc.inBlock.bounds placed
  have block := (validBlockAddr_iff _).1 valid
  have written (i : Nat) (hi : i < r.length) :
      Memory.read (s.writeResult c.loc r).mem (cueAddr c.loc + 8 + i) = r[i] :=
    Memory.read_writeBytes_same r hi (by omega) wf
  have outside {a : Nat} (h : ¬resultArea c.loc a) : Memory.read (s.writeResult c.loc r).mem a = Memory.read s.mem a :=
    State.read_writeResult len.le h
  have header : Memory.read (s.writeResult c.loc r).mem (p.block.toNat + 3) = Memory.read s.mem (p.block.toNat + 3) :=
    outside (by unfold resultArea; omega)
  have ended := State.endItem_of_find (s := s.writeResult c.loc r) (p := c.pass) (e := p) (by simpa using found)
  refine ⟨by rw [only], ?_⟩
  rw [State.resolve, ended]
  by_cases h : closes = true
  · rw [if_pos h, if_pos h, if_pos h]
    simp only [sameOutside, State.setPasses_mem]
    refine ⟨fun i hi => ?_, by simp, ?_, fun a ha => ?_⟩
    · exact (State.read_countCompletion _ _ (by simp only [cueAddr] at below; omega)).trans (written i hi)
    · have kept : Memory.wf (s.writeResult c.loc r).mem = true := State.wf_poke s _ r wf
      rw [State.read_countCompletion_same kept valid, header]
    · rw [not_or] at ha
      rw [State.read_countCompletion _ _ ha.2, outside ha.1]
  · rw [if_neg h, if_neg h, if_neg h]
    exact ⟨written, by simp, header, fun a ha => outside fun area => ha (.inl area)⟩

end Sys2Proof.Machine

/-! PROOFS. The reader goes on: slots, links and the entry into a block, each as one equation. -/
namespace Sys2Proof.Machine
open Sys2Proof

/-! ### The ends of a pass

The chapter's own words for them (R25, R37, R41) are the operations of the model. -/

theorem State.leavePass_eq (s : State) : s.leavePass = s.passLeft := rfl

theorem State.chainFault_eq (s : State) (d : FaultDetail) (b : Addr) (i k : Nat) :
    s.chainFault d b i k = s.chainFaulted d b i k := rfl

/-! ### Slots (R26) -/

theorem State.readSlot_cue {s : State} {k : Nat} {c : Cue}
    (h : readCue (Memory.readBytes s.mem (s.reader.block.toNat + 16 * (k + 1)) 16) = some c) :
    s.readSlot k = s.cueRead k c := (s.readSlot_eq k).1 c h

theorem State.readSlot_bad {s : State} {k : Nat}
    (h : readCue (Memory.readBytes s.mem (s.reader.block.toNat + 16 * (k + 1)) 16) = none) :
    s.readSlot k = s.chainFaulted .badCueKind s.reader.block k
      (Memory.read s.mem (s.reader.block.toNat + 16 * (k + 1))).toNat := by
  have line : readCue (Memory.line s.mem (cueAddr { block := s.reader.block, slot := k })) = none := h
  simp only [State.readSlot, line]
  rfl

/-! ### Links (R25) -/

/-- The kind of the current block's link word, as it stands (Table 10-3). -/
def State.linkKind (s : State) : Nat := (Memory.read s.mem (s.reader.block.toNat + 4)).toNat

/-- The block the current link word names (Table 10-3). -/
def State.linkTarget (s : State) : Addr :=
  BitVec.ofNat 16 (leNat (Memory.readBytes s.mem (s.reader.block.toNat + 6) 2))

theorem State.linkTaken_end {s : State} (fuel : Nat) (h : s.linkKind = 1) : s.linkTaken fuel = s.takeEnd := by
  unfold State.linkKind at h
  simp only [State.linkTaken, h]
  rfl

theorem State.linkTaken_wait {s : State} (fuel : Nat) (h : s.linkKind = 2) : s.linkTaken fuel = s.enterLinkWait := by
  unfold State.linkKind at h
  simp only [State.linkTaken, h]
  rfl

theorem State.linkTaken_next {s : State} (fuel : Nat) (h : s.linkKind = 3) :
    s.linkTaken fuel = s.enterBlock s.linkTarget .link fuel := by
  unfold State.linkKind at h
  simp only [State.linkTaken, h]
  rfl

theorem State.linkTaken_bad {s : State} (fuel : Nat) (h : s.linkKind ≠ 1 ∧ s.linkKind ≠ 2 ∧ s.linkKind ≠ 3) :
    s.linkTaken fuel = s.chainFaulted .badLinkKind s.reader.block 15 0 := by
  obtain ⟨h1, h2, h3⟩ := h
  unfold State.linkKind at h1 h2 h3
  unfold State.linkTaken
  split
  next h => exact absurd h h1
  next h => exact absurd h h2
  next h => exact absurd h h3
  next => rfl

/-- The link word is one of four. -/
theorem State.currentLink_cases (s : State) :
    (s.currentLink = .endLink ∧ s.linkKind = 1) ∨ (s.currentLink = .wait ∧ s.linkKind = 2) ∨
      (s.currentLink = .next s.linkTarget ∧ s.linkKind = 3) ∨
      (s.currentLink = .bad ∧ s.linkKind ≠ 1 ∧ s.linkKind ≠ 2 ∧ s.linkKind ≠ 3) := by
  have kind : u8 (Memory.line s.mem s.reader.block.toNat) 4 = s.linkKind := rfl
  unfold State.currentLink readLinkWord
  rw [kind]
  split
  next h => exact .inl ⟨rfl, h⟩
  next h => exact .inr (.inl ⟨rfl, h⟩)
  next h => exact .inr (.inr (.inl ⟨rfl, h⟩))
  next h1 h2 h3 => exact .inr (.inr (.inr ⟨rfl, h1, h2, h3⟩))

/-- Past the last cue of a pass the link is acted on as it stands (R25). -/
theorem State.readLink_eq (s : State) : s.readLink = s.linkTaken entryFuel := by
  rcases s.currentLink_cases with ⟨link, kind⟩ | ⟨link, kind⟩ | ⟨link, kind⟩ | ⟨link, kind⟩
  · rw [State.linkTaken_end _ kind]; simp only [State.readLink, link]
  · rw [State.linkTaken_wait _ kind]; simp only [State.readLink, link]
  · rw [State.linkTaken_next _ kind]; simp only [State.readLink, link]
  · rw [State.linkTaken_bad _ kind]; simp only [State.readLink, link]; rfl

/-! ### Headers (R23) -/

/-- The signature at a block's address (Table 2-2). -/
def headerSignature (m : Memory) (a : Addr) : Nat := leNat (Memory.readBytes m a.toNat 2)

/-- The cue count in a block's header (Table 10-3). -/
def headerCount (m : Memory) (a : Addr) : Nat := (Memory.read m (a.toNat + 2)).toNat

theorem blockFault_eq (m : Memory) (a : Addr) :
    blockFault m a =
      if validBlockAddr a = false then some .badLinkAddress
      else if headerSignature m a ≠ 0x5A43 then some .badLinkSignature
      else if 15 < headerCount m a then some .badBlockCount
      else none := rfl

section
variable {m : Memory} {a : Addr}

theorem blockFault_address (invalid : validBlockAddr a = false) : blockFault m a = some .badLinkAddress := by
  rw [blockFault_eq, if_pos invalid]

variable (valid : validBlockAddr a = true)
include valid

theorem blockFault_signature (h : headerSignature m a ≠ 0x5A43) : blockFault m a = some .badLinkSignature := by
  rw [blockFault_eq, if_neg (by simp [valid]), if_pos h]

variable (signed : headerSignature m a = 0x5A43)
include signed

theorem blockFault_count (h : 15 < headerCount m a) : blockFault m a = some .badBlockCount := by
  rw [blockFault_eq, if_neg (by simp [valid]), if_neg (by simp [signed]), if_pos h]

theorem blockFault_good (h : headerCount m a ≤ 15) : blockFault m a = none := by
  rw [blockFault_eq, if_neg (by simp [valid]), if_neg (by simp [signed]), if_neg (by omega)]
end

/-! ### Leaving a pass and entering a block (R24, R37) -/

/-- The loop stack that an entry's commit leaves (R34, R35). -/
def Entry.stackAfter (how : Entry) (stack : List Frame) : List Frame :=
  match how with
  | .jump st => st
  | .start => stack
  | .link => stack

/-- Leaving a pass writes no byte of block space but a completion count (R38). -/
theorem State.read_passLeft {s : State} (placed : s.passesPlaced) {a : Nat} (block : 0x1000 ≤ a) (other : a % 256 ≠ 3) :
    Memory.read s.passLeft.mem a = Memory.read s.mem a := by
  refine s.leavePass_goesOnTo.mem placed a ?_
  unfold readingBytes faultBytes
  omega

theorem Memory.readBytes_congr {m m' : Memory} {a n : Nat}
    (h : ∀ i < n, Memory.read m (a + i) = Memory.read m' (a + i)) : Memory.readBytes m a n = Memory.readBytes m' a n := by
  induction n generalizing a with
  | zero => rfl
  | succ n ih =>
    simp only [Memory.readBytes]
    have first : Memory.read m a = Memory.read m' a := h 0 (by omega)
    rw [first, ih fun i hi => by simpa [add_assoc, add_comm 1 i] using h (i + 1) (by omega)]

section
variable {s : State} {a : Addr} (placed : s.passesPlaced) (valid : validBlockAddr a = true)
include placed valid

/-- Leaving the pass before leaves the header count of the block entered. -/
theorem State.headerCount_passLeft : headerCount s.passLeft.mem a = headerCount s.mem a := by
  have := (validBlockAddr_iff a).1 valid
  unfold headerCount
  rw [State.read_passLeft placed (by omega) (by omega)]

/-- Leaving the pass before leaves the line of slot 0 of the block entered. -/
theorem State.slotZero_passLeft :
    Memory.readBytes s.passLeft.mem (a.toNat + 16) 16 = Memory.readBytes s.mem (a.toNat + 16) 16 := by
  have := (validBlockAddr_iff a).1 valid
  exact Memory.readBytes_congr fun i hi => State.read_passLeft placed (by omega) (by omega)

/-- The commit of an entry (R24 stage 3). -/
theorem State.commitEntry_eq (how : Entry) :
    s.commitEntry a how = s.passLeft.passEntered a (headerCount s.mem a) (how.stackAfter s.reader.stack) := by
  have stack : s.passLeft.reader.stack = s.reader.stack := by
    rw [← State.leavePass_eq, State.leavePass_reader]
  rw [← State.headerCount_passLeft placed valid, ← stack]
  cases how <;> rfl
end

theorem State.enterBlock_stalls {s : State} (a : Addr) (how : Entry) (fuel : Nat) (full : 8 ≤ s.passes.length) :
    s.enterBlock a how (fuel + 1) = s.stallEntry a how .stalled := by
  have none : s.passRoom = false := decide_eq_false (by omega)
  simp [State.enterBlock, none]

section
variable {s : State} {a : Addr} (how : Entry) (fuel : Nat) (room : s.passes.length < 8)
include room

theorem State.enterBlock_fault {d : FaultDetail} (h : blockFault s.mem a = some d) :
    s.enterBlock a how (fuel + 1) = s.entryFault a how d := by
  have some : s.passRoom = true := decide_eq_true room
  simp [State.enterBlock, some, h]

variable (placed : s.passesPlaced) (valid : validBlockAddr a = true) (signed : headerSignature s.mem a = 0x5A43)
include placed valid signed

/-- A block with cues is read from its slot 0 (R24, R26). -/
theorem State.enterBlock_reads (cues : 0 < headerCount s.mem a) (few : headerCount s.mem a ≤ 15) :
    s.enterBlock a how (fuel + 1) =
      (s.passLeft.passEntered a (headerCount s.mem a) (how.stackAfter s.reader.stack)).readSlot 0 := by
  have some : s.passRoom = true := decide_eq_true room
  have count : (s.passLeft.passEntered a (headerCount s.mem a) (how.stackAfter s.reader.stack)).reader.count ≠ 0 :=
    cues.ne'
  simp [State.enterBlock, some, blockFault_good valid signed few, State.commitEntry_eq placed valid, count]

/-- The cue in slot 0 of a block entered waits at the horizon (R26, R27). -/
theorem State.enterBlock_cue {c : Cue} (cues : 0 < headerCount s.mem a) (few : headerCount s.mem a ≤ 15)
    (h : readCue (Memory.readBytes s.mem (a.toNat + 16) 16) = some c) :
    s.enterBlock a how (fuel + 1) =
      (s.passLeft.passEntered a (headerCount s.mem a) (how.stackAfter s.reader.stack)).cueRead 0 c := by
  rw [State.enterBlock_reads how fuel room placed valid signed cues few]
  exact State.readSlot_cue ((congrArg readCue (State.slotZero_passLeft placed valid)).trans h)

/-- A slot 0 that is no cue is a chain fault in the block entered (R26, R41, R42). -/
theorem State.enterBlock_badCue (cues : 0 < headerCount s.mem a) (few : headerCount s.mem a ≤ 15)
    (h : readCue (Memory.readBytes s.mem (a.toNat + 16) 16) = none) :
    s.enterBlock a how (fuel + 1) =
      (s.passLeft.passEntered a (headerCount s.mem a) (how.stackAfter s.reader.stack)).chainFaulted .badCueKind a 0
        (Memory.read s.mem (a.toNat + 16)).toNat := by
  have low := (validBlockAddr_iff a).1 valid
  rw [State.enterBlock_reads how fuel room placed valid signed cues few,
    ← State.read_passLeft placed (a := a.toNat + 16) (by omega) (by omega)]
  exact State.readSlot_bad ((congrArg readCue (State.slotZero_passLeft placed valid)).trans h)

/-- A block without cues is left by its own link at once (R24, R25). -/
theorem State.enterBlock_noCues (empty : headerCount s.mem a = 0) :
    s.enterBlock a how (fuel + 1) = (s.passLeft.passEntered a 0 (how.stackAfter s.reader.stack)).linkTaken fuel := by
  have some : s.passRoom = true := decide_eq_true room
  have good := blockFault_good valid signed (empty.trans_le (Nat.zero_le 15))
  have commit := State.commitEntry_eq placed valid how
  rw [empty] at commit
  generalize hu : s.passLeft.passEntered a 0 (how.stackAfter s.reader.stack) = u at commit
  have count : u.reader.count = 0 := by rw [← hu]; rfl
  rcases u.currentLink_cases with ⟨link, kind⟩ | ⟨link, kind⟩ | ⟨link, kind⟩ | ⟨link, kind⟩
  · simp [State.linkTaken_end _ kind, State.enterBlock, some, good, commit, count, link]
  · simp [State.linkTaken_wait _ kind, State.enterBlock, some, good, commit, count, link]
  · simp [State.linkTaken_next _ kind, State.enterBlock, some, good, commit, count, link]
  · simp [State.linkTaken_bad _ kind, State.enterBlock, some, good, commit, count, link, State.chainFault_eq]
end

end Sys2Proof.Machine

/-! PROOFS. The reader's statements: going on, and MAP and REPEAT cues at their admission. -/
namespace Sys2Proof.Machine
open Sys2Proof

/-! ### Going on (R25, R26) -/

theorem State.readNext_slot {s : State} (more : s.reader.slot + 1 < s.reader.count) :
    s.readNext = s.readSlot (s.reader.slot + 1) := by
  simp [State.readNext, more]

theorem State.readNext_link {s : State} (last : s.reader.count ≤ s.reader.slot + 1) :
    s.readNext = s.linkTaken entryFuel := by
  rw [← State.readLink_eq, State.readNext, if_neg (by omega)]

/-- Settles O51: slot by slot, then the link of each kind, and the entry into the block it names by that block's header. -/
theorem theReaderGoesOnAsTheChainSays : Obligations.TheReaderGoesOnAsTheChainSays := by
  unfold Obligations.TheReaderGoesOnAsTheChainSays
  intro s
  refine ⟨fun more => ⟨fun c hc => ?_, fun hc => ?_⟩, fun last => ?_⟩
  · exact (State.readNext_slot more).trans (State.readSlot_cue hc)
  · exact (State.readNext_slot more).trans (State.readSlot_bad hc)
  intro kind a
  have goes : s.readNext = s.linkTaken entryFuel := State.readNext_link last
  have enters (next : kind = 3) : s.readNext = s.enterBlock a .link (240 + 1) := goes.trans (State.linkTaken_next _ next)
  refine ⟨fun h => ?_, fun h => ?_, fun h => ?_, fun next full => ?_, fun next room invalid => ?_,
    fun next room valid unsigned => ?_, fun next room valid signed many => ?_,
    fun c next room valid signed cues few placed hc => ?_, fun next room valid signed cues few placed hc => ?_,
    fun next room valid signed empty placed => ?_⟩
  · exact goes.trans (State.linkTaken_end _ h)
  · exact goes.trans (State.linkTaken_wait _ h)
  · exact goes.trans (State.linkTaken_bad _ h)
  · exact (enters next).trans (State.enterBlock_stalls a .link 240 full)
  · exact (enters next).trans (State.enterBlock_fault .link 240 room (blockFault_address invalid))
  · exact (enters next).trans (State.enterBlock_fault .link 240 room (blockFault_signature valid unsigned))
  · exact (enters next).trans (State.enterBlock_fault .link 240 room (blockFault_count valid signed many))
  · exact (enters next).trans (State.enterBlock_cue .link 240 room placed valid signed cues few hc)
  · exact (enters next).trans (State.enterBlock_badCue .link 240 room placed valid signed cues few hc)
  · exact (enters next).trans
      (State.enterBlock_noCues .link 240 room placed valid signed (congrArg BitVec.toNat empty))

/-! ### MAP cues (R32, R46 to R50) -/

/-- A record at an address that is none fails the first check, whatever was read before (R46, R47). -/
theorem State.validateMap_stageMap (s : State) (a : Addr) :
    validateMap a (s.stageMap a).staging = validateMap a (Memory.readBytes s.mem a.toNat 64) := by
  cases valid : validMapAddr a <;> simp [validateMap, State.stageMap, valid]

theorem validMapAddr_of_ok {a : Addr} {record : List Byte} {m : VelMap} (h : validateMap a record = .ok m) :
    validMapAddr a = true := by
  cases valid : validMapAddr a
  · simp [validateMap, valid] at h
  · rfl

/-- The MAP cue of a STRIKE channel always has room (R32). -/
theorem State.takeOn_map {s : State} {c : Cue} (onset : Int) {ch : Byte} {a : Addr} {r : Bool} {n : ChanId}
    (hb : c.body = .map ch a r) (hn : s.chanOf ch .strike = some n) :
    s.takeOn c onset = (s.resolveMap s.cueLoc n a r).readNext := by
  simp [State.takeOn, State.asks, hb, hn, State.roomAndAdmit, State.roomFor, State.placeAsk]

section
variable {s : State} {n : ChanId}

theorem State.resolveMap_pinned (l : CueLoc) (a : Addr) (r : Bool) (pinned : (s.ccfg n).pinned = true) :
    s.resolveMap l n a r =
      { s with mem := Memory.writeBytes s.mem (cueAddr l + 8) [12, 0, 0, 0, 0, 0, 0, 0] } := by
  simp only [State.resolveMap, pinned, if_true]
  rfl

variable (free : (s.ccfg n).pinned = false)
include free

theorem State.resolveMap_latched (l : CueLoc) {a : Addr} (r : Bool) {m : VelMap}
    (ok : validateMap a (Memory.readBytes s.mem a.toNat 64) = .ok m) :
    s.resolveMap l n a r = { s with
      mem := Memory.writeBytes s.mem (cueAddr l + 8) [11, 0, 0, 0, 0, 0, 0, 0]
      staging := Memory.readBytes s.mem a.toNat 64, maps := s.maps.set n (some m)
      chans := if r then s.chans.set n { s.chan n with trim := (s.ccfg n).initialTrim } else s.chans } := by
  have staged : s.stageMap a = s.setStaging (Memory.readBytes s.mem a.toNat 64) := by
    simp [State.stageMap, validMapAddr_of_ok ok]
  have checked := (s.validateMap_stageMap a).trans ok
  simp only [State.resolveMap, free, if_false, Bool.false_eq_true, checked]
  rw [staged]
  cases r <;> rfl

theorem State.resolveMap_badMap (l : CueLoc) {a : Addr} (r : Bool) {d : MapDetail} {k : Nat}
    (bad : validateMap a (Memory.readBytes s.mem a.toNat 64) = .error (d, k)) :
    s.resolveMap l n a r = { s with
      mem := Memory.writeBytes s.mem (cueAddr l + 8) [13, BitVec.ofNat 8 d.code, BitVec.ofNat 8 k, 0, 0, 0, 0, 0]
      staging := if validMapAddr a then Memory.readBytes s.mem a.toNat 64 else s.staging } := by
  have checked := (s.validateMap_stageMap a).trans bad
  simp only [State.resolveMap, free, if_false, Bool.false_eq_true, checked]
  unfold State.stageMap
  cases validMapAddr a <;> rfl
end

/-! ### REPEAT cues (R34, R35) -/

/-- A REPEAT cue's room is tested at its jump (R35). -/
theorem State.takeOn_repeat {s : State} {c : Cue} (onset : Int) {target : Addr} {count : Nat}
    (hb : c.body = .repeatJump target count) : s.takeOn c onset = s.takeRepeat target count := by
  simp [State.takeOn, State.asks, hb, State.roomAndAdmit, State.roomFor, State.placeAsk]

section
variable {s : State} (target : Addr) (count : Nat)

/-- A frame of this REPEAT with repeats left jumps back, one fewer (R34). -/
theorem State.takeRepeat_again {f : Frame} {fs : List Frame} (top : s.reader.stack = f :: fs) (own : f.cue = s.cueLoc)
    (left : 1 < f.remaining) :
    s.takeRepeat target count =
      s.enterBlock f.target (.jump ({ f with remaining := f.remaining - 1 } :: fs)) entryFuel := by
  simp only [State.takeRepeat, top, own, left, if_true]

/-- A frame of this REPEAT that is used up is popped (R34). -/
theorem State.takeRepeat_done {f : Frame} {fs : List Frame} (top : s.reader.stack = f :: fs) (own : f.cue = s.cueLoc)
    (used : f.remaining ≤ 1) :
    s.takeRepeat target count = (s.setReader { s.reader with stack := fs }).readNext := by
  simp only [State.takeRepeat, top, own, if_true, if_neg (show ¬1 < f.remaining by omega)]

/-- A REPEAT without a frame of its own: past itself, a fault of depth, or a jump with a new frame (R34). -/
theorem State.takeRepeat_new (other : ∀ f, s.reader.stack.head? = some f → f.cue ≠ s.cueLoc) :
    s.takeRepeat target count =
      if count ≤ 1 then s.readNext
      else if 4 ≤ s.reader.stack.length then s.chainFault .loopDepthFull s.reader.block s.reader.slot 8
      else s.enterBlock target
        (.jump ({ cue := s.cueLoc, target := target, remaining := count - 1 } :: s.reader.stack)) entryFuel := by
  unfold State.takeRepeat
  cases top : s.reader.stack with
  | nil => rfl
  | cons f fs => exact if_neg (other f (by rw [top]; rfl))
end

/-- Settles O53: the cue is taken by its kind, and a jump is an entry with the stack change of its own. -/
theorem mapAndRepeatCuesAreTakenAtAdmission : Obligations.MapAndRepeatCuesAreTakenAtAdmission := by
  unfold Obligations.MapAndRepeatCuesAreTakenAtAdmission
  intro s c onset
  refine ⟨fun ch a r n hb hn => ?_, fun target count hb => ?_, fun a stack => ?_⟩
  · intro record result
    rw [State.takeOn_map onset hb hn]
    refine ⟨fun pinned => ?_, fun m free ok => ?_, fun d k free bad => ?_⟩
    · rw [State.resolveMap_pinned _ a r pinned]
    · rw [State.resolveMap_latched free _ r ok]
    · rw [State.resolveMap_badMap free _ r bad]
  · rw [State.takeOn_repeat onset hb]
    refine ⟨fun f fs top own => ⟨State.takeRepeat_again target count top own,
      State.takeRepeat_done target count top own⟩, fun other => ?_⟩
    rw [State.takeRepeat_new target count other]
    refine ⟨fun once => if_pos once, fun more deep => ?_, fun more room => ?_⟩
    · rw [if_neg (by omega), if_pos deep, State.chainFault_eq]
    · rw [if_neg (by omega), if_neg (by omega)]
  · refine ⟨fun full => ?_, fun room invalid => ?_, fun d room valid signed cues few placed hc => ?_,
      fun room valid unsigned => ?_, fun room valid signed many => ?_,
      fun room valid signed cues few placed hc => ?_, fun room valid signed empty placed => ?_⟩
    · exact State.enterBlock_stalls a (.jump stack) 240 full
    · exact State.enterBlock_fault (.jump stack) 240 room (blockFault_address invalid)
    · exact State.enterBlock_cue (.jump stack) 240 room placed valid signed cues few hc
    · exact State.enterBlock_fault (.jump stack) 240 room (blockFault_signature valid unsigned)
    · exact State.enterBlock_fault (.jump stack) 240 room (blockFault_count valid signed many)
    · exact State.enterBlock_badCue (.jump stack) 240 room placed valid signed cues few hc
    · exact State.enterBlock_noCues (.jump stack) 240 room placed valid signed (congrArg BitVec.toNat empty)

end Sys2Proof.Machine

/-! PROOFS. The pending cue: the horizon, refusal, room and admission. -/
namespace Sys2Proof.Machine
open Sys2Proof

/-! ### The horizon and the stall (R27, R29) -/

theorem State.pendingCue_eq {s : State} {c : Cue} {onset : Int} (pending : s.reader.pending = .cue c)
    (projected : s.cueOnset c = some onset) : s.pendingCue = some (c, onset) := by
  simp [State.pendingCue, pending, projected]

theorem State.passHorizon_eq {s : State} {c : Cue} {onset : Int} (h : s.pendingCue = some (c, onset)) :
    s.passHorizon = s.takeOn c onset := by
  simp [State.passHorizon, h]

/-- What the reader holds pending goes on once there is room, in RUNNING (R29). -/
theorem exec_stallReleased {s : State} (hn : s.nrstLow = false) (runs : s.perf.state = .running)
    (stalled : s.reader.state = .stalled) (room : s.pendingRoom = true) :
    exec .stallReleased s = .next (publish s s.releaseStall) := by
  have due : stallReleasedDue s = true := by simp [stallReleasedDue, runs, stalled, room]
  exact onEvent_due State.releaseStall hn due

/-! ### What a cue asks for (R28) -/

theorem chanOfByte_eq_some (b : Byte) (n : ChanId) : chanOfByte b = some n ↔ b.toNat = n.val := by
  have small := n.isLt
  unfold chanOfByte
  split
  next h => simp [Fin.ext_iff]
  next h => simp only [reduceCtorEq, false_iff]; omega

theorem State.chanOf_eq_some (s : State) (b : Byte) (cls : ChanClass) (n : ChanId) :
    s.chanOf b cls = some n ↔ b.toNat = n.val ∧ (s.ccfg n).cls = cls := by
  rw [← chanOfByte_eq_some, State.chanOf]
  cases h : chanOfByte b with
  | none => simp
  | some m =>
    simp only [Option.ite_none_right_eq_some, Option.some.injEq]
    constructor
    · rintro ⟨hm, rfl⟩; exact ⟨rfl, hm⟩
    · rintro ⟨rfl, hm⟩; exact ⟨hm, rfl⟩

/-- A cue that Table 2-3 refuses is REFUSED, and the reader goes on (R28). -/
theorem State.takeOn_refused {s : State} {c : Cue} (onset : Int) (h : s.asks c.body = none) :
    s.takeOn c onset = (s.writeResult s.cueLoc (s.refusal c.body)).readNext := by
  simp [State.takeOn, h]

/-- An unrefused cue whose work has room is admitted (R30). -/
theorem State.takeOn_placed {s : State} {c : Cue} (onset : Int) {a : Ask} (h : s.asks c.body = some a)
    (room : s.roomFor a = true) : s.takeOn c onset = s.placeAsk a onset := by
  simp [State.takeOn, h, State.roomAndAdmit, room]

/-- An unrefused cue whose work has no room stalls the reader (R29). -/
theorem State.takeOn_full {s : State} {c : Cue} (onset : Int) {a : Ask} (h : s.asks c.body = some a)
    (full : s.roomFor a = false) : s.takeOn c onset = s.setReader { s.reader with state := .stalled } := by
  simp [State.takeOn, h, State.roomAndAdmit, full]

theorem State.asks_strike {s : State} {ch : Byte} {v : Nat} {m : Int} {r : Bool} {n : ChanId}
    (h : s.chanOf ch .strike = some n) : s.asks (.strike ch v m r) = some (.strike n v r) := by
  simp [State.asks, h]

theorem State.asks_hold {s : State} {ch : Byte} {op : HoldOp} {m : Int} {n : ChanId}
    (h : s.chanOf ch .hold = some n) : s.asks (.hold ch (some op) m) = some (.hold n op) := by
  simp [State.asks, h]

/-- The refusals of Table 2-3 (R28). -/
theorem State.asks_eq_none {s : State} {b : CueBody}
    (h : (∃ ch v m r, b = .strike ch v m r ∧ s.chanOf ch .strike = none) ∨
      (∃ ch op m, b = .hold ch op m ∧ (s.chanOf ch .hold = none ∨ op = none)) ∨
      b = .rotor none ∨ (∃ ch a r, b = .map ch a r ∧ s.chanOf ch .strike = none)) : s.asks b = none := by
  rcases h with ⟨ch, v, m, r, rfl, no⟩ | ⟨ch, op, m, rfl, no⟩ | rfl | ⟨ch, a, r, rfl, no⟩
  · simp [State.asks, no]
  · rcases no with no | rfl
    · simp [State.asks, no]
    · cases hc : s.chanOf ch .hold <;> simp [State.asks, hc]
  · rfl
  · simp [State.asks, no]

/-- A refused STRIKE carries the REHEARSED mark in rehearsal; every other refusal nothing but its outcome (R95, R107, R160,
log entry 32). -/
theorem State.refusal_eq (s : State) (b : CueBody) :
    s.refusal b = [7, if b.kindCode = 1 ∧ s.rehearsal = true then 32 else 0, 0, 0, 0, 0, 0, 0] := by
  cases b with
  | strike =>
    simp only [State.refusal, State.strikeResult, CueBody.kindCode]
    cases s.rehearsal <;> rfl
  | _ => rfl

/-! ### Rooms (R29) -/

theorem State.fqRoom_of_lt {s : State} (h : s.fq.length < 96) : s.fqRoom = true := decide_eq_true h
theorem State.fqRoom_of_ge {s : State} (h : 96 ≤ s.fq.length) : s.fqRoom = false := decide_eq_false (by omega)
theorem State.agendaRoom_of_lt {s : State} (h : s.scu.agenda.length < 4) : s.agendaRoom = true := decide_eq_true h
theorem State.agendaRoom_of_ge {s : State} (h : 4 ≤ s.scu.agenda.length) : s.agendaRoom = false :=
  decide_eq_false (by omega)

/-- Settles O52: the pending cue is taken on, and by what it asks for it is refused, stalls the reader or places its work. -/
theorem aPendingCueIsAdmittedStalledOrRefused : Obligations.APendingCueIsAdmittedStalledOrRefused := by
  unfold Obligations.APendingCueIsAdmittedStalledOrRefused
  refine ⟨fun s c onset hn runs waits pending projected near => ?_,
    fun s c onset hn runs stalled pending projected room => ?_, fun s a hn runs stalled pending room => ?_,
    fun s c onset => ?_⟩
  · have cue := State.pendingCue_eq pending projected
    have due : horizonPassedDue s = true := by
      simp [horizonPassedDue, runs, waits, cue, State.horizon, State.now, near]
    rw [← State.passHorizon_eq cue]
    exact ⟨_, onEvent_due State.passHorizon hn due, publishes_publish s _⟩
  · have released : s.releaseStall = s.takeOn c onset := by
      simp only [State.releaseStall, pending, State.passHorizon_eq (State.pendingCue_eq pending projected)]
    rw [← released]
    exact ⟨_, exec_stallReleased hn runs stalled room, publishes_publish s _⟩
  · have released : s.releaseStall = s.enterBlock a .link entryFuel := by simp only [State.releaseStall, pending]
    have open_ : s.pendingRoom = true := by simp [State.pendingRoom, pending, State.passRoom, room]
    rw [← released]
    exact ⟨_, exec_stallReleased hn runs stalled open_, publishes_publish s _⟩
  · refine ⟨fun refused => ?_, s.chanOf_eq_some, fun ch v m r n hb hc room => ?_, fun ch m n hb hc room => ?_,
      fun ch m n hb hc room => ?_, fun cmd hb room => ?_, fun r hb room => ?_, fun full asked => ?_,
      fun p r hb room => ?_, fun x y u d hb room => ?_, fun full asked => ?_⟩
    · rw [State.takeOn_refused onset (State.asks_eq_none refused), State.refusal_eq]
      cases c.body <;> simp [CueBody.kindCode] <;> rfl
    · exact State.takeOn_placed (s := s) (a := .strike n v r) onset (by rw [hb]; exact State.asks_strike hc)
        (State.fqRoom_of_lt room)
    · exact State.takeOn_placed (s := s) (a := .hold n .engage) onset (by rw [hb]; exact State.asks_hold hc)
        (State.fqRoom_of_lt room)
    · exact State.takeOn_placed (s := s) (a := .hold n .release) onset (by rw [hb]; exact State.asks_hold hc)
        (State.fqRoom_of_lt room)
    · exact State.takeOn_placed (s := s) (a := .rotor cmd) onset (by rw [hb]; rfl) (State.fqRoom_of_lt room)
    · exact State.takeOn_placed (s := s) (a := .mark r) onset (by rw [hb]; rfl) (State.fqRoom_of_lt room)
    · have none := State.fqRoom_of_ge full
      rcases asked with ⟨ch, v, m, r, n, hb, hc⟩ | ⟨ch, op, m, n, hb, hc⟩ | ⟨cmd, hb⟩ | ⟨r, hb⟩
      · exact State.takeOn_full (a := .strike n v r) onset (by rw [hb]; exact State.asks_strike hc) none
      · exact State.takeOn_full (a := .hold n op) onset (by rw [hb]; exact State.asks_hold hc) none
      · exact State.takeOn_full (a := .rotor cmd) onset (by rw [hb]; rfl) none
      · exact State.takeOn_full (a := .mark r) onset (by rw [hb]; rfl) none
    · exact State.takeOn_placed (s := s) (a := .agenda (.tempo (clampPeriod p) r)) onset (by rw [hb]; rfl)
        (State.agendaRoom_of_lt room)
    · exact State.takeOn_placed (s := s) (a := .agenda (.holdpoint x y u d)) onset (by rw [hb]; rfl)
        (State.agendaRoom_of_lt room)
    · have none := State.agendaRoom_of_ge full
      rcases asked with ⟨p, r, hb⟩ | ⟨x, y, u, d, hb⟩
      · exact State.takeOn_full (a := .agenda (.tempo (clampPeriod p) r)) onset (by rw [hb]; rfl) none
      · exact State.takeOn_full (a := .agenda (.holdpoint x y u d)) onset (by rw [hb]; rfl) none

end Sys2Proof.Machine

/-! PROOFS. References into block space: what each operation on the queue, the channels and the rotor leaves of them. -/
namespace Sys2Proof.Machine
open Sys2Proof

/-! ### What is placed in block space -/

/-- The cue of a fire queue entry, if it has one, is one of block space. -/
def Work.placed (w : Work) : Prop := ∀ c ∈ w.cue, c.loc.inBlock

/-- A stroke that a channel may hold belongs to a cue of block space. -/
def strokePlaced (k : Option Stroke) : Prop := ∀ x ∈ k, x.cue.loc.inBlock

/-- An engage that a channel may hold belongs to a cue of block space, if to any. -/
def engagePlaced (g : Option EngageRun) : Prop := ∀ x ∈ g, ∀ c ∈ x.cue, c.loc.inBlock

theorem strokePlaced_none : strokePlaced none := fun _ h => nomatch h

theorem engagePlaced_none : engagePlaced none := fun _ h => nomatch h

theorem strokePlaced_some {k : Stroke} : strokePlaced (some k) ↔ k.cue.loc.inBlock := by simp [strokePlaced]

theorem Work.placed_of_cue {w : Work} {c : CueRef} (h : w.placed) (hc : w.cue = some c) : c.loc.inBlock := h c hc

theorem State.passesPlaced.mapPass {s : State} (placed : s.passesPlaced) (p : Nat) {f : Pass → Pass}
    (keeps : ∀ q, (f q).block = q.block) : (s.mapPass p f).passesPlaced := by
  intro q hq
  obtain ⟨e, he, rfl⟩ := List.mem_map.1 hq
  split
  · rw [keeps]; exact placed e he
  · exact placed e he

/-! ### Where what is handed on comes from -/

theorem mem_fqInsert {e x : FqEntry} {l : List FqEntry} : x ∈ fqInsert e l ↔ x = e ∨ x ∈ l := by
  induction l with
  | nil => simp [fqInsert]
  | cons y ys ih =>
    unfold fqInsert
    split
    · simp
    · simp only [List.mem_cons, ih]
      tauto

/-- An entry found by its number is one of the queue. -/
theorem State.mem_of_fqFind {s : State} {q : Nat} {e : FqEntry} (h : s.fqFind q = some e) : e ∈ s.fq :=
  List.mem_of_find?_eq_some h

theorem State.stroke_of_hitBy {s : State} {n : ChanId} {raw : DevTime} {k : Stroke} (h : s.hitBy n raw = some k) :
    (s.chan n).stroke = some k := by
  unfold State.hitBy at h
  split at h
  · split at h <;> simp_all
  · cases h

theorem State.stroke_of_toSynthesise {s : State} {n : ChanId} {k : Stroke} (h : s.toSynthesise n = some k) :
    (s.chan n).stroke = some k := by
  unfold State.toSynthesise at h
  repeat' split at h
  all_goals simp_all

theorem State.stroke_of_toSettle {s : State} {n : ChanId} {k : Stroke} (h : s.toSettle n = some k) :
    (s.chan n).stroke = some k := by
  unfold State.toSettle at h
  repeat' split at h
  all_goals simp_all

/-! ### One rule for each field that holds references -/

section
variable {s t : State} (h : s.refsInBlocks)
include h

/-- An operation that leaves every field that holds references. -/
theorem State.refsInBlocks.same (kept : t.passes = s.passes ∧ t.fq = s.fq ∧ t.scu.agenda = s.scu.agenda ∧
    t.chans = s.chans ∧ t.rot.owed = s.rot.owed ∧ t.reader = s.reader) : t.refsInBlocks := by
  obtain ⟨passes, fq, agenda, chans, owed, reader⟩ := kept
  obtain ⟨h1, h2, h3, h4, h5, h6, h7⟩ := h
  constructor <;> simp only [passes, fq, agenda, State.chan, chans, owed, reader] <;> assumption

theorem State.refsInBlocks.of_passes (passes : t.passesPlaced) (kept : t.fq = s.fq ∧ t.scu.agenda = s.scu.agenda ∧
    t.chans = s.chans ∧ t.rot.owed = s.rot.owed ∧ t.reader = s.reader) : t.refsInBlocks := by
  have placed : (s.setPasses t.passes).refsInBlocks := { h with passes := passes }
  exact placed.same ⟨rfl, kept⟩

theorem State.refsInBlocks.setFq {x : List FqEntry} (queue : ∀ e ∈ x, e.work.placed) : (s.setFq x).refsInBlocks :=
  { h with queue := queue }

theorem State.refsInBlocks.setScu {x : Scu} (agenda : ∀ e ∈ x.agenda, e.cue.loc.inBlock) : (s.setScu x).refsInBlocks :=
  { h with agenda := agenda }

theorem State.refsInBlocks.setRot {x : Rotor} (owed : ∀ l ∈ x.owed, l.inBlock) : (s.setRot x).refsInBlocks :=
  { h with rotor := owed }

/-- A change of the rotor that leaves the cue it owes. -/
theorem State.refsInBlocks.turn {x : Rotor} (same : x.owed = s.rot.owed) : (s.setRot x).refsInBlocks :=
  h.setRot (by rw [same]; exact h.rotor)

theorem State.refsInBlocks.setChan (n : ChanId) {c : Channel} (stroke : strokePlaced c.stroke)
    (engage : engagePlaced c.engage) : (s.setChan n c).refsInBlocks := by
  have chan (m : ChanId) : (s.setChan n c).chan m = c ∨ (s.setChan n c).chan m = s.chan m := by
    simp only [State.chan, State.setChan, State.setChans_chans, Fin.getElem_fin, Vector.getElem_set]
    split
    · exact .inl rfl
    · exact .inr rfl
  exact {
    passes := by simpa using h.passes
    queue := by simpa using h.queue
    agenda := by simpa using h.agenda
    stroke := fun m => by
      rcases chan m with e | e <;> rw [e]
      · exact stroke
      · exact h.stroke m
    engage := fun m => by
      rcases chan m with e | e <;> rw [e]
      · exact engage
      · exact h.engage m
    rotor := by simpa using h.rotor
    reader := by simpa using h.reader }

/-- A change of a channel that leaves its stroke and its engage. -/
theorem State.refsInBlocks.touch (n : ChanId) {c : Channel}
    (same : c.stroke = (s.chan n).stroke ∧ c.engage = (s.chan n).engage) :
    (s.setChan n c).refsInBlocks :=
  h.setChan n (by rw [same.1]; exact h.stroke n) (by rw [same.2]; exact h.engage n)

theorem State.refsInBlocks.setChanState (n : ChanId) (x : ChanState) : (s.setChanState n x).refsInBlocks :=
  h.touch n (by simp)

theorem State.refsInBlocks.setFlag (f : AttnFlag) : (s.setFlag f).refsInBlocks := h.same (by simp)

theorem State.refsInBlocks.writeResult (l : CueLoc) (r : List Byte) : (s.writeResult l r).refsInBlocks := h.same (by simp)

/-! ### The open block table -/

theorem State.refsInBlocks.addItem (p : Nat) : (s.addItem p).refsInBlocks :=
  h.of_passes (State.passesPlaced.mapPass (s := s) h.passes p fun _ => rfl) (by simp)

theorem State.refsInBlocks.endItem (p : Nat) : (s.endItem p).refsInBlocks :=
  h.of_passes ((State.closePass_goesOnTo _ p).passes (State.passesPlaced.mapPass (s := s) h.passes p fun _ => rfl))
    (by simp)

theorem State.refsInBlocks.resolve (c : CueRef) (r : List Byte) : (s.resolve c r).refsInBlocks :=
  (h.writeResult c.loc r).endItem c.pass

theorem State.refsInBlocks.resolve? (c : Option CueRef) (r : List Byte) : (s.resolve? c r).refsInBlocks := by
  cases c with
  | none => exact h
  | some c => exact h.resolve c r

/-! ### The rotor -/

theorem State.refsInBlocks.rotorResolve (o : CueOutcome) : (s.rotorResolve o).refsInBlocks := by
  unfold State.rotorResolve
  split
  · exact (h.writeResult _ _).setRot (by simp)
  · exact h

theorem State.refsInBlocks.rotorRest (x : RotorState) : (s.rotorRest x).refsInBlocks := h.turn (by simp)

theorem State.refsInBlocks.rotorArm : s.rotorArm.refsInBlocks := by
  unfold State.rotorArm
  split
  · exact h.turn (by simp)
  · exact h

theorem State.refsInBlocks.rotorTest : s.rotorTest.refsInBlocks := by
  unfold State.rotorTest
  split
  · split
    · exact h.rotorResolve _
    · exact h
  · split
    · exact h.rotorResolve _
    · exact h
  · split
    · exact (h.rotorRest _).rotorResolve _
    · exact h
  · exact h.rotorArm
  · exact h

theorem State.refsInBlocks.rotorPark : s.rotorPark.refsInBlocks := by
  unfold State.rotorPark
  split
  · exact State.refsInBlocks.rotorResolve ((h.rotorRest .parked).same (by simp)) _
  · exact (h.turn (by simp)).rotorTest

theorem State.refsInBlocks.rotorCommand {l : CueLoc} (placed : l.inBlock) (cmd : RotorCmd) :
    (s.rotorCommand l cmd).refsInBlocks := by
  have own : ∀ x ∈ some l, x.inBlock := by simpa using placed
  have taken := (h.rotorResolve .superseded).setRot
    (x := { (s.rotorResolve .superseded).rot with owed := some l, cmd := some cmd, search := none }) own
  cases cmd with
  | fixed r => simp only [State.rotorCommand]; exact (taken.turn (by simp)).rotorTest
  | beat b => simp only [State.rotorCommand]; exact (taken.turn (by simp)).rotorTest
  | off =>
    simp only [State.rotorCommand]
    split
    · exact (taken.rotorRest _).rotorResolve _
    · exact (taken.rotorRest _).rotorResolve _
    · exact (taken.rotorRest _).rotorResolve _
    · exact (taken.turn (by simp)).rotorTest
    · exact (taken.turn (by simp)).rotorTest
  | park =>
    simp only [State.rotorCommand]
    split
    · exact taken.rotorResolve _
    all_goals exact taken.rotorPark

theorem State.refsInBlocks.rotorStepAt (d : DevTime) : (s.rotorStepAt d).refsInBlocks := by
  simp only [State.rotorStepAt]
  generalize (if s.global.reverse = true then s.rot.phase - 1 else s.rot.phase + 1) = phase
  generalize (if s.rot.rate = 0 then none else some (d + BitVec.ofNat 32 (1000000 / s.rot.rate))) = next
  split
  · split
    · exact (((h.turn (by simp)).rotorRest _).rotorResolve _).setFlag _
    · exact h.turn (by simp)
  · exact h.turn (by simp)

theorem State.refsInBlocks.rotorAccelerate : s.rotorAccelerate.refsInBlocks := by
  unfold State.rotorAccelerate
  split
  · split
    · exact h.rotorTest
    · refine State.refsInBlocks.rotorTest ?_
      simp only [State.rotorSetRate]
      split
      · exact (h.turn (by simp)).rotorStepAt _
      · split
        · exact (h.turn (by simp)).turn (by simp)
        · exact h.turn (by simp)
  · exact h

theorem State.refsInBlocks.rotorStepTaken : s.rotorStepTaken.refsInBlocks := by
  unfold State.rotorStepTaken
  split
  · exact h.rotorStepAt _
  · exact h

theorem State.refsInBlocks.rotorHome : s.rotorHome.refsInBlocks := by
  unfold State.rotorHome
  split
  · exact (h.rotorRest _).rotorResolve _
  · exact h

theorem State.refsInBlocks.rotorBrown : s.rotorBrown.refsInBlocks := by
  simp only [State.rotorBrown]
  split
  · exact (h.turn (by simp)).rotorTest
  · exact h.turn (by simp)

theorem State.refsInBlocks.rotorQuiet : s.rotorQuiet.refsInBlocks :=
  State.refsInBlocks.setRot ((h.rotorResolve .quieted).rotorRest .stopped) (h.rotorResolve .quieted).rotor

theorem State.refsInBlocks.rotorStop : s.rotorStop.refsInBlocks := by
  have first : (if s.rot.cmd = some .park then s else s.rotorResolve .cancelled).refsInBlocks := by
    split
    · exact h
    · exact h.rotorResolve _
  simp only [State.rotorStop]
  generalize (if s.rot.cmd = some .park then s else s.rotorResolve .cancelled) = u at first ⊢
  split
  · exact first.rotorPark
  · exact first

/-! ### The fire queue -/

theorem State.refsInBlocks.fqJoin {w : Work} (placed : w.placed) (onset fire : Int) :
    (s.fqJoin w onset fire).refsInBlocks := by
  have joined (e : FqEntry) (he : e.work = w) : ((s.setFq (fqInsert e s.fq)).setFqSeq (s.fqSeq + 1)).refsInBlocks := by
    refine State.refsInBlocks.same (h.setFq (x := fqInsert e s.fq) fun x hx => ?_) (by simp)
    rcases mem_fqInsert.1 hx with rfl | hx
    · rw [he]; exact placed
    · exact h.queue x hx
  simp only [State.fqJoin]
  split
  · exact (joined _ rfl).addItem _
  · exact joined _ rfl

theorem State.refsInBlocks.fqRemove (e : FqEntry) : (s.fqRemove e).refsInBlocks :=
  h.setFq fun x hx => h.queue x (List.mem_of_mem_filter hx)

theorem State.refsInBlocks.fqResolve (e : FqEntry) (o : CueOutcome) (c : DropCause) (b : Bool) :
    (s.fqResolve e o c b).refsInBlocks := (h.fqRemove e).resolve? _ _

theorem State.refsInBlocks.resolveEngages (n : ChanId) : (s.resolveEngages n).refsInBlocks :=
  List.foldlRecOn (motive := State.refsInBlocks) _ _ h fun _ hu e _ => hu.fqResolve e _ _ _

theorem State.refsInBlocks.granted (n : ChanId) {c : Channel} (stroke : strokePlaced c.stroke)
    (engage : engagePlaced c.engage) : (s.granted n c).refsInBlocks := by
  have set := h.setChan n stroke engage
  unfold State.granted
  exact set.same (by simp)

/-- A grant hands the entry's cue to the channel. -/
theorem State.refsInBlocks.grant {e : FqEntry} (placed : e.work.placed) (n : ChanId) : (s.grant e n).refsInBlocks := by
  have left : ((s.fqRemove e).setSlots (s.slots + 1)).refsInBlocks := State.refsInBlocks.same (h.fqRemove e) (by simp)
  simp only [State.grant]
  generalize (s.fqRemove e).setSlots (s.slots + 1) = u at left ⊢
  have stroke := left.stroke n
  have engage := left.engage n
  cases hw : e.work with
  | strike w =>
    exact left.granted n (strokePlaced_some.2 (Work.placed_of_cue placed (c := w.cue) (by rw [hw]; rfl))) engage
  | restrike w =>
    exact left.granted n (strokePlaced_some.2 (Work.placed_of_cue placed (c := w.cue) (by rw [hw]; rfl))) engage
  | engage c m =>
    refine State.refsInBlocks.resolveEngages (left.granted n ?_ ?_) n
    · exact stroke
    intro g hg c' hc
    obtain rfl := Option.mem_some_iff.1 hg
    exact Work.placed_of_cue placed (by rw [hw]; exact hc)
  | _ => exact left

theorem State.refsInBlocks.grantTurn (q : Nat) : (s.grantTurn q).refsInBlocks := by
  unfold State.grantTurn
  split
  next e he =>
    split
    · split
      · exact h.grant (h.queue e (State.mem_of_fqFind he)) _
      · exact h
    · exact h
  next => exact h

theorem State.refsInBlocks.grantTest : s.grantTest.refsInBlocks := by
  unfold State.grantTest
  split
  · exact h
  · exact List.foldlRecOn (motive := State.refsInBlocks) _ _ h fun _ hu q _ => hu.grantTurn q

theorem State.refsInBlocks.freeSlot : s.freeSlot.refsInBlocks := State.refsInBlocks.grantTest (h.same (by simp))

theorem State.refsInBlocks.skewExpiry : s.skewExpiry.refsInBlocks := by
  unfold State.skewExpiry
  split
  · exact h.fqResolve _ _ _ _
  · exact h

theorem State.refsInBlocks.dropWaiting : s.dropWaiting.refsInBlocks :=
  List.foldlRecOn (motive := State.refsInBlocks) _ _ h fun _ hu e _ => hu.fqResolve e _ _ _

/-- A change of entries that leaves their work. -/
theorem State.refsInBlocks.mapFq {f : FqEntry → FqEntry} (keeps : ∀ e, (f e).work = e.work) :
    (s.setFq (s.fq.map f)).refsInBlocks := by
  refine h.setFq fun x hx => ?_
  obtain ⟨e, he, rfl⟩ := List.mem_map.1 hx
  rw [keeps]
  exact h.queue e he

theorem State.refsInBlocks.enterWait (e : FqEntry) : (s.enterWait e).refsInBlocks := by
  have waits := State.refsInBlocks.grantTest (h.mapFq
    (f := fun x => if x.seq == e.seq then { x with wait := some s.scu.dt } else x) fun x => by split <;> rfl)
  simp only [State.enterWait]
  split
  · split
    · exact waits.fqResolve _ _ _ _
    · exact waits
  · exact waits

theorem State.refsInBlocks.countMiss (n : ChanId) : (s.countMiss n).refsInBlocks := by
  simp only [State.countMiss]
  split
  · exact ((h.touch n (by simp)).setChanState n _).setFlag _
  · exact h.touch n (by simp)

theorem State.refsInBlocks.cancelEntry (e : FqEntry) : (s.cancelEntry e).refsInBlocks := by
  unfold State.cancelEntry
  split
  · exact (h.fqResolve _ _ _ _).countMiss _
  all_goals exact h.fqResolve _ _ _ _

theorem State.refsInBlocks.cancelQueue : s.cancelQueue.refsInBlocks :=
  List.foldlRecOn (motive := State.refsInBlocks) _ _ h fun _ hu e _ => hu.cancelEntry e

theorem State.refsInBlocks.quietQueue : s.quietQueue.refsInBlocks :=
  List.foldlRecOn (motive := State.refsInBlocks) _ _ h fun _ hu e _ => hu.fqResolve e _ _ _

/-- Something done for every channel keeps the references if it does for each. -/
theorem State.refsInBlocks.forChans {f : ChanId → State → State}
    (each : ∀ n u, State.refsInBlocks u → (f n u).refsInBlocks) : (s.forChans f).refsInBlocks :=
  List.foldlRecOn (motive := State.refsInBlocks) _ _ h fun u hu n _ => each n u hu

/-! ### Striker channels -/

theorem State.refsInBlocks.addHeat (n : ChanId) (d : Nat) : (s.addHeat n d).refsInBlocks := by
  unfold State.addHeat
  split
  · exact h
  · exact h.touch n (by simp)

theorem State.refsInBlocks.strokeLeaves (n : ChanId) : (s.strokeLeaves n).refsInBlocks := by
  unfold State.strokeLeaves
  split
  · exact (h.setChan n (c := { s.chan n with stroke := none }) strokePlaced_none (h.engage n)).endItem _
  · exact h

theorem State.refsInBlocks.recoveryDone (n : ChanId) : (s.recoveryDone n).refsInBlocks := by
  have left := h.strokeLeaves n
  simp only [State.recoveryDone]
  split
  · exact (left.setChanState n _).setFlag _
  · split
    · exact (left.setChanState n _).setFlag _
    · exact (left.setChanState n _).grantTest

theorem State.refsInBlocks.enterRecover (n : ChanId) (d : DevTime) : (s.enterRecover n d).refsInBlocks := by
  simp only [State.enterRecover]
  split
  · exact State.refsInBlocks.recoveryDone (h.touch n (by simp)) n
  · exact h.touch n (by simp)

/-- A channel's stroke changed, its cue kept. -/
theorem State.refsInBlocks.setStroke {n : ChanId} {k : Stroke} (held : (s.chan n).stroke = some k) {c : Channel}
    (same : c.stroke.map Stroke.cue = some k.cue ∧ c.engage = (s.chan n).engage) :
    (s.setChan n c).refsInBlocks := by
  obtain ⟨stroke, engage⟩ := same
  refine h.setChan n (fun x hx => ?_) (by rw [engage]; exact h.engage n)
  rw [Option.mem_def.1 hx, Option.map_some, Option.some_inj] at stroke
  rw [stroke]
  exact h.stroke n k held

theorem State.refsInBlocks.afterPulse (n : ChanId) : (s.afterPulse n).refsInBlocks := by
  unfold State.afterPulse
  split
  · exact h.setChanState n _
  next k hk =>
    split
    · refine State.refsInBlocks.enterRecover (State.refsInBlocks.writeResult ?_ _ _) n _
      exact h.setStroke hk (by exact ⟨rfl, rfl⟩)
    · split
      · exact h.enterRecover n _
      · split
        · exact h.enterRecover n _
        · exact h.setChanState n _

theorem State.refsInBlocks.pulseOff (n : ChanId) (d : DevTime) : (s.pulseOff n d).refsInBlocks := by
  unfold State.pulseOff
  split
  next k hk => exact (State.refsInBlocks.freeSlot (h.setStroke hk (by exact ⟨rfl, rfl⟩))).addHeat n _
  next => exact h.freeSlot

theorem State.refsInBlocks.truncatePulse (n : ChanId) : (s.truncatePulse n).refsInBlocks := by
  unfold State.truncatePulse
  split
  · exact (h.pulseOff n _).afterPulse n
  · exact h

theorem State.refsInBlocks.hit {n : ChanId} {k : Stroke} (held : (s.chan n).stroke = some k) (raw : DevTime) :
    (s.hit n k raw).refsInBlocks := by
  have recorded : (s.recordHit n k raw).refsInBlocks :=
    State.refsInBlocks.writeResult (h.setStroke held (by exact ⟨rfl, rfl⟩)) _ _
  simp only [State.hit]
  split
  · split
    · exact (recorded.pulseOff n _).enterRecover n _
    · exact recorded
  · exact recorded.enterRecover n _
  all_goals exact recorded

theorem State.refsInBlocks.contact (n : ChanId) (raw : DevTime) : (s.contact n raw).refsInBlocks := by
  unfold State.contact
  split
  · split
    next k hk => exact h.hit (State.stroke_of_hitBy hk) raw
    next => exact h.touch n (by simp)
  · exact h

theorem State.refsInBlocks.synthesise (n : ChanId) : (s.synthesise n).refsInBlocks := by
  unfold State.synthesise
  split
  next k hk => exact h.hit (State.stroke_of_toSynthesise hk) _
  next => exact h

/-- A stroke without contact hands its cue to its RESTRIKE entry. -/
theorem State.refsInBlocks.decideMiss {n : ChanId} {k : Stroke} (held : (s.chan n).stroke = some k) :
    (s.decideMiss n k).refsInBlocks := by
  have marked : (s.markResolved n k).refsInBlocks := h.setStroke held (by exact ⟨rfl, rfl⟩)
  simp only [State.decideMiss]
  split
  · have placed : k.cue.loc.inBlock := h.stroke n k held
    exact marked.fqJoin (fun c hc => by obtain rfl := Option.mem_some_iff.1 hc; exact placed) _ _
  · exact (marked.writeResult _ _).countMiss n

theorem State.refsInBlocks.settle (n : ChanId) : (s.settle n).refsInBlocks := by
  unfold State.settle
  split
  next k hk =>
    have decided := h.decideMiss (State.stroke_of_toSettle hk)
    simp only
    split
    · exact decided.enterRecover n _
    · exact decided
  next => exact h

theorem State.refsInBlocks.quietStrike (n : ChanId) : (s.quietStrike n).refsInBlocks := by
  have off : (if (s.chan n).state = .drive then s.pulseOff n s.scu.dt else s).refsInBlocks := by
    split
    · exact h.pulseOff n _
    · exact h
  simp only [State.quietStrike]
  generalize (if (s.chan n).state = .drive then s.pulseOff n s.scu.dt else s) = u at off ⊢
  have gone : State.refsInBlocks (match (u.chan n).stroke with
      | some k =>
        State.strokeLeaves (if k.resolved = true then u else u.writeResult k.cue.loc
          (u.strikeResult .quieted .none k.second k.rerouted k.fireDelay 0 0)) n
      | none => u) := by
    split
    · split
      · exact off.strokeLeaves n
      · exact (off.writeResult _ _).strokeLeaves n
    · exact off
  split
  · exact gone.touch n (by exact ⟨rfl, rfl⟩)
  · exact gone

/-! ### Hold channels -/

theorem State.refsInBlocks.placeStanding (n : ChanId) : (s.placeStanding n).refsInBlocks := by
  simp only [State.placeStanding, State.placeReengage]
  exact State.refsInBlocks.fqJoin (h.touch n (by simp)) (fun _ hc => by simp [Work.cue] at hc) _ _

theorem State.refsInBlocks.requestReengage (n : ChanId) : (s.requestReengage n).refsInBlocks := by
  unfold State.requestReengage
  split
  · exact h.placeStanding n
  · exact h.touch n (by simp)

theorem State.refsInBlocks.reengageAfterBrown (n : ChanId) : (State.reengageAfterBrown n s).refsInBlocks := by
  unfold State.reengageAfterBrown
  split
  · exact h.requestReengage n
  · exact h

theorem State.refsInBlocks.engageOver (n : ChanId) (d : DevTime) (o : CueOutcome) (c : DropCause) :
    (s.engageOver n d o c).refsInBlocks := by
  unfold State.engageOver
  split
  next g _ =>
    have heated := h.freeSlot.addHeat n (g.driven d)
    exact (heated.setChan n (c := { (s.freeSlot.addHeat n (g.driven d)).chan n with engage := none })
      (heated.stroke n) engagePlaced_none).resolve? _ _
  next => exact h.freeSlot

theorem State.refsInBlocks.cutEngage (n : ChanId) (o : CueOutcome) (c : DropCause) : (s.cutEngage n o c).refsInBlocks :=
  (h.engageOver n _ o c).setChanState n _

theorem State.refsInBlocks.engageEnds (n : ChanId) : (s.engageEnds n).refsInBlocks := by
  have ended := h.engageOver n (s.engageDue n) .engaged .none
  simp only [State.engageEnds, State.afterEngage]
  split
  · exact ended.setChanState n _
  · split
    · exact (ended.setChanState n _).setFlag _
    · exact ended.touch n (by simp)

theorem State.refsInBlocks.forceRelease (n : ChanId) (o : CueOutcome) (c : DropCause) :
    (s.forceRelease n o c).refsInBlocks := by
  unfold State.forceRelease
  split
  · exact h.cutEngage n o c
  · exact h.setChanState n _
  all_goals exact h

theorem State.refsInBlocks.releaseHold (n : ChanId) : (s.releaseHold n).refsInBlocks := by
  have freed : (s.unwant n).refsInBlocks := h.touch n (by simp)
  simp only [State.releaseHold]
  split
  · exact freed.setChanState n _
  · exact freed.cutEngage n _ _
  all_goals exact freed

theorem State.refsInBlocks.brownHold (n : ChanId) : (State.brownHold n s).refsInBlocks := by
  unfold State.brownHold
  split
  · exact h.forceRelease n _ _
  · exact h

theorem State.refsInBlocks.endHold (o : CueOutcome) (n : ChanId) : (State.endHold o n s).refsInBlocks := by
  unfold State.endHold
  split
  · exact State.refsInBlocks.forceRelease (h.touch n (by simp)) n _ _
  · exact h

theorem State.refsInBlocks.releaseHolds (o : CueOutcome) : (s.releaseHolds o).refsInBlocks :=
  h.forChans fun n _ hu => hu.endHold o n

theorem State.refsInBlocks.holdHeatEvent (n : ChanId) : (s.holdHeatEvent n).refsInBlocks := by
  have cooled (x : Nat) : (s.setHeat n x).refsInBlocks := h.touch n (by simp)
  simp only [State.holdHeatEvent]
  generalize heatAfterDecay _ _ = heat
  split
  · exact ((cooled _).setChanState n _).setFlag _
  · split
    · split
      · exact ((cooled _).setChanState n _).requestReengage n
      · exact (cooled _).setChanState n _
    · exact cooled _

theorem State.refsInBlocks.heatEvent (n : ChanId) : (s.heatEvent n).refsInBlocks := by
  have cooled (x : Nat) : (s.setHeat n x).refsInBlocks := h.touch n (by simp)
  unfold State.heatEvent
  split
  · simp only [State.strikeHeatEvent]
    split
    · exact ((cooled _).setChanState n _).grantTest
    · exact cooled _
  · exact h.holdHeatEvent n
  · exact cooled _

/-! ### Arrivals -/

theorem State.refsInBlocks.arriveEngage (e : FqEntry) (c : Option CueRef) (n : ChanId) :
    (s.arriveEngage e c n).refsInBlocks := by
  have wanted : (if c.isSome then s.setChan n { s.chan n with holdWanted := true } else s).refsInBlocks := by
    split
    · exact h.touch n (by simp)
    · exact h
  simp only [State.arriveEngage]
  generalize (if c.isSome then s.setChan n { s.chan n with holdWanted := true } else s) = u at wanted ⊢
  split
  · exact wanted.fqResolve _ _ _ _
  · split
    · exact wanted.fqResolve _ _ _ _
    · exact wanted.fqResolve _ _ _ _
    · exact wanted.fqResolve _ _ _ _
    all_goals exact wanted.enterWait e

theorem State.refsInBlocks.arriveStroke (e : FqEntry) : (s.arriveStroke e).refsInBlocks := by
  unfold State.arriveStroke
  split
  · exact h.fqResolve _ _ _ _
  · exact h.enterWait e

/-- A ROTOR entry hands its cue to the rotor; every other arrival only lets references go. -/
theorem State.refsInBlocks.arrive {e : FqEntry} (placed : e.work.placed) : (s.arrive e).refsInBlocks := by
  unfold State.arrive
  split
  next c r _ =>
    simp only [State.arriveMark]
    split
    · exact ((h.fqRemove e).resolve _ _).setFlag _
    · exact (h.fqRemove e).resolve _ _
  next c cmd hw =>
    exact ((h.fqRemove e).rotorCommand (placed c (by simp [hw, Work.cue])) cmd).endItem _
  next => exact ((h.fqRemove e).releaseHold _).resolve _ _
  next => exact h.arriveEngage e _ _
  next => exact h.arriveStroke e
  next => exact h.arriveStroke e

theorem State.refsInBlocks.arriveAll : s.arriveAll.refsInBlocks := by
  unfold State.arriveAll
  split
  · refine List.foldlRecOn (motive := State.refsInBlocks) _ _ h fun u hu q _ => ?_
    unfold State.arriveTurn
    split
    next e he => exact hu.arrive (hu.queue e (State.mem_of_fqFind he))
    next => exact hu
  · exact h
end

end Sys2Proof.Machine

/-! PROOFS. References into block space: what the reader leaves of them, entering blocks and admitting cues. -/
namespace Sys2Proof.Machine
open Sys2Proof

/-! ### Where a reader may stand -/

/-- A reader in no pass. -/
theorem Reader.inBlock_outside {x : Reader} (outside : x.pass = none) (idle : ∀ c, x.pending ≠ .cue c)
    (state : x.state ≠ .held) : x.inBlock :=
  ⟨fun h => by simp [outside] at h, fun c hc => absurd hc (idle c), fun held => absurd held state⟩

/-- A reader that keeps its place, and is held no more than before. -/
theorem Reader.inBlock.stays {r x : Reader} (h : r.inBlock) (place : x.pass = r.pass ∧ x.block = r.block ∧
    x.count = r.count ∧ x.slot = r.slot) (pending : ∀ c, x.pending = .cue c → r.pending = .cue c)
    (held : x.state = .held → r.state = .held) : x.inBlock := by
  obtain ⟨pass, block, count, slot⟩ := place
  refine ⟨by rw [pass, block, count]; exact h.1, fun c hc => ?_, fun hx => ?_⟩
  · rw [pass, slot]; exact h.2.1 c (pending c hc)
  · rw [pass]; exact h.2.2 (held hx)

section
variable {s t : State} (h : s.refsInBlocks)
include h

/-- The reader goes on: the queue, the agenda, the channels and the rotor keep what they had. -/
theorem State.refsInBlocks.reads (passes : t.passesPlaced) (reader : t.reader.inBlock)
    (kept : t.fq = s.fq ∧ t.scu.agenda = s.scu.agenda ∧ t.chans = s.chans ∧ t.rot.owed = s.rot.owed) :
    t.refsInBlocks := by
  obtain ⟨fq, agenda, chans, owed⟩ := kept
  have moved : ((s.setPasses t.passes).setReader t.reader).refsInBlocks := { h with passes := passes, reader := reader }
  exact moved.same ⟨rfl, fq, agenda, chans, owed, rfl⟩

theorem State.refsInBlocks.setReader {r : Reader} (reader : r.inBlock) : (s.setReader r).refsInBlocks :=
  { h with reader := reader }

theorem State.refsInBlocks.setPerf (x : Perf) : (s.setPerf x).refsInBlocks := h.same (by simp)

/-! ### The ends of a pass -/

theorem State.refsInBlocks.chainFault (d : FaultDetail) (b : Addr) (i k : Nat) : (s.chainFault d b i k).refsInBlocks := by
  refine h.reads ((s.chainFault_goesOnTo d b i k).passes h.passes) ?_ (by simp)
  have reader : (s.chainFault d b i k).reader = { s.reader with state := .faulted, pending := .none, pass := none } := by
    simp [State.chainFault, State.enterDraining, State.leavePass_reader]
  rw [reader]
  exact Reader.inBlock_outside rfl nofun nofun

theorem State.refsInBlocks.takeEnd : s.takeEnd.refsInBlocks := by
  refine h.reads (s.takeEnd_goesOnTo.passes h.passes) ?_ (by simp)
  have reader : s.takeEnd.reader = { s.reader with state := .finished, pending := .none, pass := none } := by
    simp [State.takeEnd, State.enterDraining, State.leavePass_reader]
  rw [reader]
  exact Reader.inBlock_outside rfl nofun nofun

theorem State.refsInBlocks.starvedTest : s.starvedTest.refsInBlocks := by
  unfold State.starvedTest
  split
  · exact (h.setReader (h.reader.stays (by simp) (by simp) (by simp))).setFlag _
  · exact h

theorem State.refsInBlocks.enterLinkWait : s.enterLinkWait.refsInBlocks :=
  State.refsInBlocks.starvedTest (h.setReader (h.reader.stays (by simp) (by simp) (by simp)))

/-! ### Reading on -/

theorem State.refsInBlocks.readSlot {k : Nat} (inside : s.reader.pass.isSome = true) (slot : k < 15) :
    (s.readSlot k).refsInBlocks := by
  simp only [State.readSlot]
  split
  · exact h.setReader ⟨h.reader.1, fun _ _ => ⟨inside, slot⟩, nofun⟩
  · exact h.chainFault _ _ _ _

theorem State.refsInBlocks.entryFault (a : Addr) (how : Entry) (d : FaultDetail) : (s.entryFault a how d).refsInBlocks := by
  unfold State.entryFault
  split
  · exact h.chainFault _ _ _ _
  · cases how <;> exact h.chainFault _ _ _ _

theorem State.refsInBlocks.stallEntry (a : Addr) (how : Entry) {x : ReaderState} (hx : x ≠ .held) :
    (s.stallEntry a how x).refsInBlocks := by
  cases how with
  | jump => exact h.setReader (h.reader.stays (by simp) (by simp) fun held => absurd held hx)
  | _ => exact h.setReader (h.reader.stays (by simp) (by simp) fun held => absurd held hx)

/-- An entry that passes R23's tests leaves the reader in a block of block space. -/
theorem State.refsInBlocks.commitEntry {a : Addr} (how : Entry) (good : blockFault s.mem a = none) :
    (s.commitEntry a how).refsInBlocks := by
  have valid := validBlockAddr_of_header good
  obtain ⟨-, count⟩ := (blockFault_none_iff valid).1 good
  have left := s.leavePass_goesOnTo.passes h.passes
  have entered := State.commitEntry_eq h.passes valid how
  refine h.reads (fun p hp => ?_) (by rw [entered]; exact ⟨fun _ => ⟨valid, count⟩, nofun, nofun⟩)
    (by simp)
  rw [entered] at hp
  rcases List.mem_append.1 hp with hp | hp
  · exact left p hp
  · rw [List.mem_singleton.1 hp]; exact valid

theorem State.refsInBlocks.enterBlock (a : Addr) (how : Entry) (fuel : Nat) : (s.enterBlock a how fuel).refsInBlocks := by
  induction fuel generalizing s a how with
  | zero => exact h.stallEntry a how nofun
  | succ fuel ih =>
    simp only [State.enterBlock]
    split
    · exact h.stallEntry a how nofun
    split
    · exact h.entryFault a how _
    next good =>
      have entered := h.commitEntry how good
      split
      · split
        · exact ih entered _ _
        · exact entered.enterLinkWait
        · exact entered.takeEnd
        · exact entered.chainFault _ _ _ _
      · exact entered.readSlot rfl (by decide)

theorem State.refsInBlocks.linkTaken (fuel : Nat) : (s.linkTaken fuel).refsInBlocks := by
  unfold State.linkTaken
  split
  · exact h.takeEnd
  · exact h.enterLinkWait
  · exact h.enterBlock _ _ _
  · exact h.chainFault _ _ _ _

theorem State.refsInBlocks.readNext (inside : s.reader.pass.isSome = true) : s.readNext.refsInBlocks := by
  unfold State.readNext
  split
  next more =>
    have few := (h.reader.1 inside).2
    exact h.readSlot inside (by omega)
  next => rw [State.readLink_eq]; exact h.linkTaken _

theorem State.refsInBlocks.pollLink : s.pollLink.refsInBlocks := by
  unfold State.pollLink
  split
  · split
    · exact h
    · exact h.enterBlock _ _ _
    · exact h.takeEnd
    · exact h.chainFault _ _ _ _
  · exact h

/-! ### Admission -/

/-- A MAP cue changes the maps and a channel's trim. -/
theorem State.refsInBlocks.resolveMap (l : CueLoc) (n : ChanId) (a : Addr) (resetTrim : Bool) :
    (s.resolveMap l n a resetTrim).refsInBlocks := by
  simp only [State.resolveMap]
  split
  · exact h.writeResult _ _
  have staged : (s.stageMap a).refsInBlocks := h.same (by simp)
  split
  · refine State.refsInBlocks.writeResult ?_ _ _
    unfold State.latchMap
    split
    · exact State.refsInBlocks.touch (staged.same (by simp)) n (by simp)
    · exact staged.same (by simp)
  · exact staged.writeResult _ _

section
variable {c : Cue} (pending : s.reader.pending = .cue c)
include pending

/-- The pending cue stands in a block of block space. -/
theorem State.refsInBlocks.cueLoc : s.cueLoc.inBlock := by
  obtain ⟨inside, slot⟩ := h.reader.2.1 c pending
  exact ⟨(h.reader.1 inside).1, slot⟩

theorem State.refsInBlocks.takeRepeat (a : Addr) (count : Nat) : (s.takeRepeat a count).refsInBlocks := by
  have inside := (h.reader.2.1 c pending).1
  have push : State.refsInBlocks
      (if count ≤ 1 then s.readNext
      else if 4 ≤ s.reader.stack.length then s.chainFault .loopDepthFull s.reader.block s.reader.slot 8
      else s.enterBlock a (.jump ({ cue := s.cueLoc, target := a, remaining := count - 1 } :: s.reader.stack))
        entryFuel) := by
    split
    · exact h.readNext inside
    split
    · exact h.chainFault _ _ _ _
    · exact h.enterBlock _ _ _
  simp only [State.takeRepeat]
  split
  next f fs _ =>
    split
    · split
      · exact h.enterBlock _ _ _
      · exact State.refsInBlocks.readNext (h.setReader (h.reader.stays (by simp) (by simp) (by simp))) inside
    · exact push
  next => exact push

/-- Work that joins the queue with the pending cue, and the reader goes on. -/
theorem State.refsInBlocks.joinReadNext {w : Work} (placed : w.placed) (onset fire : Int) :
    (s.fqJoin w onset fire).readNext.refsInBlocks :=
  (h.fqJoin placed onset fire).readNext (by simpa using (h.reader.2.1 c pending).1)

theorem State.refsInBlocks.agendaJoin (b : AgendaBody) : (s.agendaJoin b).refsInBlocks := by
  refine State.refsInBlocks.addItem (h.setScu fun e he => ?_) _
  rcases List.mem_append.1 he with he | he
  · exact h.agenda e he
  · rw [List.mem_singleton.1 he]; exact h.cueLoc pending

theorem State.refsInBlocks.placeAsk (a : Ask) (onset : Int) : (s.placeAsk a onset).refsInBlocks := by
  have inside := (h.reader.2.1 c pending).1
  have own {w : Work} (hw : w.cue = some s.cueRef) : w.placed := fun x hx => by
    obtain rfl := Option.some_inj.1 (hw.symm.trans hx)
    exact h.cueLoc pending
  cases a with
  | strike n v r => exact h.joinReadNext pending (own rfl) _ _
  | hold n op => cases op <;> exact h.joinReadNext pending (own rfl) _ _
  | rotor cmd => exact h.joinReadNext pending (own rfl) _ _
  | mark r => exact h.joinReadNext pending (own rfl) _ _
  | agenda b =>
    have joined := h.agendaJoin pending b
    cases b with
    | tempo t n => exact joined.readNext (by simpa [State.agendaJoin] using inside)
    | holdpoint x y t d =>
      exact joined.setReader ⟨joined.reader.1, nofun, fun _ => by simpa [State.agendaJoin] using inside⟩
  | map n rec r =>
    exact (h.resolveMap s.cueLoc n rec r).readNext (by simpa using inside)
  | repeatJump t k => exact h.takeRepeat pending t k

theorem State.refsInBlocks.takeOn (onset : Int) : (s.takeOn c onset).refsInBlocks := by
  unfold State.takeOn
  split
  · unfold State.roomAndAdmit
    split
    · exact h.placeAsk pending _ _
    · exact h.setReader (h.reader.stays (by simp) (by simp) (by simp))
  · exact (h.writeResult _ _).readNext (by simpa using (h.reader.2.1 c pending).1)
end

theorem State.refsInBlocks.passHorizon : s.passHorizon.refsInBlocks := by
  unfold State.passHorizon
  split
  next c o hc =>
    unfold State.pendingCue at hc
    split at hc
    next c' pending =>
      obtain ⟨_, -, ho⟩ := Option.map_eq_some_iff.1 hc
      cases ho
      exact h.takeOn pending _
    all_goals cases hc
  next => exact h

theorem State.refsInBlocks.releaseStall : s.releaseStall.refsInBlocks := by
  unfold State.releaseStall
  split
  · exact h.enterBlock _ _ _
  · exact h.passHorizon
  · exact h

/-! ### Release of a holdpoint -/

theorem State.refsInBlocks.releaseHeld (src : ReleaseSource) : (s.releaseHeld src).refsInBlocks := by
  unfold State.releaseHeld
  split
  next e he =>
    obtain ⟨es, agenda, -⟩ := State.holdpoint_eq_some he
    have owned : e.cue.loc.inBlock := h.agenda e (by simp [agenda])
    split
    next delay _ =>
      simp only [State.releaseHoldpoint]
      have placed := h.setPerf { s.perf with state := .running }
      generalize s.setPerf { s.perf with state := .running } = u at placed ⊢
      have tail := placed.setScu (x := { u.scu with agenda := u.scu.agenda.tail, holdExpiry := none,
                                                    cond := u.placeReleased delay })
        fun e he => placed.agenda e (List.mem_of_mem_tail he)
      have resolved := tail.resolve e.cue (holdpointResult .releasedHold src (ptMicros u.scu.pt))
      split
      next held =>
        refine State.refsInBlocks.readNext (resolved.setReader ?_) (resolved.reader.2.2 held)
        exact resolved.reader.stays (by simp) (by simp) (by simp)
      next => exact resolved
    next => exact h
  next => exact h

theorem State.refsInBlocks.cueEdge : s.cueEdge.refsInBlocks := by
  unfold State.cueEdge
  split
  · exact h.releaseHeld _
  · exact h
end

end Sys2Proof.Machine

/-! PROOFS. References into block space: score time, supply, performance, resets, and every command. -/
namespace Sys2Proof.Machine
open Sys2Proof

/-- A part with nothing in its collections, no stroke, no engage, no rotor cue and no pass being read. -/
theorem refsInBlocks_of_empty {t : State} (passes : t.passes = []) (fq : t.fq = []) (agenda : t.scu.agenda = [])
    (stroke : ∀ n, (t.chan n).stroke = none) (engage : ∀ n, (t.chan n).engage = none) (owed : t.rot.owed = none)
    (reader : t.reader = Reader.atReset) : t.refsInBlocks where
  passes := by simp [passes]
  queue := by simp [fq]
  agenda := by simp [agenda]
  stroke n := by simp [stroke n]
  engage n := by simp [engage n]
  rotor := by simp [owed]
  reader := by rw [reader]; exact Reader.inBlock_outside rfl nofun nofun

theorem placeChannel_idle (k : ChannelConfig) (b : Bool) (c : Channel) :
    (placeChannel k b c).stroke = none ∧ (placeChannel k b c).engage = none := by
  unfold placeChannel
  cases k.cls <;> exact ⟨rfl, rfl⟩

/-- A change of P leaves the cue the rotor owes. -/
@[simp] theorem State.setPeriod_owed (s : State) (p : Nat) : (s.setPeriod p).rot.owed = s.rot.owed := by
  rw [State.setPeriod_eq]

theorem State.takePulse_owed (s : State) (t : Int) : (s.takePulse t).rot.owed = s.rot.owed := by
  have regulated : (s.regulate t).rot.owed = s.rot.owed := by
    simp only [State.regulate]
    split <;> simp
  simp only [State.takePulse]
  repeat' split
  all_goals simp [State.restartLoss, State.recordPulse, State.countIn, regulated]

section
variable {s t : State} (h : s.refsInBlocks)
include h

/-! ### Score time -/

/-- A change of the score that leaves the agenda. -/
theorem State.refsInBlocks.keepAgenda {x : Scu} (same : x.agenda = s.scu.agenda) : (s.setScu x).refsInBlocks :=
  h.setScu (by rw [same]; exact h.agenda)

theorem State.refsInBlocks.beginTick (x : Tick) (start : Int) : (s.beginTick x start).refsInBlocks := by
  rw [State.beginTick_eq]
  exact h.same ⟨rfl, rfl, rfl, rfl, rfl, rfl⟩

theorem State.refsInBlocks.tempoAtBoundary (x : Tick) {e : AgendaEntry} (target n : Nat) :
    (s.tempoAtBoundary x e target n).refsInBlocks := by
  unfold State.tempoAtBoundary
  split
  · exact h.resolve _ _
  · exact (h.keepAgenda (by simp)).resolve _ _
  · exact (h.keepAgenda (by simp)).resolve _ _

theorem State.refsInBlocks.holdAt (b : Int) (timeout : Nat) : (s.holdAt b timeout).refsInBlocks := by
  unfold State.holdAt
  exact State.refsInBlocks.setFlag ((h.keepAgenda (by simp)).setPerf _) _

/-- Dealing with the head of the agenda keeps the rest of it. -/
theorem State.refsInBlocks.agendaAt (x : Tick) (b : Int) {l : List AgendaEntry} (placed : ∀ e ∈ l, e.cue.loc.inBlock) :
    (s.agendaAt x b l).refsInBlocks := by
  induction l generalizing s with
  | nil => exact (h.setScu placed).beginTick x b
  | cons e es ih =>
    have rest : ∀ e ∈ es, e.cue.loc.inBlock := fun e he => placed e (List.mem_cons_of_mem _ he)
    simp only [State.agendaAt]
    split
    · split
      · exact ih (State.refsInBlocks.tempoAtBoundary (h.setScu rest) x _ _) rest
      · exact State.refsInBlocks.holdAt (h.setScu placed) b _
    · exact State.refsInBlocks.beginTick (h.setScu placed) x b

theorem State.refsInBlocks.boundaryAt (b : Int) : (s.boundaryAt b).refsInBlocks := by
  rw [State.boundaryAt_eq]
  exact State.refsInBlocks.starvedTest (State.refsInBlocks.agendaAt (h.keepAgenda (by simp)) _ b h.agenda)

theorem State.refsInBlocks.boundary : s.boundary.refsInBlocks := by
  unfold State.boundary
  split
  · exact h.boundaryAt _
  · exact h

theorem State.refsInBlocks.syncEdge (d : DevTime) : (s.syncEdge d).refsInBlocks := by
  unfold State.syncEdge
  split
  · exact h.same (by simp [State.takePulse_owed])
  · exact h

theorem State.refsInBlocks.agendaEnds (o : CueOutcome) : (s.agendaEnds o).refsInBlocks :=
  List.foldlRecOn (motive := State.refsInBlocks) _ _ (h.setScu (by simp)) fun _ hu _ _ => hu.resolve _ _

/-! ### Supply -/

theorem State.refsInBlocks.takeBrown : s.takeBrown.refsInBlocks := by
  have cut : (s.dropWaiting.forChans fun n u => u.truncatePulse n).refsInBlocks :=
    h.dropWaiting.forChans fun n _ hu => hu.truncatePulse n
  have held := cut.forChans (f := State.brownHold) fun n _ hu => hu.brownHold n
  exact held.rotorBrown

theorem State.refsInBlocks.changeLevel (new : SupplyLevel) : (s.changeLevel new).refsInBlocks := by
  have level : (s.setCsm { s.csm with level := new }).refsInBlocks := h.same (by simp)
  simp only [State.changeLevel]
  refine State.refsInBlocks.setFlag ?_ _
  cases new with
  | brown => exact level.takeBrown
  | normal => exact level.grantTest
  | sag =>
    simp only
    split
    · exact level.forChans fun n _ hu => hu.reengageAfterBrown n
    · exact level

theorem State.refsInBlocks.housekeeping (v : Nat) : (s.housekeeping v).refsInBlocks := by
  have sampled : (s.sampleSupply v).refsInBlocks := by
    have read : (s.setCsm { s.csm with vsense := v, reading := BitVec.ofNat 8 (vsenseReading v) }).refsInBlocks :=
      h.same (by simp)
    simp only [State.sampleSupply]
    split
    · split
      · exact read
      · exact read.changeLevel _
    · exact read
  unfold State.housekeeping
  exact sampled.pollLink.same (by simp)

/-! ### Commands of CONTROL -/

theorem State.refsInBlocks.enterEnded : s.enterEnded.refsInBlocks := h.same (by simp)

theorem State.refsInBlocks.enterFrozen (c : EndCause) : (s.enterFrozen c).refsInBlocks := h.same (by simp)

theorem State.refsInBlocks.drainCheck : s.drainCheck.refsInBlocks := by
  unfold State.drainCheck
  split
  · exact (h.releaseHolds _).enterEnded
  · exact h

theorem State.refsInBlocks.takeResume : s.takeResume.refsInBlocks := by
  have shifted : (s.shiftWaits (s.scu.dt - s.perf.pausedAt)).refsInBlocks := h.mapFq fun _ => rfl
  exact State.refsInBlocks.drainCheck (State.refsInBlocks.grantTest (shifted.same (by simp)))

/-- The reading ends in no pass (R44). -/
theorem State.refsInBlocks.endReading : s.endReading.refsInBlocks := by
  have stops : (s.setReader { s.reader with state := .stopped, pending := .none }).leavePass.refsInBlocks := by
    refine h.reads (State.goesOnTo.passes (.of_setReader _ (State.leavePass_goesOnTo _) rfl) h.passes) ?_ (by simp)
    rw [State.leavePass_reader]
    exact Reader.inBlock_outside rfl nofun nofun
  unfold State.endReading
  cases s.reader.state with
  | finished | faulted | stopped => exact h
  | reading | horizon | stalled | linkWait | held => exact stops

theorem State.refsInBlocks.stopPlaying : s.stopPlaying.refsInBlocks := by
  have cancelled := h.endReading.cancelQueue
  have ended : s.endReading.cancelQueue.stopAgenda.refsInBlocks := by
    simp only [State.stopAgenda]
    split
    · exact State.refsInBlocks.keepAgenda (cancelled.agendaEnds _) (by simp)
    · exact cancelled.agendaEnds _
  have stopped := (ended.releaseHolds .cancelled).rotorStop
  refine State.refsInBlocks.drainCheck ?_
  unfold State.stopState
  split
  · exact stopped.setPerf _
  · exact stopped.setPerf _

theorem State.refsInBlocks.takeStop : s.takeStop.refsInBlocks := by
  unfold State.takeStop
  split
  · exact State.refsInBlocks.enterEnded (h.setPerf _)
  · exact h.stopPlaying

theorem State.refsInBlocks.clearFaulted (n : Byte) : (s.clearFaulted n).refsInBlocks := by
  unfold State.clearFaulted
  split
  · exact State.refsInBlocks.grantTest (h.touch _ (by simp))
  · exact h

/-! ### LOADING -/

/-- Channels all given a state without a stroke or an engage. -/
theorem State.refsInBlocks.setChans_idle {f : ChanId → Channel}
    (idle : ∀ n, (f n).stroke = none ∧ (f n).engage = none) : (s.setChans (Vector.ofFn f)).refsInBlocks := by
  have chan (n : ChanId) : (s.setChans (Vector.ofFn f)).chan n = f n := by simp [State.chan]
  exact {
    passes := by simpa using h.passes
    queue := by simpa using h.queue
    agenda := by simpa using h.agenda
    stroke := fun n => by simp [chan, idle]
    engage := fun n => by simp [chan, idle]
    rotor := by simpa using h.rotor
    reader := by simpa using h.reader }

/-- A LOADING that succeeds leaves no channel with a stroke or an engage. -/
theorem State.refsInBlocks.placeChannels : s.placeChannels.refsInBlocks := by
  have placed := h.setChans_idle fun n => placeChannel_idle (s.ccfg n) s.perf.lock (s.chan n)
  simp only [State.placeChannels]
  generalize s.setChans (Vector.ofFn fun n => placeChannel (s.ccfg n) s.perf.lock (s.chan n)) = u at placed ⊢
  split
  · exact placed.setFlag _
  · exact placed

theorem State.refsInBlocks.startScore : s.startScore.refsInBlocks := by
  unfold State.startScore
  exact h.same (by simp)

theorem State.refsInBlocks.startReader (b : Addr) : (s.startReader b).refsInBlocks :=
  State.refsInBlocks.enterBlock (h.setReader (r := { s.reader with
    state := .reading, tick := 0, stack := [], pending := .none, pass := none })
    (Reader.inBlock_outside rfl nofun nofun)) b .start entryFuel

theorem State.refsInBlocks.loadingCompletes : s.loadingCompletes.refsInBlocks := by
  have staged : s.stageLast.refsInBlocks := h.same (by simp)
  unfold State.loadingCompletes
  split
  · exact staged.same (by simp)
  · have latched : s.stageLast.latchConfig.refsInBlocks := staged.same (by simp)
    simp only [State.loadingSucceeds]
    exact State.refsInBlocks.startReader (State.refsInBlocks.startScore (latched.placeChannels.setPerf _)) _

/-! ### The freeze -/

theorem State.refsInBlocks.quietBlocks : s.quietBlocks.refsInBlocks := by
  have emptied : ((s.endReading.agendaEnds .quieted).quietQueue).refsInBlocks :=
    State.refsInBlocks.quietQueue (h.endReading.agendaEnds _)
  refine State.refsInBlocks.rotorQuiet (emptied.forChans fun n u hu => ?_)
  unfold State.quietChannel
  split
  · exact hu.quietStrike n
  · exact hu.endHold _ n
  · exact hu

theorem State.refsInBlocks.freeze (c : EndCause) : (s.freeze c).refsInBlocks := by
  have playing := h.quietBlocks.enterFrozen c
  have resting : (s.freezeResting c).refsInBlocks :=
    State.refsInBlocks.enterFrozen (State.refsInBlocks.rotorQuiet (h.setPerf _)) c
  unfold State.freeze
  cases s.perf.state with
  | running | holding | paused | draining => exact playing
  | loading | idle | ended => exact resting
  | frozen => exact h

theorem State.refsInBlocks.takeDflt : s.takeDflt.refsInBlocks := by
  unfold State.takeDflt
  split
  · exact h
  · have seen : (s.setSiu { s.siu with dflt := true, dfltSeen := true }).refsInBlocks := h.same (by simp)
    exact State.refsInBlocks.same (seen.freeze .driveFault) (by simp)

/-! ### How commands and events are taken -/

theorem State.refsInBlocks.published (u : State) : (publish u s).refsInBlocks := h.same (by simp)

theorem onEvent_refsInBlocks {due : Bool} {f : State → State} (e : onEvent due f s = .next t) (hf : (f s).refsInBlocks) :
    t.refsInBlocks := by
  rcases onEvent_next e with rfl | ⟨-, -, rfl⟩
  · exact h
  · exact hf.published _

theorem onControl_refsInBlocks {code : Byte} {verdict : State → CmdOutcome} {f : State → State}
    (e : onControl code verdict f s = .next t) (hf : ∀ u : State, u.refsInBlocks → (f u).refsInBlocks) :
    t.refsInBlocks := by
  have port (p : Port) : State.refsInBlocks { s with port := p } := h.same (by simp)
  rcases onControl_next e with rfl | ⟨p, r, rfl⟩ | ⟨-, p, r, rfl⟩
  · exact h
  · exact State.refsInBlocks.published ((port p).same (by simp)) _
  · exact State.refsInBlocks.published ((hf _ (port p)).same (by simp)) _
end

/-! ### The resets -/

theorem State.refsInBlocks_powerOn (s : State) (i : InputLevels) : (s.powerOn i).refsInBlocks := by
  have chan (n : ChanId) : (s.powerOn i).chan n = Channel.atPowerOn := by simp [State.chan, State.powerOn, State.reset]
  exact refsInBlocks_of_empty rfl rfl rfl (fun n => by rw [chan]; rfl) (fun n => by rw [chan]; rfl) rfl rfl

theorem State.refsInBlocks_pinRelease (s : State) (i : InputLevels) : (s.pinRelease i).refsInBlocks := by
  have chan (n : ChanId) : (s.pinRelease i).chan n = { Channel.atPowerOn with heatDue := (s.chan n).heatDue } := by
    simp [State.chan, State.pinRelease]
  exact refsInBlocks_of_empty rfl rfl rfl (fun n => by rw [chan]; rfl) (fun n => by rw [chan]; rfl) rfl rfl

theorem State.refsInBlocks_perfReset (s : State) : s.perfReset.refsInBlocks := by
  have chan (n : ChanId) : s.perfCleared.chan n = s.chanAfterPerfReset n := by simp [State.chan, State.perfCleared]
  have cleared : s.perfCleared.refsInBlocks :=
    refsInBlocks_of_empty rfl rfl rfl (fun n => by rw [chan]; rfl) (fun n => by rw [chan]; rfl) rfl rfl
  simp only [State.perfReset]
  exact cleared.same (by simp)

/-! ### Every command -/

/-- Every command keeps the references in block space. -/
theorem exec_refsInBlocks {c : Instr} {s t : State} (hs : s.refsInBlocks) (h : exec c s = .next t) : t.refsInBlocks := by
  cases c
  all_goals simp only [exec] at h
  case start => exact onControl_refsInBlocks hs h fun _ hu => hu.setPerf _
  case pause => exact onControl_refsInBlocks hs h fun _ hu => hu.setPerf _
  case resume => exact onControl_refsInBlocks hs h fun _ hu => hu.takeResume
  case stop => exact onControl_refsInBlocks hs h fun _ hu => hu.takeStop
  case cont => exact onControl_refsInBlocks hs h fun _ hu => hu.releaseHeld _
  case clear => exact onControl_refsInBlocks hs h fun _ hu => hu.enterEnded
  case clearChannel n => exact onControl_refsInBlocks hs h fun _ hu => hu.clearFaulted n
  case lockConfig => exact onControl_refsInBlocks hs h fun _ hu => hu.setPerf _
  case perfReset => exact onControl_refsInBlocks hs h fun u _ => u.refsInBlocks_perfReset
  case unknownCommand =>
    unfold execUnknownCommand at h
    split at h
    · cases h
    · exact onControl_refsInBlocks hs h fun _ hu => hu
  case powerOnReset i => rw [powerOnReset_next h]; exact (s.refsInBlocks_powerOn i).same (by simp)
  case pinReset i => rw [pinReset_next h]; exact (s.refsInBlocks_pinRelease i).same (by simp)
  case attnFlagsWrite | attnEnableWrite => rcases onGroup_next h with rfl | ⟨p, rfl⟩ <;> exact hs.same (by simp)
  case statusWriteIgnored w =>
    unfold execStatusWriteIgnored at h
    split at h
    · cases w
      case status => rcases onGroup_next h with rfl | ⟨p, rfl⟩ <;> exact hs.same (by simp)
      all_goals rcases onPort_next h with rfl | rfl <;> exact hs.same (by simp)
    · cases h
  case memRead | memWrite | regRead => rcases onPort_next h with rfl | rfl <;> exact hs.same (by simp)
  case unknownInstruction =>
    unfold execUnknownInstruction at h
    split at h
    · rcases onPort_next h with rfl | rfl <;> exact hs.same (by simp)
    · cases h
  case nrstAssertion => cases h; exact hs.same (by simp)
  case housekeepingEvent v =>
    have moved : (s.setSched { s.sched with houseDue := s.sched.houseDue + 1000 }).refsInBlocks := hs.same (by simp)
    rcases scheduled_next h with rfl | rfl | rfl
    · exact hs
    · exact moved
    · exact (moved.housekeeping v).published s
  case heatEvent n =>
    have moved : (s.setChan n { s.chan n with heatDue := (s.chan n).heatDue + 10000 }).refsInBlocks :=
      hs.touch n (by simp)
    rcases scheduled_next h with rfl | rfl | rfl
    · exact hs
    · exact moved
    · exact (moved.heatEvent n).published s
  case reportEvent => rcases scheduled_next h with rfl | rfl | rfl <;> exact hs.same (by simp)
  case rotorRateEvent =>
    have moved : (s.setRot { s.rot with rateDue := s.rot.rateDue + 10000 }).refsInBlocks := hs.turn (by simp)
    rcases scheduled_next h with rfl | rfl | rfl
    · exact hs
    · exact moved
    · exact moved.rotorAccelerate.published s
  case quietQualifierChange | dfltDeassertion | lineTransition =>
    rcases onSample_next h with rfl | rfl <;> exact hs.same (by simp)
  case dfltAssertion =>
    rcases onSample_next h with rfl | rfl
    · exact hs
    · exact hs.takeDflt.published s
  case rotorStep => exact onEvent_refsInBlocks hs h hs.rotorStepTaken
  case syncoPulseEnd => exact onEvent_refsInBlocks hs h (hs.keepAgenda (by simp))
  case tickBoundary => exact onEvent_refsInBlocks hs h hs.boundary
  case holdpointTimeout => exact onEvent_refsInBlocks hs h (hs.releaseHeld _)
  case syncLoss => exact onEvent_refsInBlocks hs h (State.refsInBlocks.setFlag (hs.keepAgenda (by simp)) _)
  case syncPulse => exact onEvent_refsInBlocks hs h (State.refsInBlocks.syncEdge (hs.same (by simp)) _)
  case cueiEdge => exact onEvent_refsInBlocks hs h (State.refsInBlocks.cueEdge (hs.same (by simp)))
  case homeEdge => exact onEvent_refsInBlocks hs h (State.refsInBlocks.rotorHome (hs.same (by simp)))
  case contactAccepted n => exact onEvent_refsInBlocks hs h (State.refsInBlocks.contact (hs.same (by simp)) n _)
  case synthesisedContact n => exact onEvent_refsInBlocks hs h (hs.synthesise n)
  case quietRequest =>
    have taken : (s.setSiu { s.siu with quiet := .taken }).refsInBlocks := hs.same (by simp)
    exact onEvent_refsInBlocks hs h (taken.freeze .quiet)
  case loadingComplete => exact onEvent_refsInBlocks hs h hs.loadingCompletes
  case horizonPassed => exact onEvent_refsInBlocks hs h hs.passHorizon
  case stallReleased => exact onEvent_refsInBlocks hs h hs.releaseStall
  case standingReengagePlaced n => exact onEvent_refsInBlocks hs h (hs.placeStanding n)
  case fireTimeArrival => exact onEvent_refsInBlocks hs h hs.arriveAll
  case skewExpiry => exact onEvent_refsInBlocks hs h hs.skewExpiry
  case pulseEnd n => exact onEvent_refsInBlocks hs h ((hs.pulseOff n _).afterPulse n)
  case engageEnd n => exact onEvent_refsInBlocks hs h (hs.engageEnds n)
  case windowSettle n => exact onEvent_refsInBlocks hs h (hs.settle n)
  case recoveryEnd n => exact onEvent_refsInBlocks hs h (hs.recoveryDone n)
  case drainComplete => exact onEvent_refsInBlocks hs h (State.refsInBlocks.enterEnded (hs.releaseHolds _))
  case drainPark => exact onEvent_refsInBlocks hs h hs.rotorPark
  case filterQualificationAbandoned | returnEdgeAccepted => exact onEvent_refsInBlocks hs h (hs.same (by simp))

/-- Settles O56: every command keeps every block and cue that the part refers to in block space. -/
theorem everyReferenceStaysInBlockSpace : Obligations.EveryReferenceStaysInBlockSpace := by
  unfold Obligations.EveryReferenceStaysInBlockSpace
  exact fun _ _ _ => exec_refsInBlocks

end Sys2Proof.Machine

/-! PROOFS. STOP, operation by operation: the bytes written, the channels after cancelled RESTRIKEs and released holds, and the
rotor. -/
namespace Sys2Proof.Machine
open Sys2Proof

/-! ### Results and completion counts alone -/

/-- From `s` to `t` nothing of cue memory is written but bytes of `w` and completion counts of passes open in `s`. -/
structure State.writesOnly (s t : State) (w : Nat → Prop) : Prop where
  passes : ∀ p ∈ t.passes, ∃ q ∈ s.passes, q.block = p.block
  mem    : ∀ a, ¬w a → ¬passCount s a → Memory.read t.mem a = Memory.read s.mem a
  wf     : Memory.wf s.mem = true → Memory.wf t.mem = true

theorem State.writesOnly.of_eq {s t : State} {w : Nat → Prop} (mem : t.mem = s.mem) (passes : t.passes = s.passes) :
    s.writesOnly t w where
  passes p hp := ⟨p, passes ▸ hp, rfl⟩
  mem _ _ _ := by rw [mem]
  wf h := by rwa [mem]

theorem State.writesOnly.refl (s : State) (w : Nat → Prop) : s.writesOnly s w := .of_eq rfl rfl

theorem State.writesOnly.trans {s t u : State} {w : Nat → Prop} (h : s.writesOnly t w) (k : t.writesOnly u w) :
    s.writesOnly u w where
  passes p hp := by
    obtain ⟨q, hq, same⟩ := k.passes p hp
    obtain ⟨r, hr, same'⟩ := h.passes q hq
    exact ⟨r, hr, same'.trans same⟩
  mem a out count := by
    refine (k.mem a out fun ⟨p, hp, at_⟩ => count ?_).trans (h.mem a out count)
    obtain ⟨q, hq, same⟩ := h.passes p hp
    exact ⟨q, hq, by rw [same, at_]⟩
  wf := k.wf ∘ h.wf

theorem State.writesOnly.mono {s t : State} {w v : Nat → Prop} (h : s.writesOnly t w) (sub : ∀ a, w a → v a) :
    s.writesOnly t v :=
  ⟨h.passes, fun a out => h.mem a fun hw => out (sub a hw), h.wf⟩

/-- A change that touches neither cue memory nor the passes may come before. -/
theorem State.writesOnly.after {s t u : State} {w : Nat → Prop} (h : u.writesOnly t w) (mem : u.mem = s.mem)
    (passes : u.passes = s.passes) : s.writesOnly t w := .trans (.of_eq mem passes) h

/-- What writes only these bytes at every entry of a list does so for the list. -/
theorem State.writesOnly.foldl {α : Type} {f : State → α → State} {w : Nat → Prop} (l : List α) (s : State)
    (each : ∀ u : State, ∀ e ∈ l, u.writesOnly (f u e) w) : s.writesOnly (l.foldl f s) w := by
  induction l generalizing s with
  | nil => exact .refl s w
  | cons e l ih =>
    exact (each s e List.mem_cons_self).trans (ih (f s e) fun u x hx => each u x (List.mem_cons_of_mem e hx))

section
variable (s : State) (w : Nat → Prop)

theorem State.writesOnly_mapPass (p : Nat) {f : Pass → Pass} (keeps : ∀ q, (f q).block = q.block) :
    s.writesOnly (s.mapPass p f) w where
  passes q hq := by
    obtain ⟨e, he, rfl⟩ := List.mem_map.1 hq
    exact ⟨e, he, by split <;> simp [keeps]⟩
  mem _ _ _ := rfl
  wf := id

theorem State.writesOnly_closePass (p : Nat) : s.writesOnly (s.closePass p) w := by
  unfold State.closePass
  split
  next e he =>
    split
    · exact {
        passes := fun q hq => ⟨q, List.mem_of_mem_filter hq, rfl⟩
        mem := fun a _ count =>
          s.read_countCompletion e.block fun at_ => count ⟨e, List.mem_of_find?_eq_some he, at_⟩
        wf := fun h => State.wf_poke s _ _ h }
    · exact .refl s w
  next => exact .refl s w

theorem State.writesOnly_endItem (p : Nat) : s.writesOnly (s.endItem p) w :=
  (s.writesOnly_mapPass w p (f := fun e => { e with outstanding := e.outstanding - 1 }) fun _ => rfl).trans
    (State.writesOnly_closePass _ w p)

theorem State.writesOnly_markDone (p : Nat) : s.writesOnly (s.markDone p) w :=
  (s.writesOnly_mapPass w p (f := fun e => { e with readingDone := true }) fun _ => rfl).trans
    (State.writesOnly_closePass _ w p)

theorem State.writesOnly_leavePass : s.writesOnly s.leavePass w := by
  unfold State.leavePass
  split
  · exact State.writesOnly.after (State.writesOnly_markDone _ w _) rfl rfl
  · exact .refl s w

theorem State.writesOnly_endReading : s.writesOnly s.endReading w := by
  have stops : s.writesOnly (s.setReader { s.reader with state := .stopped, pending := .none }).leavePass w :=
    State.writesOnly.after (State.writesOnly_leavePass _ w) rfl rfl
  unfold State.endReading
  cases s.reader.state with
  | finished | faulted | stopped => exact .refl s w
  | reading | horizon | stalled | linkWait | held => exact stops
end

section
variable (s : State) {w : Nat → Prop}

theorem State.writesOnly_writeResult {l : CueLoc} {r : List Byte} (short : r.length ≤ 8)
    (area : ∀ a, resultArea l a → w a) : s.writesOnly (s.writeResult l r) w where
  passes p hp := ⟨p, by simpa using hp, rfl⟩
  mem a out _ := State.read_writeResult short fun h => out (area a h)
  wf h := State.wf_poke s _ r h

theorem State.writesOnly_resolve {c : CueRef} {r : List Byte} (short : r.length ≤ 8)
    (area : ∀ a, resultArea c.loc a → w a) : s.writesOnly (s.resolve c r) w :=
  (s.writesOnly_writeResult short area).trans (State.writesOnly_endItem _ w _)

theorem State.writesOnly_resolve? {c : Option CueRef} {r : List Byte} (short : r.length ≤ 8)
    (area : ∀ x, c = some x → ∀ a, resultArea x.loc a → w a) : s.writesOnly (s.resolve? c r) w := by
  cases c with
  | none => exact .refl s w
  | some c => exact s.writesOnly_resolve short (area c rfl)

/-- A result is 8 bytes (Table 10-6). -/
theorem State.entryResult_length (x : Work) (o : CueOutcome) (c : DropCause) (b : Bool) :
    (s.entryResult x o c b).length = 8 := by
  cases x <;>
    simp [State.entryResult, State.strikeResult, StrikeResult.bytes, holdResult, rotorResult, markResult, leSigned16]

theorem State.writesOnly_fqResolve {e : FqEntry} (o : CueOutcome) (c : DropCause) (b : Bool)
    (area : ∀ x, e.work.cue = some x → ∀ a, resultArea x.loc a → w a) : s.writesOnly (s.fqResolve e o c b) w :=
  State.writesOnly.after (State.writesOnly_resolve? (s.fqRemove e) (s.entryResult_length _ o c b).le area) rfl rfl

theorem State.writesOnly_cancelEntry {e : FqEntry} (area : ∀ x, e.work.cue = some x → ∀ a, resultArea x.loc a → w a) :
    s.writesOnly (s.cancelEntry e) w := by
  unfold State.cancelEntry
  split
  · exact (s.writesOnly_fqResolve .miss .none false area).trans (.of_eq (by simp) (by simp))
  all_goals exact s.writesOnly_fqResolve _ _ _ area

theorem State.writesOnly_cancelQueue : s.writesOnly s.cancelQueue (queuedResult s) :=
  State.writesOnly.foldl s.fq s fun u e he => u.writesOnly_cancelEntry (w := queuedResult s) fun c hc _ ha =>
    ⟨e, he, c, hc, ha⟩

theorem AgendaBody.endResult_length (b : AgendaBody) (o : CueOutcome) : (b.endResult o).length = 8 := by
  cases b <;> simp [AgendaBody.endResult, tempoResult, holdpointResult]

theorem State.writesOnly_agendaEnds (o : CueOutcome) : s.writesOnly (s.agendaEnds o) (agendaResult s) :=
  State.writesOnly.after (State.writesOnly.foldl s.scu.agenda _ fun u e he =>
    u.writesOnly_resolve (w := agendaResult s) (AgendaBody.endResult_length _ _).le fun _ ha => ⟨e, he, ha⟩) rfl rfl

theorem State.writesOnly_stopAgenda : s.writesOnly s.stopAgenda (agendaResult s) := by
  simp only [State.stopAgenda]
  split
  · exact (s.writesOnly_agendaEnds _).trans (.of_eq rfl rfl)
  · exact s.writesOnly_agendaEnds _
end

/-! ### Flags -/

/-- A miss clears no flag. -/
theorem State.flag_countMiss_of {s : State} {f : AttnFlag} (n : ChanId) (h : s.flag f = true) :
    (s.countMiss n).flag f = true := by
  simp only [State.countMiss]
  split
  · exact State.flag_setFlag_of _ (State.flag_of_regs (s := s) (by simp [State.setChanState]) h)
  · exact State.flag_of_regs (by simp) h

/-! ### Cancelled RESTRIKEs and the misses they count (R94, R104) -/

/-- The consecutive misses of a channel after `r` more (R94). -/
def Channel.missesAfter (c : Channel) (r : Nat) : Nat := if r = 0 then c.misses else min 15 (c.misses + r)

/-- `r` misses fault a channel at this limit (R94). -/
abbrev Channel.missFaults (limit r : Nat) (c : Channel) : Prop :=
  0 < r ∧ limit ≠ 0 ∧ limit ≤ c.missesAfter r ∧ (c.state = .idle ∨ c.state = .cooldown)

/-- A channel after `r` misses (R94). -/
def Channel.missed (limit r : Nat) (c : Channel) : Channel :=
  if c.missFaults limit r then { c with state := .faulted, misses := c.missesAfter r }
  else { c with misses := c.missesAfter r }

theorem Channel.missed_zero (limit : Nat) (c : Channel) : c.missed limit 0 = c := by
  simp [Channel.missed, Channel.missFaults, Channel.missesAfter]

theorem Channel.missFaults_one (limit : Nat) (c : Channel) :
    c.missFaults limit 1 ↔ limit ≠ 0 ∧ limit ≤ min 15 (c.misses + 1) ∧ (c.state = .idle ∨ c.state = .cooldown) := by
  simp [Channel.missFaults, Channel.missesAfter]

/-- Misses add up in the count. -/
theorem Channel.missesAfter_succ {c d : Channel} (r : Nat) (h : d.misses = c.missesAfter 1) :
    d.missesAfter r = c.missesAfter (r + 1) := by
  simp only [Channel.missesAfter, Nat.one_ne_zero, if_false] at h
  simp only [Channel.missesAfter, Nat.succ_ne_zero, if_false]
  split <;> omega

/-- Whether `r + 1` misses fault a channel is decided at the first, or at the rest. -/
theorem Channel.missFaults_succ {limit r : Nat} {c : Channel} :
    c.missFaults limit (r + 1) ↔ c.missFaults limit 1 ∨ (c.missed limit 1).missFaults limit r := by
  by_cases first : c.missFaults limit 1
  · obtain ⟨_, set, reached, waits⟩ := first
    have more : c.missesAfter 1 ≤ c.missesAfter (r + 1) := by
      simp only [Channel.missesAfter, Nat.succ_ne_zero, if_false]
      omega
    exact ⟨fun _ => .inl ⟨Nat.one_pos, set, reached, waits⟩, fun _ => ⟨r.succ_pos, set, reached.trans more, waits⟩⟩
  · have one : c.missed limit 1 = { c with misses := c.missesAfter 1 } := if_neg first
    have count : (c.missed limit 1).missesAfter r = c.missesAfter (r + 1) := Channel.missesAfter_succ r (by rw [one])
    rw [or_iff_right first]
    simp only [Channel.missFaults, count]
    rw [one]
    refine ⟨fun ⟨_, set, reached, waits⟩ => ⟨?_, set, reached, waits⟩, fun ⟨_, rest⟩ => ⟨r.succ_pos, rest⟩⟩
    refine Nat.pos_of_ne_zero fun none => first ?_
    rw [none] at reached
    exact ⟨Nat.one_pos, set, reached, waits⟩

/-- Misses add up. -/
theorem Channel.missed_missed (limit r : Nat) (c : Channel) :
    (c.missed limit 1).missed limit r = c.missed limit (r + 1) := by
  by_cases first : c.missFaults limit 1
  · have one : c.missed limit 1 = { c with state := .faulted, misses := c.missesAfter 1 } := if_pos first
    have count : (c.missed limit 1).missesAfter r = c.missesAfter (r + 1) := Channel.missesAfter_succ r (by rw [one])
    have rest : ¬(c.missed limit 1).missFaults limit r := by simp [one, Channel.missFaults]
    have all : c.missFaults limit (r + 1) := Channel.missFaults_succ.2 (.inl first)
    rw [Channel.missed, if_neg rest, Channel.missed.eq_def limit (r + 1), if_pos all, count, one]
  · have one : c.missed limit 1 = { c with misses := c.missesAfter 1 } := if_neg first
    have count : (c.missed limit 1).missesAfter r = c.missesAfter (r + 1) := Channel.missesAfter_succ r (by rw [one])
    have same : (c.missed limit 1).missFaults limit r ↔ c.missFaults limit (r + 1) := by
      rw [Channel.missFaults_succ, or_iff_right first]
    rw [Channel.missed, if_congr same rfl rfl, count, one]
    rfl

/-- A RESTRIKE on channel `n` (R104). -/
def FqEntry.restrikes (n : ChanId) (e : FqEntry) : Bool :=
  match e.work with
  | .restrike w => decide (w.chan = n)
  | _ => false

theorem State.chan_setChan (s : State) (n k : ChanId) (c : Channel) :
    (s.setChan n c).chan k = if k = n then c else s.chan k := by
  simp only [State.chan, State.setChan, State.setChans_chans, Fin.getElem_fin, Vector.getElem_set, Fin.val_inj]
  exact if_congr eq_comm rfl rfl

theorem State.chan_setFlag (s : State) (f : AttnFlag) (k : ChanId) : (s.setFlag f).chan k = s.chan k := rfl

theorem State.chan_countMiss (s : State) (n k : ChanId) :
    (s.countMiss n).chan k = if k = n then (s.chan n).missed s.global.missLimit 1 else s.chan k := by
  simp only [State.countMiss, Channel.missed, Channel.missFaults_one]
  split
  · simp only [State.chan_setFlag, State.setChanState, State.chan_setChan]
    split <;> rfl
  · simp only [State.chan_setChan]
    rfl

/-- Misses that fault a channel set CHANNEL (R94). -/
theorem State.flag_countMiss {s : State} {n : ChanId} (faults : (s.chan n).missFaults s.global.missLimit 1) :
    (s.countMiss n).flag .channel = true := by
  simp only [State.countMiss, if_pos ((Channel.missFaults_one _ _).1 faults)]
  exact State.flag_setFlag _ _

/-- The misses that cancelling an entry counts on a channel (R104). -/
def FqEntry.missesOn (n : ChanId) (e : FqEntry) : Nat := if e.restrikes n then 1 else 0

theorem State.cancelEntry_of_restrike {s : State} {e : FqEntry} {w : RestrikeWork} (h : e.work = .restrike w) :
    s.cancelEntry e = (s.fqResolve e .miss .none false).countMiss w.chan := by
  simp only [State.cancelEntry, h]

theorem State.cancelEntry_of_other {s : State} {e : FqEntry} (h : ∀ w, e.work ≠ .restrike w) :
    s.cancelEntry e = s.fqResolve e .cancelled .none false := by
  unfold State.cancelEntry
  split
  next w hw => exact absurd hw (h w)
  all_goals rfl

theorem State.chan_fqResolve (s : State) (e : FqEntry) (o : CueOutcome) (c : DropCause) (b : Bool) (n : ChanId) :
    (s.fqResolve e o c b).chan n = s.chan n := by simp [State.chan]

theorem State.global_of_perf {s t : State} (h : t.perf = s.perf) : t.global = s.global := by simp only [State.global, h]

theorem FqEntry.missesOn_of_other {e : FqEntry} (h : ∀ w, e.work ≠ .restrike w) (n : ChanId) : e.missesOn n = 0 := by
  unfold FqEntry.missesOn FqEntry.restrikes
  split
  next w hw => exact absurd hw (h w)
  next => rfl

theorem FqEntry.missesOn_of_restrike {e : FqEntry} {w : RestrikeWork} (h : e.work = .restrike w) (n : ChanId) :
    e.missesOn n = if n = w.chan then 1 else 0 := by
  simp [FqEntry.missesOn, FqEntry.restrikes, h, eq_comm]

/-- A cancelled entry that is a RESTRIKE counts a miss, and faults its channel at the limit (R79, R94, R104). -/
theorem State.cancelEntry_misses (s : State) (e : FqEntry) (n : ChanId) :
    (s.cancelEntry e).chan n = (s.chan n).missed s.global.missLimit (e.missesOn n) ∧
      ((s.chan n).missFaults s.global.missLimit (e.missesOn n) → (s.cancelEntry e).flag .channel = true) := by
  by_cases restrike : ∃ w, e.work = .restrike w
  · obtain ⟨w, hw⟩ := restrike
    have limit : (s.fqResolve e .miss .none false).global = s.global := State.global_of_perf (by simp)
    rw [State.cancelEntry_of_restrike hw, State.chan_countMiss, State.chan_fqResolve, State.chan_fqResolve, limit,
      FqEntry.missesOn_of_restrike hw]
    by_cases own : n = w.chan
    · subst own
      refine ⟨by simp, fun faults => State.flag_countMiss ?_⟩
      rw [State.chan_fqResolve, limit]
      simpa using faults
    · exact ⟨by simp [own, Channel.missed_zero], fun faults => absurd faults.1 (by simp [own])⟩
  · have other : ∀ w, e.work ≠ .restrike w := fun w hw => restrike ⟨w, hw⟩
    rw [State.cancelEntry_of_other other, State.chan_fqResolve, FqEntry.missesOn_of_other other]
    exact ⟨(Channel.missed_zero _ _).symm, fun faults => absurd faults.1 (Nat.lt_irrefl 0)⟩

theorem State.flag_cancelEntry_of {s : State} {f : AttnFlag} (e : FqEntry) (h : s.flag f = true) :
    (s.cancelEntry e).flag f = true := by
  have resolved (o : CueOutcome) : (s.fqResolve e o .none false).flag f = true := State.flag_of_regs (by simp) h
  unfold State.cancelEntry
  split
  · exact State.flag_countMiss_of _ (resolved _)
  all_goals exact resolved _

/-- The RESTRIKE entries of a channel among these (R104). -/
def restrikeCount (n : ChanId) (l : List FqEntry) : Nat := (l.filter (FqEntry.restrikes n)).length

theorem restrikeCount_cons (n : ChanId) (e : FqEntry) (l : List FqEntry) :
    restrikeCount n (e :: l) = restrikeCount n l + e.missesOn n := by
  simp only [restrikeCount, List.filter_cons, FqEntry.missesOn]
  split <;> simp

/-- Cancelled one after another, the entries count their misses on each channel. -/
theorem State.foldl_cancelEntry_misses (l : List FqEntry) (s : State) (n : ChanId) :
    (l.foldl State.cancelEntry s).chan n = (s.chan n).missed s.global.missLimit (restrikeCount n l) ∧
      ((s.chan n).missFaults s.global.missLimit (restrikeCount n l) ∨ s.flag .channel = true →
        (l.foldl State.cancelEntry s).flag .channel = true) := by
  induction l generalizing s with
  | nil =>
    refine ⟨(Channel.missed_zero _ _).symm, fun h => h.resolve_left fun faults => ?_⟩
    exact absurd faults.1 (Nat.lt_irrefl 0)
  | cons e l ih =>
    obtain ⟨chan, flag⟩ := s.cancelEntry_misses e n
    have limit : (s.cancelEntry e).global = s.global := State.global_of_perf (by simp)
    obtain ⟨rest, restFlag⟩ := ih (s.cancelEntry e)
    rw [chan, limit] at rest restFlag
    rw [restrikeCount_cons]
    rcases Nat.eq_zero_or_pos (e.missesOn n) with none | some
    · rw [none] at rest restFlag flag ⊢
      rw [Channel.missed_zero] at rest restFlag
      exact ⟨rest, fun h => restFlag (h.imp_right (State.flag_cancelEntry_of e))⟩
    · have one : e.missesOn n = 1 := by
        unfold FqEntry.missesOn at some ⊢
        split <;> simp_all
      rw [one] at rest restFlag flag ⊢
      rw [Channel.missed_missed] at rest
      refine ⟨rest, fun h => restFlag ?_⟩
      rcases h with faults | set
      · exact (Channel.missFaults_succ.1 faults).elim (fun first => .inr (flag first)) .inl
      · exact .inr (State.flag_cancelEntry_of e set)

/-- Cancelling an entry takes it from the queue. -/
theorem State.cancelEntry_fq (s : State) (e : FqEntry) : (s.cancelEntry e).fq = s.fq.filter (fun x => x.seq != e.seq) := by
  have resolved (o : CueOutcome) : (s.fqResolve e o .none false).fq = s.fq.filter (fun x => x.seq != e.seq) := by
    simp [State.fqResolve, State.fqRemove]
  unfold State.cancelEntry
  split
  · rw [(State.countMiss_keeps _ _).2.2.2.2.2.1]; exact resolved _
  all_goals exact resolved _

theorem State.mem_foldl_cancelEntry (l : List FqEntry) (s : State) {x : FqEntry}
    (h : x ∈ (l.foldl State.cancelEntry s).fq) : x ∈ s.fq ∧ x ∉ l := by
  induction l generalizing s with
  | nil => exact ⟨h, by simp⟩
  | cons e l ih =>
    obtain ⟨kept, others⟩ := ih (s.cancelEntry e) h
    rw [State.cancelEntry_fq, List.mem_filter, bne_iff_ne] at kept
    obtain ⟨mem, seq⟩ := kept
    exact ⟨mem, by rw [List.mem_cons, not_or]; exact ⟨fun same => seq (by rw [same]), others⟩⟩

/-- STOP empties the fire queue (R79). -/
theorem State.cancelQueue_fq (s : State) : s.cancelQueue.fq = [] := by
  refine List.eq_nil_iff_forall_not_mem.2 fun x hx => ?_
  obtain ⟨mem, not⟩ := State.mem_foldl_cancelEntry s.fq s hx
  exact not mem

end Sys2Proof.Machine

/-! PROOFS. STOP, operation by operation: the hold channels, the rotor and the end of the drain. -/
namespace Sys2Proof.Machine
open Sys2Proof

/-! ### Hold channels released with an empty queue (R116) -/

theorem State.ccfg_of_perf {s t : State} (h : t.perf = s.perf) (n : ChanId) : t.ccfg n = s.ccfg n := by
  simp only [State.ccfg, h]

/-- With an empty queue a grant test grants nothing. -/
theorem State.grantTest_of_empty {s : State} (empty : s.fq = []) : s.grantTest = s := by
  simp [State.grantTest, empty]

theorem State.freeSlot_of_empty {s : State} (empty : s.fq = []) : s.freeSlot = s.setSlots (s.slots - 1) :=
  State.grantTest_of_empty empty

/-- No hold is wanted of the channel, and it is neither driven nor held. -/
abbrev Channel.letGo (c : Channel) : Prop :=
  c.holdWanted = false ∧ c.standing = false ∧ c.state ≠ .engage ∧ c.state ≠ .held

/-- Only channel `n` may differ, the fire queue and the slots apart, and an engage on it may have ended. -/
structure State.changesChan (s t : State) (n : ChanId) : Prop where
  fq     : t.fq = s.fq
  others : ∀ k, k ≠ n → t.chan k = s.chan k
  wanted : (t.chan n).holdWanted = (s.chan n).holdWanted ∧ (t.chan n).standing = (s.chan n).standing
  engage : (t.chan n).engage = (s.chan n).engage ∨ (t.chan n).engage = none

theorem State.changesChan_setChan (s : State) (n : ChanId) {c : Channel}
    (wanted : c.holdWanted = (s.chan n).holdWanted ∧ c.standing = (s.chan n).standing)
    (engage : c.engage = (s.chan n).engage ∨ c.engage = none) : s.changesChan (s.setChan n c) n where
  fq := by simp
  others k hk := by rw [State.chan_setChan, if_neg hk]
  wanted := by rw [State.chan_setChan, if_pos rfl]; exact wanted
  engage := by rw [State.chan_setChan, if_pos rfl]; exact engage

theorem State.changesChan_of_eq {s t : State} (n : ChanId) (fq : t.fq = s.fq) (chans : t.chans = s.chans) :
    s.changesChan t n where
  fq := fq
  others k _ := by simp only [State.chan, chans]
  wanted := by simp only [State.chan, chans, and_self]
  engage := .inl (by simp only [State.chan, chans])

theorem State.changesChan.trans {s t u : State} {n : ChanId} (h : s.changesChan t n) (k : t.changesChan u n) :
    s.changesChan u n where
  fq := k.fq.trans h.fq
  others m hm := (k.others m hm).trans (h.others m hm)
  wanted := ⟨k.wanted.1.trans h.wanted.1, k.wanted.2.trans h.wanted.2⟩
  engage := k.engage.elim (fun e => h.engage.imp e.trans e.trans) .inr

section
variable {s : State} (n : ChanId)

theorem State.addHeat_changesChan (d : Nat) : s.changesChan (s.addHeat n d) n := by
  unfold State.addHeat
  split
  · exact State.changesChan_of_eq n rfl rfl
  · exact s.changesChan_setChan n ⟨rfl, rfl⟩ (.inl rfl)

variable (empty : s.fq = [])
include empty

theorem State.engageOver_changesChan (d : DevTime) (o : CueOutcome) (c : DropCause) :
    s.changesChan (s.engageOver n d o c) n := by
  have freed : s.changesChan s.freeSlot n := by
    rw [State.freeSlot_of_empty empty]
    exact State.changesChan_of_eq n rfl rfl
  unfold State.engageOver
  split
  next g _ =>
    have heated := freed.trans (State.addHeat_changesChan n (g.driven d))
    have left := heated.trans (State.changesChan_setChan _ n (c := { (s.freeSlot.addHeat n (g.driven d)).chan n with
      engage := none }) ⟨rfl, rfl⟩ (.inr rfl))
    exact left.trans (State.changesChan_of_eq n (by simp) (by simp))
  next => exact freed

theorem State.cutEngage_changesChan (o : CueOutcome) (c : DropCause) : s.changesChan (s.cutEngage n o c) n :=
  (State.engageOver_changesChan n empty _ o c).trans (State.changesChan_setChan _ n ⟨rfl, rfl⟩ (.inl rfl))

/-- Forced off, a channel is neither driven nor held (R116). -/
theorem State.forceRelease_changesChan (o : CueOutcome) (c : DropCause) :
    s.changesChan (s.forceRelease n o c) n ∧
      ((s.forceRelease n o c).chan n).state ≠ .engage ∧ ((s.forceRelease n o c).chan n).state ≠ .held := by
  have released (u : State) : ((u.setChanState n .released).chan n).state = .released := by
    simp [State.setChanState, State.chan_setChan]
  unfold State.forceRelease
  split
  · have cut : ((s.cutEngage n o c).chan n).state = .released := released _
    exact ⟨State.cutEngage_changesChan n empty o c, by simp [cut], by simp [cut]⟩
  · exact ⟨s.changesChan_setChan n ⟨rfl, rfl⟩ (.inl rfl), by simp [released], by simp [released]⟩
  all_goals exact ⟨State.changesChan_of_eq n rfl rfl, by simp_all, by simp_all⟩

/-- What releasing one hold channel changes of the channels. -/
theorem State.endHold_chans (o : CueOutcome) :
    (State.endHold o n s).fq = [] ∧ (∀ k, k ≠ n ∨ (s.ccfg k).cls ≠ .hold → (State.endHold o n s).chan k = s.chan k) ∧
      ((s.ccfg n).cls = .hold → ((State.endHold o n s).chan n).letGo) ∧
      ∀ k, ((State.endHold o n s).chan k).engage = (s.chan k).engage ∨ ((State.endHold o n s).chan k).engage = none := by
  unfold State.endHold
  split
  next hold =>
    have unwanted : (s.unwant n).chan n = { s.chan n with holdWanted := false, standing := false } := by
      simp [State.unwant, State.chan_setChan]
    have others (k : ChanId) (hk : k ≠ n) : (s.unwant n).chan k = s.chan k := by
      simp [State.unwant, State.chan_setChan, hk]
    obtain ⟨change, driven, held⟩ := State.forceRelease_changesChan (s := s.unwant n) n (by simpa [State.unwant]) o .none
    obtain ⟨want, stand⟩ := change.wanted
    refine ⟨by rw [change.fq]; simpa [State.unwant], fun k hk => ?_, fun _ => ⟨?_, ?_, driven, held⟩, fun k => ?_⟩
    · have other : k ≠ n := by
        rintro rfl
        exact hk.elim (fun differs => differs rfl) fun not => not hold
      rw [change.others k other, others k other]
    · rw [want, unwanted]
    · rw [stand, unwanted]
    · by_cases own : k = n
      · subst own
        simpa [unwanted] using change.engage
      · exact .inl (by rw [change.others k own, others k own])
  next not => exact ⟨empty, fun _ _ => rfl, fun hold => absurd hold not, fun _ => .inl rfl⟩
end

section
variable {s : State} {w : Nat → Prop} (empty : s.fq = [])
include empty

theorem State.engageOver_writesOnly (n : ChanId) (d : DevTime) (o : CueOutcome) (c : DropCause)
    (area : ∀ g x, (s.chan n).engage = some g → g.cue = some x → ∀ a, resultArea x.loc a → w a) :
    s.writesOnly (s.engageOver n d o c) w := by
  have freed : s.writesOnly s.freeSlot w := by
    rw [State.freeSlot_of_empty empty]
    exact .of_eq rfl rfl
  unfold State.engageOver
  split
  next g hg =>
    have heated : s.writesOnly (s.freeSlot.addHeat n (g.driven d)) w := by
      refine freed.trans ?_
      unfold State.addHeat
      split
      · exact .refl _ w
      · exact .of_eq (by simp) (by simp)
    have left := heated.trans (.of_eq (t := (s.freeSlot.addHeat n (g.driven d)).setChan n
      { (s.freeSlot.addHeat n (g.driven d)).chan n with engage := none }) (by simp) (by simp))
    exact left.trans (State.writesOnly_resolve? _ (by simp [holdResult]) fun x hx => area g x hg hx)
  next => exact freed

theorem State.endHold_writesOnly (o : CueOutcome) (n : ChanId) (area : ∀ g x, (s.ccfg n).cls = .hold →
    (s.chan n).engage = some g → g.cue = some x → ∀ a, resultArea x.loc a → w a) :
    s.writesOnly (State.endHold o n s) w := by
  unfold State.endHold
  split
  next hold =>
    have unwanted : s.writesOnly (s.unwant n) w := .of_eq (by simp [State.unwant]) (by simp [State.unwant])
    have engage : ((s.unwant n).chan n).engage = (s.chan n).engage := by simp [State.unwant, State.chan_setChan]
    refine unwanted.trans ?_
    unfold State.forceRelease
    split
    · refine (State.engageOver_writesOnly (s := s.unwant n) (by simpa [State.unwant]) n _ o .none fun g x hg => ?_).trans
        (.of_eq rfl rfl)
      exact area g x hold (engage ▸ hg)
    · exact .of_eq rfl rfl
    all_goals exact .refl _ w
  next => exact .refl s w
end

/-- The bytes of the results that releasing the hold channels writes (R116). -/
def State.heldResults (s : State) (a : Nat) : Prop := ∃ n, (s.ccfg n).cls = .hold ∧ channelResult s n a

/-- Hold channels released one after another with an empty queue. -/
theorem State.foldl_endHold (o : CueOutcome) (l : List ChanId) {s : State} (empty : s.fq = []) {w : Nat → Prop}
    (area : ∀ n g x, (s.ccfg n).cls = .hold → (s.chan n).engage = some g → g.cue = some x →
      ∀ a, resultArea x.loc a → w a) :
    let t := l.foldl (fun u n => State.endHold o n u) s
    t.fq = [] ∧ (∀ n, (s.ccfg n).cls ≠ .hold → t.chan n = s.chan n) ∧
      (∀ n, (s.ccfg n).cls = .hold → n ∈ l ∨ (s.chan n).letGo → (t.chan n).letGo) ∧ s.writesOnly t w := by
  induction l generalizing s with
  | nil => exact ⟨empty, fun _ _ => rfl, fun n _ h => h.resolve_left (by simp), .refl s w⟩
  | cons n l ih =>
    obtain ⟨fq, others, own, engage⟩ := State.endHold_chans n empty o
    have config (k : ChanId) : (State.endHold o n s).ccfg k = s.ccfg k := State.ccfg_of_perf (by simp) k
    have first := State.endHold_writesOnly empty o n (area n)
    obtain ⟨fq', others', own', written⟩ := ih fq fun k g x hold hg => by
      rw [config] at hold
      refine area k g x hold ?_
      rcases engage k with e | e
      · rw [← e]; exact hg
      · rw [e] at hg; cases hg
    refine ⟨fq', fun k hk => ?_, fun k hold hk => ?_, first.trans written⟩
    · rw [← others k (.inr hk)]
      exact others' k (by rwa [config])
    · refine own' k (by rwa [config]) ?_
      by_cases same : k = n
      · subst same
        exact .inr (own hold)
      · rw [others k (.inl same)]
        exact hk.imp_left fun mem => (List.mem_cons.1 mem).resolve_left same

/-- Releasing the hold channels with an empty queue (R116). -/
theorem State.releaseHolds_of_empty (o : CueOutcome) {s : State} (empty : s.fq = []) :
    (s.releaseHolds o).fq = [] ∧ (∀ n, (s.ccfg n).cls ≠ .hold → (s.releaseHolds o).chan n = s.chan n) ∧
      (∀ n, (s.ccfg n).cls = .hold → ((s.releaseHolds o).chan n).letGo) ∧
      s.writesOnly (s.releaseHolds o) s.heldResults := by
  obtain ⟨fq, others, own, written⟩ := State.foldl_endHold o allChans empty (w := s.heldResults)
    fun n g x hold hg hx a ha => ⟨n, hold, .inr ⟨g, x, hg, hx, ha⟩⟩
  exact ⟨fq, others, fun n hold => own n hold (.inl (List.mem_finRange n)), written⟩

/-! ### The rotor at STOP (R123) -/

theorem State.rotorResolve_rot (s : State) (o : CueOutcome) : (s.rotorResolve o).rot = { s.rot with owed := none } := by
  unfold State.rotorResolve
  split
  · rfl
  next none => rw [← none]

theorem State.rotorResolve_writesOnly (s : State) (o : CueOutcome) :
    s.writesOnly (s.rotorResolve o) (rotorResultArea s) := by
  unfold State.rotorResolve
  split
  next l hl =>
    exact (s.writesOnly_writeResult (w := rotorResultArea s) (by simp [rotorResult]) fun a ha => ⟨l, hl, ha⟩).trans
      (.of_eq rfl rfl)
  next => exact .refl s _

/-- Without a cue that it owes a result, the rotor writes none. -/
theorem State.rotorResolve_of_none {s : State} (none : s.rot.owed = none) (o : CueOutcome) : s.rotorResolve o = s := by
  simp [State.rotorResolve, none]

theorem State.rehearsal_of_perf {s t : State} (h : t.perf = s.perf) : t.rehearsal = s.rehearsal := by
  simp only [State.rehearsal, State.global_of_perf h, h]

/-- In rehearsal a PARK is complete at once (R122). -/
theorem State.rotorPark_rehearsed {s : State} (rehearsed : s.rehearsal = true) :
    s.rotorPark.rot = { s.rot with
      cmd := some .park, state := .parked, rate := 0, target := 0, owed := none, search := none, nextStep := none } := by
  simp only [State.rotorPark, rehearsed, if_true, State.rotorResolve_rot]
  rfl

/-- A PARK outside rehearsal searches for HOME once the rate is the park rate (R122). -/
theorem State.rotorPark_searches {s : State} (performed : s.rehearsal = false) :
    s.rotorPark = s.setRot { s.rot with
      cmd := some .park, state := .parking, target := s.global.parkRate
      search := if s.rot.rate = s.global.parkRate ∧ s.csm.level ≠ .brown then some 0 else none } := by
  have armed : s.rotorPark = State.rotorArm (s.setRot { s.rot with
      cmd := some .park, state := .parking, target := s.global.parkRate, search := none }) := by
    simp only [State.rotorPark, performed]
    rfl
  rw [armed]
  unfold State.rotorArm
  by_cases reached : s.rot.rate = s.global.parkRate ∧ s.csm.level ≠ .brown
  · rw [if_pos ⟨rfl, reached.1, rfl, reached.2⟩, if_pos reached]
    rfl
  · rw [if_neg fun ⟨_, rate, _, level⟩ => reached ⟨rate, level⟩, if_neg reached]

theorem State.rotorPark_writesOnly (s : State) : s.writesOnly s.rotorPark (rotorResultArea s) := by
  cases rehearsed : s.rehearsal with
  | true =>
    simp only [State.rotorPark, rehearsed, if_true]
    exact State.writesOnly.after (State.rotorResolve_writesOnly _ _) rfl rfl
  | false => rw [State.rotorPark_searches rehearsed]; exact .of_eq rfl rfl

/-- A PARK with no cue to answer writes nothing. -/
theorem State.rotorPark_silent {s : State} (none : s.rot.owed = none) : s.rotorPark.mem = s.mem := by
  cases rehearsed : s.rehearsal with
  | true =>
    simp only [State.rotorPark, rehearsed, if_true]
    rw [State.rotorResolve_of_none (by exact none)]
    rfl
  | false => rw [State.rotorPark_searches rehearsed]; rfl

/-- A pending ROTOR cue is CANCELLED by STOP, a PARK's apart (R123). -/
def State.rotorCancelled (s : State) : State := if s.rot.cmd = some .park then s else s.rotorResolve .cancelled

theorem State.rotorStop_eq (s : State) :
    s.rotorStop = if s.rot.state = .running then s.rotorCancelled.rotorPark else s.rotorCancelled := by
  have state : s.rotorCancelled.rot.state = s.rot.state := by
    unfold State.rotorCancelled
    split
    · rfl
    · rw [State.rotorResolve_rot]
  rw [← state]
  rfl

theorem State.rotorCancelled_rot (s : State) :
    s.rotorCancelled.rot = { s.rot with owed := if s.rot.cmd = some .park then s.rot.owed else none } := by
  unfold State.rotorCancelled
  split
  · rfl
  · rw [State.rotorResolve_rot]

theorem State.rotorCancelled_keeps (s : State) : s.rotorCancelled.perf = s.perf ∧ s.rotorCancelled.csm = s.csm := by
  unfold State.rotorCancelled
  split <;> simp

theorem State.rotorCancelled_writesOnly (s : State) : s.writesOnly s.rotorCancelled (rotorResultArea s) := by
  unfold State.rotorCancelled
  split
  · exact .refl s _
  · exact s.rotorResolve_writesOnly _

theorem State.rotorStop_writesOnly (s : State) : s.writesOnly s.rotorStop (rotorResultArea s) := by
  rw [State.rotorStop_eq]
  split
  · refine s.rotorCancelled_writesOnly.trans (s.rotorCancelled.rotorPark_writesOnly.mono fun a ⟨l, hl, ha⟩ => ⟨l, ?_, ha⟩)
    rw [State.rotorCancelled_rot] at hl
    dsimp only at hl
    split at hl
    · exact hl
    · cases hl
  · exact s.rotorCancelled_writesOnly

/-- What STOP leaves of the rotor. -/
theorem State.rotorStop_rot (s : State) :
    let owed := if s.rot.cmd = some .park then s.rot.owed else none
    (s.rot.state ≠ .running → s.rotorStop.rot = { s.rot with owed := owed }) ∧
    (s.rot.state = .running → s.rehearsal = true → s.rotorStop.rot = { s.rot with
      cmd := some .park, state := .parked, rate := 0, target := 0, owed := none, search := none, nextStep := none }) ∧
    (s.rot.state = .running → s.rehearsal = false → s.rotorStop.rot = { s.rot with
      cmd := some .park, state := .parking, target := s.global.parkRate, owed := owed
      search := if s.rot.rate = s.global.parkRate ∧ s.csm.level ≠ .brown then some 0 else none }) := by
  obtain ⟨perf, csm⟩ := s.rotorCancelled_keeps
  have rehearsal := State.rehearsal_of_perf perf
  have global := State.global_of_perf perf
  refine ⟨fun still => ?_, fun runs yes => ?_, fun runs no => ?_⟩
  · rw [State.rotorStop_eq, if_neg still, State.rotorCancelled_rot]
  · rw [State.rotorStop_eq, if_pos runs, State.rotorPark_rehearsed (rehearsal.trans yes), State.rotorCancelled_rot]
  · rw [State.rotorStop_eq, if_pos runs, State.rotorPark_searches (rehearsal.trans no), global, csm,
      State.setRot_rot, State.rotorCancelled_rot]

theorem readBytes_writeBytes_same {m : Memory} (wf : Memory.wf m = true) {a : Nat} (bs : List Byte)
    (fits : a + bs.length ≤ 0x10000) : Memory.readBytes (Memory.writeBytes m a bs) a bs.length = bs := by
  have bytes (n : Nat) (l : List Byte) (k : Nat) (hl : l.length = n)
      (each : ∀ i (hi : i < l.length), Memory.read (Memory.writeBytes m a bs) (k + i) = l[i]) :
      Memory.readBytes (Memory.writeBytes m a bs) k n = l := by
    induction n generalizing l k with
    | zero => rw [List.length_eq_zero_iff.1 hl]; rfl
    | succ n ih =>
      cases l with
      | nil => cases hl
      | cons b l =>
        have first := each 0 (by simp)
        simp only [Memory.readBytes]
        rw [ih l (k + 1) (by simpa using hl) fun i hi => by
          have := each (i + 1) (by simpa using hi)
          rwa [← Nat.add_assoc, Nat.add_right_comm] at this]
        rw [Nat.add_zero] at first
        rw [first]
        rfl
  exact bytes _ bs a rfl fun i hi => Memory.read_writeBytes_same bs hi fits wf

/-- The CANCELLED result of a pending ROTOR cue stands in its result area (R123). -/
theorem State.rotorStop_cancelled {s : State} {l : CueLoc} (owed : s.rot.owed = some l) (cmd : s.rot.cmd ≠ some .park)
    (placed : l.inBlock) (wf : Memory.wf s.mem = true) :
    Memory.readBytes s.rotorStop.mem (cueAddr l + 8) 8 = [5, 0] ++ leBytes 6 (s.scu.pt.toNat / 16) := by
  have bounds := CueLoc.inBlock.bounds placed
  have cancelled : s.rotorCancelled.mem =
      Memory.writeBytes s.mem (cueAddr l + 8) ([5, 0] ++ leBytes 6 (s.scu.pt.toNat / 16)) := by
    simp only [State.rotorCancelled, if_neg cmd, State.rotorResolve, owed]
    rfl
  have after : s.rotorStop.mem = s.rotorCancelled.mem := by
    rw [State.rotorStop_eq]
    split
    · exact State.rotorPark_silent (by rw [State.rotorCancelled_rot]; exact if_neg cmd)
    · rfl
  rw [after, cancelled]
  exact readBytes_writeBytes_same wf ([5, 0] ++ leBytes 6 (s.scu.pt.toNat / 16)) (by simp; omega)

end Sys2Proof.Machine

/-! PROOFS. STOP (R151): what it does, taken as a whole. -/
namespace Sys2Proof.Machine
open Sys2Proof

/-! ### The end of a drain -/

/-- A check for drain completion writes nothing, and releases the holds where the drain is complete (R153). -/
theorem State.drainCheck_of_empty {s : State} (empty : s.fq = []) :
    s.drainCheck.fq = [] ∧ (∀ n, (s.ccfg n).cls ≠ .hold → s.drainCheck.chan n = s.chan n) ∧
      (∀ n, (s.ccfg n).cls = .hold → (s.chan n).letGo → (s.drainCheck.chan n).letGo) ∧
      (∀ a, Memory.read s.drainCheck.mem a = Memory.read s.mem a) := by
  unfold State.drainCheck
  split
  next due =>
    simp only [drainCompleteDue, Bool.and_eq_true, State.nothingInFlight, List.all_eq_true, Option.isNone_iff_eq_none,
      List.isEmpty_iff] at due
    obtain ⟨⟨⟨⟨⟨-, -⟩, flight⟩, -⟩, passes⟩, -⟩ := due
    have idle (n : ChanId) := flight n (List.mem_finRange n)
    obtain ⟨fq, others, own, written⟩ := State.releaseHolds_of_empty .cancelled empty
    have chan (n : ChanId) : s.drained.chan n = (s.releaseHolds .cancelled).chan n := by simp [State.drained, State.chan]
    have mem : s.drained.mem = (s.releaseHolds .cancelled).mem := by simp [State.drained]
    refine ⟨by simpa [State.drained] using fq, fun n other => ?_, fun n hold _ => ?_, fun a => ?_⟩
    · rw [chan, others n other]
    · rw [chan]; exact own n hold
    · rw [mem]
      refine written.mem a ?_ fun ⟨p, hp, _⟩ => by simp [passes] at hp
      rintro ⟨n, -, ⟨k, hk, -⟩ | ⟨g, c, hg, -⟩⟩
      · simp [(idle n).1] at hk
      · simp [(idle n).2] at hg
  next => exact ⟨empty, fun _ _ => rfl, fun _ _ h => h, fun _ => rfl⟩

/-- The performance goes on draining, or has ended (R153). -/
theorem State.drainCheck_perf (s : State) :
    s.drainCheck.perf = s.perf ∨ s.perf.state = .draining ∧
      s.drainCheck.perf = { s.perf with state := .ended, prior := none } ∧ s.drainCheck.flag .ended = true := by
  unfold State.drainCheck
  split
  next due =>
    simp only [drainCompleteDue, Bool.and_eq_true, beq_iff_eq] at due
    obtain ⟨⟨⟨⟨⟨drains, -⟩, -⟩, -⟩, -⟩, -⟩ := due
    exact .inr ⟨drains, by simp [State.drained, State.enterEnded], State.flag_setFlag _ _⟩
  next => exact .inl rfl

theorem State.flag_drainCheck_of {s : State} {f : AttnFlag} (h : s.flag f = true) : s.drainCheck.flag f = true := by
  unfold State.drainCheck
  split
  · refine State.flag_setFlag_of _ (State.flag_of_regs (s := s) ?_ h)
    simp
  · exact h

/-! ### Everything up to the drain -/

/-- STOP up to its new performance state (R151). -/
def State.silenced (s : State) : State :=
  (s.endReading.cancelQueue.stopAgenda.releaseHolds .cancelled).rotorStop

theorem State.stopPlaying_eq (s : State) : s.stopPlaying = s.silenced.stopState.drainCheck := rfl

/-- The reading ends but where it has ended already (R44). -/
theorem State.endReading_reader (s : State) :
    if s.reader.state = .finished ∨ s.reader.state = .faulted ∨ s.reader.state = .stopped then
      s.endReading.reader = s.reader
    else s.endReading.reader = { s.reader with state := .stopped, pending := .none, pass := none } := by
  unfold State.endReading
  cases s.reader.state <;> simp [State.leavePass_reader]

/-- The agenda is emptied, and a tick that waits for a holdpoint is scheduled at once (R14). -/
theorem State.stopAgenda_scu (s : State) :
    s.stopAgenda.scu = { s.scu with
      agenda := [], holdExpiry := none
      cond := if s.perf.state = .holding ∨ (s.perf.state = .paused ∧ s.perf.prior = some .holding)
              then .scheduled s.scu.pt.toNat else s.scu.cond } := by
  have held : s.heldAtHoldpoint = true ↔
      s.perf.state = .holding ∨ (s.perf.state = .paused ∧ s.perf.prior = some .holding) := by
    simp [State.heldAtHoldpoint]
  simp only [State.stopAgenda, held]
  split <;> simp [State.now]

section
variable (s : State)

theorem State.silenced_keeps :
    s.silenced.perf = s.perf ∧ s.silenced.reader = s.endReading.reader ∧ s.silenced.regs = s.endReading.cancelQueue.regs := by
  simp [State.silenced]

theorem State.silenced_scu :
    s.silenced.scu = { s.scu with
      agenda := [], holdExpiry := none
      cond := if s.perf.state = .holding ∨ (s.perf.state = .paused ∧ s.perf.prior = some .holding)
              then .scheduled s.scu.pt.toNat else s.scu.cond } := by
  have scu : s.silenced.scu = s.endReading.cancelQueue.stopAgenda.scu := by simp [State.silenced]
  rw [scu, State.stopAgenda_scu]
  simp

/-- The queue is empty and the hold channels are released. -/
theorem State.silenced_chans :
    s.silenced.fq = [] ∧ (∀ n, (s.ccfg n).cls = .hold → (s.silenced.chan n).letGo) ∧
      ∀ n, (s.ccfg n).cls ≠ .hold →
        s.silenced.chan n = (s.chan n).missed s.global.missLimit (restrikeCount n s.fq) := by
  have empty : s.endReading.cancelQueue.stopAgenda.fq = [] := by simpa using s.endReading.cancelQueue_fq
  have config (n : ChanId) : s.endReading.cancelQueue.stopAgenda.ccfg n = s.ccfg n := State.ccfg_of_perf (by simp) n
  obtain ⟨fq, others, own, -⟩ := State.releaseHolds_of_empty .cancelled empty
  have chan (n : ChanId) :
      s.silenced.chan n = (s.endReading.cancelQueue.stopAgenda.releaseHolds .cancelled).chan n := by
    simp [State.silenced, State.chan]
  refine ⟨by simpa [State.silenced] using fq, fun n hold => ?_, fun n other => ?_⟩
  · rw [chan]; exact own n (by rwa [config])
  · have limit : s.endReading.global = s.global := State.global_of_perf (by simp)
    have before : s.endReading.chan n = s.chan n := by simp [State.chan]
    have queue : s.endReading.fq = s.fq := by simp
    have agenda : s.endReading.cancelQueue.stopAgenda.chan n = s.endReading.cancelQueue.chan n := by simp [State.chan]
    rw [chan, others n (by rwa [config]), agenda, State.cancelQueue, (State.foldl_cancelEntry_misses _ _ n).1, limit,
      before, queue]

/-- Misses that fault a channel set CHANNEL (R94). -/
theorem State.silenced_flag {n : ChanId} (faults : (s.chan n).missFaults s.global.missLimit (restrikeCount n s.fq)) :
    s.silenced.flag .channel = true := by
  have limit : s.endReading.global = s.global := State.global_of_perf (by simp)
  have before : s.endReading.chan n = s.chan n := by simp [State.chan]
  have queue : s.endReading.fq = s.fq := by simp
  have counted := (State.foldl_cancelEntry_misses s.endReading.fq s.endReading n).2
  rw [limit, before, queue] at counted
  rw [State.flag, s.silenced_keeps.2.2, State.cancelQueue, queue]
  exact counted (.inl faults)

/-- The bytes of results that STOP may write. -/
def State.stopResults (a : Nat) : Prop :=
  queuedResult s a ∨ agendaResult s a ∨ rotorResultArea s a ∨ ∃ n, (s.ccfg n).cls = .hold ∧ channelResult s n a

theorem State.cancelQueue_engage (n : ChanId) : (s.cancelQueue.chan n).engage = (s.chan n).engage ∧
    (s.cancelQueue.chan n).stroke = (s.chan n).stroke := by
  rw [State.cancelQueue, (State.foldl_cancelEntry_misses s.fq s n).1, Channel.missed]
  split <;> exact ⟨rfl, rfl⟩

theorem State.silenced_released_writesOnly :
    s.writesOnly (s.endReading.cancelQueue.stopAgenda.releaseHolds .cancelled) s.stopResults := by
  have ended : s.writesOnly s.endReading s.stopResults := s.writesOnly_endReading _
  have cancelled := s.endReading.writesOnly_cancelQueue.mono (v := s.stopResults) fun a ⟨e, he, h⟩ =>
    .inl ⟨e, by simpa using he, h⟩
  have agenda := s.endReading.cancelQueue.writesOnly_stopAgenda.mono (v := s.stopResults) fun a ⟨e, he, h⟩ =>
    .inr (.inl ⟨e, by simpa using he, h⟩)
  have empty : s.endReading.cancelQueue.stopAgenda.fq = [] := by simpa using s.endReading.cancelQueue_fq
  obtain ⟨-, -, -, written⟩ := State.releaseHolds_of_empty .cancelled empty
  refine ended.trans (cancelled.trans (agenda.trans (written.mono fun a ⟨n, hold, h⟩ => .inr (.inr (.inr ⟨n, ?_, ?_⟩)))))
  · rwa [State.ccfg_of_perf (t := s.endReading.cancelQueue.stopAgenda) (s := s) (by simp)] at hold
  · have kept := s.endReading.cancelQueue_engage n
    have agenda : s.endReading.cancelQueue.stopAgenda.chan n = s.endReading.cancelQueue.chan n := by simp [State.chan]
    have before : s.endReading.chan n = s.chan n := by simp [State.chan]
    unfold channelResult at h ⊢
    rwa [agenda, kept.1, kept.2, before] at h

theorem State.silenced_writesOnly : s.writesOnly s.silenced s.stopResults :=
  s.silenced_released_writesOnly.trans ((State.rotorStop_writesOnly _).mono fun a ⟨l, hl, ha⟩ =>
    .inr (.inr (.inl ⟨l, by simpa using hl, ha⟩)))
end

/-! ### STOP in a performance that plays -/

section
variable (s : State)

/-- STOP's new performance state: PAUSED stays, remembering DRAINING (R151). -/
theorem State.stopState_perf : s.stopState.perf =
    if s.perf.state = .paused then { s.perf with prior := some .draining, endCause := .stopped }
    else { s.perf with state := .draining, endCause := .stopped } := by
  unfold State.stopState
  split <;> rfl

theorem State.stopPlaying_perf :
    s.stopPlaying.perf.endCause = .stopped ∧
      if s.perf.state = .paused then s.stopPlaying.perf.state = .paused ∧ s.stopPlaying.perf.prior = some .draining
      else s.stopPlaying.perf.state = .draining ∨ (s.stopPlaying.perf.state = .ended ∧ s.stopPlaying.flag .ended = true) := by
  have perf := s.silenced.stopState_perf
  rw [s.silenced_keeps.1] at perf
  rw [State.stopPlaying_eq]
  split
  next paused =>
    rw [if_pos paused] at perf
    rcases s.silenced.stopState.drainCheck_perf with same | ⟨drains, -⟩
    · rw [same, perf]; exact ⟨rfl, paused, rfl⟩
    · simp [perf, paused] at drains
  next plays =>
    rw [if_neg plays] at perf
    rcases s.silenced.stopState.drainCheck_perf with same | ⟨-, ended, flag⟩
    · rw [same, perf]; exact ⟨rfl, .inl rfl⟩
    · rw [ended, perf]; exact ⟨rfl, .inr ⟨rfl, flag⟩⟩

theorem State.stopPlaying_scu_reader_rot :
    s.stopPlaying.scu = s.silenced.scu ∧ s.stopPlaying.reader = s.endReading.reader ∧ s.stopPlaying.rot = s.silenced.rot := by
  rw [State.stopPlaying_eq]
  simp [s.silenced_keeps.2.1]

/-- The fire queue is empty, the hold channels are released, and every other channel has counted its misses. -/
theorem State.stopPlaying_chans :
    s.stopPlaying.fq = [] ∧ (∀ n, (s.ccfg n).cls = .hold → (s.stopPlaying.chan n).letGo) ∧
      ∀ n, (s.ccfg n).cls ≠ .hold →
        s.stopPlaying.chan n = (s.chan n).missed s.global.missLimit (restrikeCount n s.fq) := by
  obtain ⟨empty, own, others⟩ := s.silenced_chans
  have chan (n : ChanId) : s.silenced.stopState.chan n = s.silenced.chan n := by simp [State.chan]
  have config (n : ChanId) : s.silenced.stopState.ccfg n = s.ccfg n := by
    have latch : s.silenced.stopState.perf.latch = s.perf.latch := by simp [s.silenced_keeps.1]
    simp only [State.ccfg, latch]
  obtain ⟨fq, others', own', -⟩ := State.drainCheck_of_empty (s := s.silenced.stopState) (by simpa using empty)
  refine ⟨fq, fun n hold => ?_, fun n other => ?_⟩
  · exact own' n (by rwa [config]) (by rw [chan]; exact own n hold)
  · rw [State.stopPlaying_eq, others' n (by rwa [config]), chan, others n other]

theorem State.stopPlaying_flag {n : ChanId} (faults : (s.chan n).missFaults s.global.missLimit (restrikeCount n s.fq)) :
    s.stopPlaying.flag .channel = true := by
  rw [State.stopPlaying_eq]
  exact State.flag_drainCheck_of (State.flag_of_regs (by simp) (s.silenced_flag faults))

/-- After the rotor's result nothing more is written. -/
theorem State.read_stopPlaying (a : Nat) : Memory.read s.stopPlaying.mem a = Memory.read s.silenced.mem a := by
  obtain ⟨-, -, -, same⟩ := State.drainCheck_of_empty (s := s.silenced.stopState) (by simpa using s.silenced_chans.1)
  rw [State.stopPlaying_eq, same]
  simp

theorem State.stopPlaying_rot :
    let owed := if s.rot.cmd = some .park then s.rot.owed else none
    (s.rot.state ≠ .running → s.stopPlaying.rot = { s.rot with owed := owed }) ∧
    (s.rot.state = .running → s.rehearsal = true → s.stopPlaying.rot = { s.rot with
      cmd := some .park, state := .parked, rate := 0, target := 0, owed := none, search := none, nextStep := none }) ∧
    (s.rot.state = .running → s.rehearsal = false → s.stopPlaying.rot = { s.rot with
      cmd := some .park, state := .parking, target := s.global.parkRate, owed := owed
      search := if s.rot.rate = s.global.parkRate ∧ s.csm.level ≠ .brown then some 0 else none }) := by
  generalize hu : s.endReading.cancelQueue.stopAgenda.releaseHolds .cancelled = u
  have rot : u.rot = s.rot := by simp [← hu]
  have csm : u.csm = s.csm := by simp [← hu]
  have perf : u.perf = s.perf := by simp [← hu]
  have stopped := u.rotorStop_rot
  rw [rot, csm, State.rehearsal_of_perf perf, State.global_of_perf perf] at stopped
  rw [s.stopPlaying_scu_reader_rot.2.2, State.silenced, hu]
  exact stopped

/-- The result of a pending ROTOR cue is the last one written (log entry 42). -/
theorem State.stopPlaying_rotorResult {l : CueLoc} (owed : s.rot.owed = some l) (cmd : s.rot.cmd ≠ some .park)
    (placed : l.inBlock) (wf : Memory.wf s.mem = true) :
    Memory.readBytes s.stopPlaying.mem (cueAddr l + 8) 8 = [5, 0] ++ leBytes 6 (s.scu.pt.toNat / 16) := by
  have kept := s.silenced_released_writesOnly.wf wf
  rw [Memory.readBytes_congr fun i _ => s.read_stopPlaying _, State.silenced]
  have pt : (s.endReading.cancelQueue.stopAgenda.releaseHolds .cancelled).scu.pt = s.scu.pt := by simp
  rw [← pt]
  exact State.rotorStop_cancelled (by simpa using owed) (by simpa using cmd) placed kept
end

/-- A channel after its misses, in the two cases of R94. -/
theorem Channel.missed_cases {c d : Channel} {limit r : Nat} (h : d = c.missed limit r) {f : Prop}
    (flags : c.missFaults limit r → f) :
    if c.missFaults limit r then d = { c with state := .faulted, misses := c.missesAfter r } ∧ f
    else d = { c with misses := c.missesAfter r } := by
  unfold Channel.missed at h
  split
  next faults => rw [if_pos faults] at h; exact ⟨h, flags faults⟩
  next calm => rwa [if_neg calm] at h

/-- STOP is accepted while a performance plays, and is published (R142, R151). -/
theorem exec_stop_of_plays {s : State} (hn : s.nrstLow = false)
    (plays : s.perf.state = .running ∨ s.perf.state = .holding ∨ s.perf.state = .paused ∨ s.perf.state = .draining) :
    exec .stop s = .next (publish s (State.setRegs (State.stopPlaying { s with port := s.wrotePort regControl })
      ((State.stopPlaying { s with port := s.wrotePort regControl }).regs.accepted 4))) := by
  have accepted : stopVerdict s = .accepted := by
    rcases plays with h | h | h | h <;> simp [stopVerdict, h]
  have stop : State.takeStop { s with port := s.wrotePort regControl } =
      State.stopPlaying { s with port := s.wrotePort regControl } := by
    refine if_neg fun loads => ?_
    have loads : s.perf.state = .loading := loads
    rcases plays with h | h | h | h <;> simp [h] at loads
  rw [← stop]
  exact onControl_accepted State.takeStop hn accepted

/-- Settles O9: each field of the state that STOP leaves, and the bytes that it may write. -/
theorem stopEndsTheReadingAndEmptiesTheQueues : Obligations.StopEndsTheReadingAndEmptiesTheQueues := by
  unfold Obligations.StopEndsTheReadingAndEmptiesTheQueues
  intro s hn plays
  refine ⟨_, exec_stop_of_plays hn plays, ?_⟩
  obtain ⟨scu, reader, rot⟩ := State.stopPlaying_scu_reader_rot { s with port := s.wrotePort regControl }
  obtain ⟨fq, holds, others⟩ := State.stopPlaying_chans { s with port := s.wrotePort regControl }
  obtain ⟨cause, perf⟩ := State.stopPlaying_perf { s with port := s.wrotePort regControl }
  have faults := @State.stopPlaying_flag { s with port := s.wrotePort regControl }
  have rotor := State.stopPlaying_rot { s with port := s.wrotePort regControl }
  have result := @State.stopPlaying_rotorResult { s with port := s.wrotePort regControl }
  have written := State.silenced_writesOnly { s with port := s.wrotePort regControl }
  have read := State.read_stopPlaying { s with port := s.wrotePort regControl }
  have latch := State.stopPlaying_latch { s with port := s.wrotePort regControl }
  have lock := State.stopPlaying_lock { s with port := s.wrotePort regControl }
  have enable := State.stopPlaying_code_outcome_enable { s with port := s.wrotePort regControl }
  have keeps := State.stopPlaying_keeps { s with port := s.wrotePort regControl }
  rw [State.silenced_scu] at scu
  have ended := State.endReading_reader { s with port := s.wrotePort regControl }
  rw [← reader] at ended
  generalize State.stopPlaying { s with port := s.wrotePort regControl } = x at *
  have chan (n : ChanId) : (publish s (x.setRegs (x.regs.accepted 4))).chan n = x.chan n := by simp [State.chan]
  have flag (f : AttnFlag) : (publish s (x.setRegs (x.regs.accepted 4))).flag f = x.flag f := by simp [State.flag]
  refine ⟨?_, ?_, ?_, ?_, ?_, ?_, ?_, ?_, ?_, ?_, ?_, ?_, ?_, ?_⟩
  · obtain ⟨h1, h2, h3, h4, h5, h6, h7, h8, h9, h10⟩ := keeps
    apply State.eq_of_fields <;> simp [*]
  · simpa using scu
  · simpa using ended
  · simpa using cause
  · simpa using latch
  · simpa using lock
  · rw [flag]
    simpa using perf
  · simp
  · simp
  · simpa using enable.2.2
  · intro n hold
    rw [chan]
    exact holds n hold
  · intro n other
    rw [chan, flag]
    exact Channel.missed_cases (others n other) faults
  · obtain ⟨still, rehearsed, searches⟩ := rotor
    have same : (publish s (x.setRegs (x.regs.accepted 4))).rot = x.rot := by simp
    rw [same]
    refine ⟨still, rehearsed, searches, fun l owed cmd placed wf => ?_⟩
    have bounds := CueLoc.inBlock.bounds placed
    refine (Memory.readBytes_congr fun i _ => read_publish s _ ?_).trans (result owed cmd placed wf)
    unfold published
    omega
  · intro a out
    refine (read_publish s _ fun shown => out (.inr (.inr (.inr (.inr (.inl shown)))))).trans ((read a).trans
      (written.mem a ?_ fun count => out (.inr (.inr (.inr (.inl count))))))
    rintro (queued | agenda | rotor | held)
    exacts [out (.inl queued), out (.inr (.inl agenda)), out (.inr (.inr (.inl rotor))),
      out (.inr (.inr (.inr (.inr (.inr held)))))]

end Sys2Proof.Machine

/-! PROOFS. Maps: what the checks of R47 give of the knots, and the map between them (R54). -/
namespace Sys2Proof.Machine
open Sys2Proof

/-! ### The knots of a valid map (R47) -/

/-- A knot's width and flight, or what is interpolated from them, lie in the ranges of R47. -/
def mapRange (q : Nat × Nat) : Prop := (100 ≤ q.1 ∧ q.1 ≤ 25000) ∧ (200 ≤ q.2 ∧ q.2 ≤ 40000)

/-- Knots that pass the checks have rising velocities above the one before, and each its values in range. -/
theorem checkKnots_eq_none {i before : Nat} {ks : List Knot} (h : checkKnots i before ks = none) :
    (∀ k ∈ ks, before < k.velocity) ∧ ks.Pairwise (·.velocity < ·.velocity) ∧
      ∀ k ∈ ks, mapRange (k.width, k.flight) := by
  induction ks generalizing i before with
  | nil => simp
  | cons k ks ih =>
    unfold checkKnots at h
    split at h
    next => cases h
    next velocity =>
      split at h
      next => cases h
      next width =>
        split at h
        next => cases h
        next flight =>
          obtain ⟨above, rising, ranges⟩ := ih h
          have own : mapRange (k.width, k.flight) := by
            simp only [mapRange]
            omega
          refine ⟨?_, List.pairwise_cons.2 ⟨above, rising⟩, List.forall_mem_cons.2 ⟨own, ranges⟩⟩
          have first : before < k.velocity := by omega
          exact List.forall_mem_cons.2 ⟨first, fun x hx => first.trans (above x hx)⟩

/-- A valid map has a knot 0, rising velocities, and every knot's values in range (R47). -/
theorem validateMap_knots {a : Addr} {record : List Byte} {m : VelMap} (h : validateMap a record = .ok m) :
    m.knots ≠ [] ∧ m.knots.Pairwise (·.velocity < ·.velocity) ∧ ∀ k ∈ m.knots, mapRange (k.width, k.flight) := by
  unfold validateMap at h
  split at h
  next => cases h
  next =>
    split at h
    next => cases h
    next count =>
      split at h
      next => cases h
      next passed =>
        cases h
        refine ⟨?_, (checkKnots_eq_none passed).2⟩
        simp only [readKnots, ne_eq, List.map_eq_nil_iff, List.range_eq_nil]
        omega

/-! ### Interpolation (R54) -/

/-- Interpolation gives the quantity of the lower knot at its velocity. -/
theorem interpolate_left (va vb qa qb : Nat) : interpolate va vb va qa qb = qa := by
  simp [interpolate]

/-- Interpolation gives the quantity of the upper knot at its velocity. -/
theorem interpolate_right {va vb : Nat} (h : va < vb) (qa qb : Nat) : interpolate va vb vb qa qb = qb := by
  rw [interpolate, Int.mul_tdiv_cancel _ (by omega)]
  omega

/-- An interpolated quantity stays between those of its knots. -/
theorem interpolate_within {va vb v lo hi qa qb : Nat} (above : va ≤ v) (below : v ≤ vb) (apart : va < vb)
    (ha : lo ≤ qa ∧ qa ≤ hi) (hb : lo ≤ qb ∧ qb ≤ hi) :
    (lo : Int) ≤ interpolate va vb v qa qb ∧ interpolate va vb v qa qb ≤ hi := by
  have part := tdiv_within (x := (qb : Int) - qa) (n := (v : Int) - va) (l := (vb : Int) - va)
    (by omega) (by omega) (by omega)
  unfold interpolate
  omega

theorem interpolate_nonneg {va vb v : Nat} (above : va ≤ v) (below : v ≤ vb) (apart : va < vb) (qa qb : Nat) :
    0 ≤ interpolate va vb v qa qb :=
  (interpolate_within above below apart ⟨qa.zero_le, le_max_left qa qb⟩ ⟨qb.zero_le, le_max_right qa qb⟩).1

/-! ### The map at a velocity (R54) -/

/-- From a knot on, a velocity up to the knot's has the knot's values. -/
theorem lookupFrom_le {a : Knot} {v : Nat} (h : v ≤ a.velocity) (ks : List Knot) :
    lookupFrom a v ks = (a.width, a.flight) := by
  cases ks <;> simp [lookupFrom, h]

/-- A knot at or below the velocity is passed over, with all knots before it. -/
theorem lookupFrom_append {a k : Knot} {v : Nat} {pre post : List Knot}
    (rising : (a :: (pre ++ k :: post)).Pairwise (·.velocity < ·.velocity)) (h : k.velocity ≤ v) :
    lookupFrom a v (pre ++ k :: post) = lookupFrom k v post := by
  have step {x b : Knot} (ks : List Knot) (hx : x.velocity < b.velocity) (hb : b.velocity ≤ v) :
      lookupFrom x v (b :: ks) = lookupFrom b v ks := by
    rw [lookupFrom, if_neg (by omega), if_neg (by omega)]
  induction pre generalizing a with
  | nil => exact step post (List.rel_of_pairwise_cons rising (by simp)) h
  | cons b pre ih =>
    have rest := rising.of_cons
    have last : b.velocity < k.velocity := List.rel_of_pairwise_cons rest (by simp)
    rw [List.cons_append, step _ (List.rel_of_pairwise_cons rising (by simp)) (by omega), ih rest]

/-- Between a knot and the next, both included, the values are interpolated. -/
theorem lookupFrom_between {a b : Knot} {v : Nat} (apart : a.velocity < b.velocity) (above : a.velocity ≤ v)
    (below : v ≤ b.velocity) (ks : List Knot) :
    lookupFrom a v (b :: ks) = ((interpolate a.velocity b.velocity v a.width b.width).toNat,
      (interpolate a.velocity b.velocity v a.flight b.flight).toNat) := by
  rcases above.eq_or_lt with rfl | above
  · rw [lookupFrom_le le_rfl]
    simp [interpolate_left]
  · rw [lookupFrom, if_neg (by omega)]
    rcases below.eq_or_lt with rfl | below
    · rw [if_neg (by omega), lookupFrom_le le_rfl]
      simp [interpolate_right apart]
    · rw [if_pos below]

/-- The values stay in range at every velocity. -/
theorem lookupFrom_range {a : Knot} {ks : List Knot} (v : Nat) (h : ∀ k ∈ a :: ks, mapRange (k.width, k.flight)) :
    mapRange (lookupFrom a v ks) := by
  induction ks generalizing a with
  | nil => exact h a (by simp)
  | cons b ks ih =>
    obtain ⟨own, rest⟩ := List.forall_mem_cons.1 h
    rw [lookupFrom]
    split
    next => exact own
    next above =>
      split
      next below =>
        have above := Nat.le_of_not_le above
        have apart := above.trans_lt below
        have upper := rest b (by simp)
        simp only [mapRange] at own upper ⊢
        have width := interpolate_within above below.le apart own.1 upper.1
        have flight := interpolate_within above below.le apart own.2 upper.2
        omega
      next => exact ih rest

/-- At or above a knot the map is looked up from that knot on. -/
theorem VelMap.lookup_from {m : VelMap} {k : Knot} {v : Nat} {pre post : List Knot}
    (rising : m.knots.Pairwise (·.velocity < ·.velocity)) (at_ : m.knots = pre ++ k :: post) (h : k.velocity ≤ v) :
    m.lookup v = lookupFrom k v post := by
  rw [at_] at rising
  rw [VelMap.lookup, at_]
  cases pre with
  | nil => rfl
  | cons a pre => exact lookupFrom_append rising h

/-- Settles O25: the map at a velocity is looked up from the knot below it, where it is the knot's or the interpolation. -/
theorem aMapInterpolatesBetweenItsKnots : Obligations.AMapInterpolatesBetweenItsKnots := by
  unfold Obligations.AMapInterpolatesBetweenItsKnots
  intro a record m v valid
  obtain ⟨nonempty, rising, ranges⟩ := validateMap_knots valid
  refine ⟨fun k hk => ?_, fun k first low => ?_, fun k last high => ?_, fun pre k l post at_ above below => ?_, ?_⟩
  · obtain ⟨pre, post, at_⟩ := List.append_of_mem hk
    rw [VelMap.lookup_from rising at_ le_rfl, lookupFrom_le le_rfl]
  · obtain ⟨ks, at_⟩ := List.head?_eq_some_iff.1 first
    rw [VelMap.lookup, at_]
    exact lookupFrom_le low ks
  · obtain ⟨pre, at_⟩ := List.getLast?_eq_some_iff.1 last
    rw [VelMap.lookup_from rising at_ high]
    rfl
  · have apart : k.velocity < l.velocity := by
      rw [at_] at rising
      exact List.rel_of_pairwise_cons (List.pairwise_append.1 rising).2.1 (by simp)
    rw [VelMap.lookup_from rising at_ above, lookupFrom_between apart above below]
    exact ⟨Int.toNat_of_nonneg (interpolate_nonneg above below apart _ _),
      Int.toNat_of_nonneg (interpolate_nonneg above below apart _ _)⟩
  · obtain ⟨k, ks, at_⟩ := List.exists_cons_of_ne_nil nonempty
    rw [at_] at ranges
    rw [VelMap.lookup, at_]
    exact lookupFrom_range v ranges

end Sys2Proof.Machine

/-! PROOFS. The planned lead (R56), the pulse width at a grant (R58 to R60), and the grant (R74). -/
namespace Sys2Proof.Machine
open Sys2Proof

/-! ### The planned lead (R56) -/

/-- The heat lag is at most 4,094 µs. -/
theorem heatLag_le {heat slope : Nat} (hh : heat ≤ 65535) (hs : slope ≤ 4095) : heatLag heat slope ≤ 4094 := by
  have product : heat * slope ≤ 65535 * 4095 := Nat.mul_le_mul hh hs
  unfold heatLag
  omega

/-- The planned lead is flight, trim and heat lag together, clamped. -/
theorem plannedLead_eq (flight : Nat) (trim : Int) (lag : Nat) :
    (plannedLead flight trim lag : Int) = max 200 (min 40000 ((flight : Int) + trim + lag)) := by
  unfold plannedLead clampInt
  omega

/-- The work an admitted STRIKE cue places is the stroke as planned (R31, R57). -/
theorem State.takeOn_strike {s : State} {c : Cue} {ch : Byte} {v : Nat} {micro : Int} {r : Bool} {n : ChanId}
    (onset : Int) (hb : c.body = .strike ch v micro r) (hn : s.chanOf ch .strike = some n) (room : s.fq.length < 96) :
    s.takeOn c onset = s.cueQueued
      (.strike { cue := s.cueRef, chan := n, width := (s.planStrike n v onset).width
                 lead := (s.planStrike n v onset).lead, velocity := (s.planStrike n v onset).velocity, restrikeOk := r })
      onset (onset - 16 * ((s.planStrike n v onset).lead : Int)) :=
  State.takeOn_placed (a := .strike n v r) onset (by rw [hb]; exact State.asks_strike hn) (State.fqRoom_of_lt room)

/-- The lead of a planned stroke, from the map at the planned velocity (R53, R56). -/
theorem State.planStrike_lead (s : State) (n : ChanId) (v : Nat) (onset : Int) :
    ((s.planStrike n v onset).lead : Int) = max 200 (min 40000
      ((((s.activeMap n).lookup (plannedVelocity v (s.chan n).heat (s.ccfg n).warm s.global.warmVelocity)).2 : Int) +
        (s.chan n).trim + heatLag (s.chan n).heat s.global.lagSlope)) :=
  plannedLead_eq _ _ _

/-- Settles O26: the lead is a clamped sum, and the placed work carries it. -/
theorem thePlannedLeadIsClamped : Obligations.ThePlannedLeadIsClamped := by
  unfold Obligations.ThePlannedLeadIsClamped
  intro s n v onset ranges slope
  have lead := s.planStrike_lead n v onset
  refine ⟨heatLag_le ranges.1 slope, lead, ?_, ?_, fun c ch micro restrike hb hn room => ?_⟩
  · omega
  · omega
  · exact ⟨_, rfl, State.takeOn_strike onset hb hn room⟩

/-! ### Widths and strokes at a grant (R58 to R60, R84) -/

/-- Only SAG boosts the pulse (R59). -/
theorem State.pulseWidth_eq (s : State) (n : ChanId) (base : Nat) : s.pulseWidth n base = s.boosted n base := by
  unfold State.pulseWidth State.boosted
  cases s.csm.level <;> rfl

/-- A STRIKE's stroke has its planned width on its own channel and the reroute width on the partner (R58, R59). -/
theorem State.strikeStroke_eq (s : State) (e : FqEntry) (w : StrikeWork) (n : ChanId) :
    let base := if n = w.chan then w.width else s.rerouteWidth n w.velocity
    s.strikeStroke e w n = s.freshStroke w.cue e.onset (e.onset - 16 * w.lead) w.lead (s.boosted n base) base
      w.restrikeOk false (decide (n ≠ w.chan)) := by
  simp only [State.strikeStroke, State.formStroke, State.pulseWidth_eq, ne_eq, decide_not, Bool.not_eq_true',
    decide_eq_false_iff_not, ite_not]
  rfl

/-- A RESTRIKE's stroke has its carried width widened, and carries it on (R60, R98). -/
theorem State.restrikeStroke_eq (s : State) (e : FqEntry) (w : RestrikeWork) (n : ChanId) :
    s.restrikeStroke e w n = s.freshStroke w.cue e.onset e.fireTime w.lead
      (s.boosted n (s.restrikeWidth n w.width)) w.width false true w.rerouted := by
  simp only [State.restrikeStroke, State.formStroke, State.pulseWidth_eq]
  rfl

/-! ### Other ENGAGE entries of the channel (R70, R109) -/

/-- The entry waits to engage channel `n`. -/
def FqEntry.waitsToEngage (n : ChanId) (e : FqEntry) : Bool :=
  e.wait.isSome && (match e.work with
    | .engage _ k => decide (k = n)
    | _ => false)

/-- An entry leaves the queue, its cue with result ENGAGED and this PT (R70, R109, R160). -/
def State.engagedAt (pt : PerfTime) (s : State) (e : FqEntry) : State :=
  State.resolve? { s with fq := s.queueWithout e } e.work.cue ([16, 0] ++ leBytes 6 (pt.toNat / 16))

theorem State.engagedAt_pt (pt : PerfTime) (s : State) (e : FqEntry) : (s.engagedAt pt e).scu.pt = s.scu.pt := by
  simp [State.engagedAt]

/-- An ENGAGE entry resolved as ENGAGED has the PT of the moment. -/
theorem State.fqResolve_engaged {s : State} {e : FqEntry} {n : ChanId} (h : e.waitsToEngage n = true) :
    s.fqResolve e .engaged .none false = s.engagedAt s.scu.pt e := by
  obtain ⟨c, k, hw⟩ : ∃ c k, e.work = .engage c k := by
    unfold FqEntry.waitsToEngage at h
    cases hw : e.work <;> simp [hw] at h ⊢
  simp only [State.fqResolve, State.entryResult, State.engagedAt, hw]
  rfl

/-- PT stands still while entries are resolved, so all of them have the same. -/
theorem State.foldl_fqResolve_engaged {n : ChanId} {l : List FqEntry} (engage : ∀ x ∈ l, x.waitsToEngage n = true)
    (s : State) :
    l.foldl (fun u x => u.fqResolve x .engaged .none false) s = l.foldl (State.engagedAt s.scu.pt) s := by
  induction l generalizing s with
  | nil => rfl
  | cons x l ih =>
    obtain ⟨first, rest⟩ := List.forall_mem_cons.1 engage
    rw [List.foldl_cons, State.fqResolve_engaged first, ih rest, State.engagedAt_pt, List.foldl_cons]

/-- The waiting ENGAGE entries of a channel leave the queue as ENGAGED, in queue order. -/
theorem State.resolveEngages_eq (s : State) (n : ChanId) :
    s.resolveEngages n = (s.fq.filter (FqEntry.waitsToEngage n)).foldl (State.engagedAt s.scu.pt) s :=
  State.foldl_fqResolve_engaged (fun _ hx => (List.mem_filter.1 hx).2) s

/-! ### The channel's report entry (R164) -/

theorem Memory.readBytes_append (m : Memory) (a p q : Nat) :
    Memory.readBytes m a (p + q) = Memory.readBytes m a p ++ Memory.readBytes m (a + p) q := by
  induction p generalizing a with
  | zero => simp [Memory.readBytes]
  | succ p ih => rw [Nat.succ_add, Memory.readBytes, ih, Memory.readBytes, Nat.add_right_comm]; rfl

theorem Memory.readBytes_length (m : Memory) (a n : Nat) : (Memory.readBytes m a n).length = n := by
  induction n generalizing a with
  | zero => rfl
  | succ n ih => simp [Memory.readBytes, ih]

/-- A report line, once written, holds the entries of its two channels. -/
theorem State.readBytes_writeReport {s : State} (wf : Memory.wf s.mem = true) (k : Fin 32) :
    Memory.readBytes (s.writeReport k).mem (0x540 + 16 * k.val) 8 = (s.chan (evenChan k)).report ∧
      Memory.readBytes (s.writeReport k).mem (0x540 + 16 * k.val + 8) 8 = (s.chan (oddChan k)).report := by
  have line := readBytes_writeBytes_same wf (a := 0x540 + 16 * k.val)
    ((s.chan (evenChan k)).report ++ (s.chan (oddChan k)).report) (by simp; omega)
  rw [List.length_append, Channel.report_length, Channel.report_length, Memory.readBytes_append] at line
  exact List.append_inj line (by rw [Memory.readBytes_length, Channel.report_length])

/-- A channel is one of the two of its report line. -/
theorem evenChan_or_oddChan (n : ChanId) :
    (n = evenChan (lineOf n) ∧ 8 * n.val = 16 * (lineOf n).val) ∨
      (n = oddChan (lineOf n) ∧ 8 * n.val = 16 * (lineOf n).val + 8) := by
  simp only [evenChan, oddChan, lineOf, Fin.ext_iff]
  omega

/-- The report entry of a channel stands in its line once that is written. -/
theorem State.readBytes_writeReport_lineOf {s : State} (wf : Memory.wf s.mem = true) (n : ChanId) :
    Memory.readBytes (s.writeReport (lineOf n)).mem (0x540 + 8 * n.val) 8 = (s.chan n).report := by
  obtain ⟨even, odd⟩ := State.readBytes_writeReport wf (lineOf n)
  rcases evenChan_or_oddChan n with ⟨own, place⟩ | ⟨own, place⟩
  · rw [place, even, ← own]
  · rw [place, ← Nat.add_assoc, odd, ← own]

/-- Writing a report line writes nothing outside it. -/
theorem State.sameOutside_writeReport (s : State) (k : Fin 32) :
    sameOutside s (s.writeReport k) fun a => 0x540 + 16 * k.val ≤ a ∧ a < 0x540 + 16 * k.val + 16 := by
  intro a out
  refine s.read_poke_ne _ ?_
  rw [List.length_append, Channel.report_length, Channel.report_length]
  omega

/-! ### The grant (R74) -/

/-- A grant to a STRIKE entry (R58, R59, R74). -/
theorem State.grant_strike {s : State} {e : FqEntry} {w : StrikeWork} (hw : e.work = .strike w) (n : ChanId) :
    s.grant e n = State.granted { s with fq := s.queueWithout e, slots := s.slots + 1 } n
      { s.chan n with state := .drive, stroke := some (s.strikeStroke e w n) } := by
  simp only [State.grant, hw]
  rfl

/-- A grant to a RESTRIKE entry (R60, R74). -/
theorem State.grant_restrike {s : State} {e : FqEntry} {w : RestrikeWork} (hw : e.work = .restrike w) (n : ChanId) :
    s.grant e n = State.granted { s with fq := s.queueWithout e, slots := s.slots + 1 } n
      { s.chan n with state := .drive, stroke := some (s.restrikeStroke e w n) } := by
  simp only [State.grant, hw]
  rfl

/-- A grant to an ENGAGE entry, which ends the others that wait for the channel (R70, R74, R110). -/
theorem State.grant_engage {s : State} {e : FqEntry} {c : Option CueRef} {m : ChanId} (hw : e.work = .engage c m)
    (n : ChanId) :
    s.grant e n = (State.granted { s with fq := s.queueWithout e, slots := s.slots + 1 } n
      { s.chan n with
        state := .engage
        engage := some { cue := c, grantDt := s.scu.dt
                         endDt := s.scu.dt + BitVec.ofNat 32 (s.ccfg n).engageWidth } }).resolveEngages n := by
  simp only [State.grant, hw]
  rfl

/-- Settles O29: the grant by the entry's kind, then the report line it writes. -/
theorem aGrantHandsTheEntryToItsChannel : Obligations.AGrantHandsTheEntryToItsChannel := by
  unfold Obligations.AGrantHandsTheEntryToItsChannel
  intro s e n
  refine ⟨fun w hw => ?_, fun w hw => ?_, fun c m hw => ?_, fun c wf => ⟨?_, ?_, ?_⟩⟩
  · rw [State.grant_strike hw, State.strikeStroke_eq]
    rfl
  · rw [State.grant_restrike hw, State.restrikeStroke_eq]
    rfl
  · rw [State.grant_engage hw, State.resolveEngages_eq]
    rfl
  · rfl
  · have entry := State.readBytes_writeReport_lineOf (s := s.setChan n c) wf n
    rw [State.chan_setChan, if_pos rfl] at entry
    exact entry
  · exact State.sameOutside_writeReport (s.setChan n c) (lineOf n)

end Sys2Proof.Machine

/-! PROOFS. Family 04, the fire queue and the drive arbiter. -/

namespace Sys2Proof.Machine
open Sys2Proof

/-! ### A pause that remembers a resting state -/

/-- The part after a power-on reset, but PAUSED with IDLE as the state remembered and one MARK in the fire queue. `driveOk` says
nothing of what PAUSED remembers; `scoreOk` does, and shuts the state out. -/
def pausedFromIdle : State :=
  { State.reset with
    perf := { Perf.atPowerOn with state := .paused, prior := some .idle }
    fq := [{ work := .mark { loc := { block := 0x1000, slot := 0 }, pass := 0 } false, onset := 0, fireTime := 0, wait := none, seq := 0 }]
    fqSeq := 1 }

theorem pausedFromIdle_chan (n : ChanId) : pausedFromIdle.chan n = Channel.atPowerOn := by
  simp [State.chan, pausedFromIdle, State.reset]

theorem pausedFromIdle_fullDrive : pausedFromIdle.fullDrive = 0 := by
  simp [State.fullDrive, pausedFromIdle_chan, Channel.fullDrive, Channel.atPowerOn]

theorem pausedFromIdle_driveOk : pausedFromIdle.driveOk where
  slots := pausedFromIdle_fullDrive.symm
  count := by decide
  limit := pausedFromIdle_fullDrive ▸ Nat.zero_le _
  queue := by
    intro e he
    rw [List.mem_singleton.mp he]
    exact trivial
  chans n := by
    rw [pausedFromIdle_chan]
    exact (by decide : Channel.atPowerOn.fits ChannelConfig.unlatched.cls)
  rest := fun h => absurd h (by decide)

/-- No entry waits, so RESUME's grant test changes nothing: the part is IDLE again with its entry still queued. -/
theorem resume_pausedFromIdle :
    ∃ t, exec .resume pausedFromIdle = .next t ∧ t.perf.state = .idle ∧ t.fq ≠ [] := by
  have taken := onControl_accepted (code := 3) (verdict := resumeVerdict) State.takeResume (s := pausedFromIdle) rfl rfl
  rw [State.takeResume_eq rfl] at taken
  refine ⟨_, taken, ?_, ?_⟩
  · simp only [publish_keeps]
    rfl
  · simp only [publish_keeps]
    exact List.cons_ne_nil _ _

/-- Refutes O60: RESUME takes a part that is PAUSED with IDLE remembered back to rest with an entry in its fire queue. -/
theorem not_fullDriveNeverExceedsTheSlots : ¬ Obligations.FullDriveNeverExceedsTheSlots := by
  unfold Obligations.FullDriveNeverExceedsTheSlots
  intro keeps
  obtain ⟨t, resumed, atRest, queued⟩ := resume_pausedFromIdle
  have ok := keeps .resume pausedFromIdle t pausedFromIdle_driveOk resumed
  exact queued (ok.rest (by rw [atRest]; rfl)).1

end Sys2Proof.Machine

/-! PROOFS. The order of the fire queue and the joining of an entry. -/
namespace Sys2Proof.Machine
open Sys2Proof

/-! ### The order of R64 -/

theorem FqEntry.before_iff {a b : FqEntry} : a.before b = true ↔ a.comesBefore b := by
  simp [FqEntry.before, FqEntry.comesBefore]

theorem FqEntry.mayFollow_iff {a b : FqEntry} : a.mayFollow b ↔ ¬b.comesBefore a := by
  rw [← FqEntry.before_iff, Bool.not_eq_true]

theorem FqEntry.comesBefore.trans {a b c : FqEntry} (h : a.comesBefore b) (k : b.comesBefore c) : a.comesBefore c := by
  unfold FqEntry.comesBefore at *
  omega

theorem FqEntry.comesBefore.asymm {a b : FqEntry} (h : a.comesBefore b) : ¬b.comesBefore a := by
  unfold FqEntry.comesBefore at *
  omega

/-- What comes before an entry comes before all that may follow it. -/
theorem FqEntry.mayFollow.of_comesBefore {a b c : FqEntry} (h : a.comesBefore b) (k : b.mayFollow c) : a.mayFollow c :=
  FqEntry.mayFollow_iff.2 fun back => FqEntry.mayFollow_iff.1 k (back.trans h)

/-! ### The place of a joining entry -/

/-- The place found: behind everything the entry does not come before, and ahead of something it does. -/
theorem fqInsert_split (e : FqEntry) (l : List FqEntry) :
    ∃ pre post, l = pre ++ post ∧ fqInsert e l = pre ++ e :: post ∧ (∀ x ∈ pre, ¬e.comesBefore x) ∧
      ∀ x, post.head? = some x → e.comesBefore x := by
  induction l with
  | nil => exact ⟨[], [], rfl, rfl, nofun, nofun⟩
  | cons x xs ih =>
    by_cases first : e.before x = true
    · refine ⟨[], x :: xs, rfl, by simp [fqInsert, first], nofun, fun y hy => ?_⟩
      obtain rfl := Option.some_inj.1 hy
      exact FqEntry.before_iff.1 first
    · obtain ⟨pre, post, split, placed, behind, ahead⟩ := ih
      refine ⟨x :: pre, post, by rw [split]; rfl, by simp [fqInsert, first, placed], fun y hy => ?_, ahead⟩
      rcases List.mem_cons.1 hy with rfl | hy
      · exact fun before => first (FqEntry.before_iff.2 before)
      · exact behind y hy

theorem fqInsert_perm (e : FqEntry) (l : List FqEntry) : (fqInsert e l).Perm (e :: l) := by
  obtain ⟨pre, post, split, placed, -⟩ := fqInsert_split e l
  rw [placed, split]
  exact List.perm_middle

theorem sublist_fqInsert (e : FqEntry) (l : List FqEntry) : l.Sublist (fqInsert e l) := by
  obtain ⟨pre, post, split, placed, -⟩ := fqInsert_split e l
  rw [placed, split]
  exact (List.Sublist.refl pre).append (List.sublist_cons_self e post)

theorem length_fqInsert (e : FqEntry) (l : List FqEntry) : (fqInsert e l).length = l.length + 1 :=
  (fqInsert_perm e l).length_eq

theorem fqOrdered_fqInsert {e : FqEntry} {l : List FqEntry} (ordered : fqOrdered l) : fqOrdered (fqInsert e l) := by
  obtain ⟨pre, post, rfl, placed, behind, ahead⟩ := fqInsert_split e l
  rw [placed]
  obtain ⟨left, right, across⟩ := List.pairwise_append.1 ordered
  have after : ∀ y ∈ post, e.mayFollow y := by
    cases post with
    | nil => nofun
    | cons x xs =>
      have first : e.comesBefore x := ahead x rfl
      intro y hy
      rcases List.mem_cons.1 hy with rfl | hy
      · exact FqEntry.mayFollow_iff.2 first.asymm
      · exact FqEntry.mayFollow.of_comesBefore first (List.rel_of_pairwise_cons right hy)
  refine List.pairwise_append.2 ⟨left, List.pairwise_cons.2 ⟨after, right⟩, fun x hx y hy => ?_⟩
  rcases List.mem_cons.1 hy with rfl | hy
  · exact FqEntry.mayFollow_iff.2 (behind x hx)
  · exact across x hx y hy

/-! ### Joining -/

/-- The entry that joins for a work. -/
def State.joining (s : State) (w : Work) (onset fireTime : Int) : FqEntry :=
  { work := w, onset := onset, fireTime := max fireTime s.now, wait := none, seq := s.fqSeq }

theorem State.fqJoin_fq (s : State) (w : Work) (onset fireTime : Int) :
    (s.fqJoin w onset fireTime).fq = fqInsert (s.joining w onset fireTime) s.fq := by
  simp only [State.fqJoin]
  split <;> simp [State.joining]

theorem State.fqJoin_fqSeq (s : State) (w : Work) (onset fireTime : Int) :
    (s.fqJoin w onset fireTime).fqSeq = s.fqSeq + 1 := by
  simp only [State.fqJoin]
  split <;> simp

theorem State.grantTest_of_notPaused {s : State} (running : s.perf.state ≠ .paused) :
    s.grantTest = ((s.fq.filter FqEntry.waiting).map FqEntry.seq).foldl State.grantTurn s := by
  rw [State.grantTest, if_neg running]

/-- Settles O27: the place of the insertion, then the order it keeps. -/
theorem anEntryJoinsTheFireQueueInOrder : Obligations.AnEntryJoinsTheFireQueueInOrder := by
  unfold Obligations.AnEntryJoinsTheFireQueueInOrder
  intro s w onset fireTime
  refine ⟨?_, fun ordered => ?_, fun a b => FqEntry.mayFollow_iff, fun _ _ _ => ⟨rfl, rfl⟩, State.grantTest_of_notPaused⟩
  · obtain ⟨pre, post, split, placed, behind, ahead⟩ := fqInsert_split (s.joining w onset fireTime) s.fq
    exact ⟨s.joining w onset fireTime, pre, post, split, (s.fqJoin_fq w onset fireTime).trans placed, rfl, rfl, rfl, rfl,
      behind, ahead⟩
  · rw [State.fqJoin_fq]
    exact fqOrdered_fqInsert ordered

end Sys2Proof.Machine

/-! PROOFS. The queue as entries leave it, and the grant test: what a turn can do, and what the test leaves. -/
namespace Sys2Proof.Machine
open Sys2Proof

/-! ### Numbered queues -/

theorem State.queueNumbered.sublist {s t : State} (numbered : s.queueNumbered) (queue : t.fq.Sublist s.fq)
    (next : t.fqSeq = s.fqSeq) : t.queueNumbered :=
  ⟨numbered.1.sublist (queue.map _), fun e he => by rw [next]; exact numbered.2 e (queue.subset he)⟩

/-- In a numbered queue an entry is told by its number. -/
theorem State.queueNumbered.eq_of_seq {s : State} (numbered : s.queueNumbered) {a b : FqEntry} (ha : a ∈ s.fq)
    (hb : b ∈ s.fq) (same : a.seq = b.seq) : a = b := List.inj_on_of_nodup_map numbered.1 ha hb same

theorem State.seq_of_fqFind {s : State} {q : Nat} {e : FqEntry} (found : s.fqFind q = some e) : e.seq = q :=
  beq_iff_eq.1 (List.find?_some (p := fun x : FqEntry => x.seq == q) found)

theorem State.fqFind_of_mem {s : State} (numbered : s.queueNumbered) {e : FqEntry} (he : e ∈ s.fq) :
    s.fqFind e.seq = some e := by
  cases found : s.fqFind e.seq with
  | none => exact absurd (beq_self_eq_true e.seq) (List.find?_eq_none.1 found e he)
  | some x => rw [numbered.eq_of_seq (State.mem_of_fqFind found) he (State.seq_of_fqFind found)]

/-! ### Entries that leave the queue -/

@[simp] theorem State.resolve?_fq (s : State) (c : Option CueRef) (r : List Byte) : (s.resolve? c r).fq = s.fq := by
  cases c <;> simp [State.resolve?]

theorem State.fqResolve_fq (s : State) (e : FqEntry) (o : CueOutcome) (c : DropCause) (b : Bool) :
    (s.fqResolve e o c b).fq = s.queueWithout e := by
  simp [State.fqResolve, State.fqRemove]

/-! Passes close, and none opens, as entries end (R36, R38). -/

theorem State.closePass_passes (s : State) (p : Nat) : (s.closePass p).passes.length ≤ s.passes.length := by
  unfold State.closePass
  split
  · split
    · exact List.length_filter_le _ _
    · exact Nat.le_refl _
  · exact Nat.le_refl _

theorem State.mapPass_passes (s : State) (p : Nat) (f : Pass → Pass) : (s.mapPass p f).passes.length = s.passes.length := by
  simp [State.mapPass]

@[simp] theorem State.endItem_passes (s : State) (p : Nat) : (s.endItem p).passes.length ≤ s.passes.length :=
  (State.closePass_passes _ p).trans (State.mapPass_passes s p _).le

@[simp] theorem State.markDone_passes (s : State) (p : Nat) : (s.markDone p).passes.length ≤ s.passes.length :=
  (State.closePass_passes _ p).trans (State.mapPass_passes s p _).le

@[simp] theorem State.leavePass_passes (s : State) : s.leavePass.passes.length ≤ s.passes.length := by
  unfold State.leavePass
  split
  · exact State.markDone_passes _ _
  · exact Nat.le_refl _

@[simp] theorem State.resolve_passes (s : State) (c : CueRef) (r : List Byte) :
    (s.resolve c r).passes.length ≤ s.passes.length := by
  unfold State.resolve
  exact (State.endItem_passes _ _).trans (by simp)

@[simp] theorem State.resolve?_passes (s : State) (c : Option CueRef) (r : List Byte) :
    (s.resolve? c r).passes.length ≤ s.passes.length := by
  cases c with
  | none => exact Nat.le_refl _
  | some c => exact s.resolve_passes c r

theorem State.fqResolve_passes (s : State) (e : FqEntry) (o : CueOutcome) (c : DropCause) (b : Bool) :
    (s.fqResolve e o c b).passes.length ≤ s.passes.length := State.resolve?_passes _ _ _

/-- Entries resolved one after another leave those with none of their numbers. -/
theorem State.foldl_fqResolve_fq (l : List FqEntry) (s : State) (o : CueOutcome) (c : DropCause) (b : Bool) :
    (l.foldl (fun u e => u.fqResolve e o c b) s).fq = s.fq.filter fun x => l.all fun e => x.seq != e.seq := by
  induction l generalizing s with
  | nil => simp
  | cons e l ih => rw [List.foldl_cons, ih, State.fqResolve_fq, List.filter_filter]; simp [Bool.and_comm]

theorem State.resolveEngages_sublist (s : State) (n : ChanId) : (s.resolveEngages n).fq.Sublist s.fq := by
  rw [State.resolveEngages, State.foldl_fqResolve_fq]
  exact List.filter_sublist

/-- Only waiting entries leave a numbered queue as ENGAGED. -/
theorem State.mem_resolveEngages {s : State} (numbered : s.queueNumbered) (n : ChanId) {e : FqEntry} (he : e ∈ s.fq)
    (still : e.wait = none) : e ∈ (s.resolveEngages n).fq := by
  rw [State.resolveEngages, State.foldl_fqResolve_fq, List.mem_filter]
  refine ⟨he, List.all_eq_true.2 fun x hx => bne_iff_ne.2 fun same => ?_⟩
  obtain ⟨hx, waits⟩ := List.mem_filter.1 hx
  rw [← numbered.eq_of_seq he hx same, still] at waits
  exact absurd waits Bool.false_ne_true

/-! ### One grant -/

theorem State.granted_chan (s : State) (n : ChanId) (c : Channel) (m : ChanId) :
    (s.granted n c).chan m = if m = n then c else s.chan m := by
  rw [← State.chan_setChan]
  simp [State.granted, State.chan]

theorem State.writesOnly_granted (s : State) (n : ChanId) (c : Channel) {w : Nat → Prop}
    (report : ∀ a, 0x540 ≤ a → a < 0x740 → w a) : s.writesOnly (s.granted n c) w where
  passes p hp := ⟨p, by simpa using hp, rfl⟩
  mem a out _ := by
    refine (State.sameOutside_writeReport (s.setChan n c) (lineOf n)) a fun line => out (report a ?_ ?_)
    · omega
    · have := (lineOf n).isLt
      omega
  wf h := State.wf_poke _ _ _ h

/-- A channel an entry can be granted on is IDLE, the entry a stroke, or RELEASED, the entry its ENGAGE (R72). -/
theorem State.firingChannel_some {s : State} {w : Work} {n : ChanId} (fires : s.firingChannel w = some n) :
    ((s.chan n).state = .idle ∧ ((∃ x, w = .strike x) ∨ ∃ x, w = .restrike x)) ∨
      ((s.chan n).state = .released ∧ ∃ c, w = .engage c n) := by
  cases w with
  | strike x =>
    refine .inl ⟨?_, .inl ⟨x, rfl⟩⟩
    simp only [State.firingChannel] at fires
    repeat' split at fires
    all_goals simp_all
  | restrike x =>
    refine .inl ⟨?_, .inr ⟨x, rfl⟩⟩
    simp only [State.firingChannel] at fires
    split at fires <;> simp_all
  | engage c m =>
    simp only [State.firingChannel] at fires
    split at fires
    next released =>
      obtain rfl := Option.some_inj.1 fires
      exact .inr ⟨released, c, rfl⟩
    next => cases fires
  | release | rotor | mark => cases fires

/-- No channel can fire a STRIKE entry: neither its own nor the partner is IDLE (R72). -/
theorem State.firingChannel_strike_none {s : State} {x : StrikeWork} :
    s.firingChannel (.strike x) = none ↔ (s.chan x.chan).state ≠ .idle ∧
      ∀ p, (s.ccfg x.chan).partner = some p → (s.chan p).state ≠ .idle := by
  by_cases idle : (s.chan x.chan).state = .idle
  · simp [State.firingChannel, idle]
  · cases partner : (s.ccfg x.chan).partner <;> simp [State.firingChannel, partner, idle]

theorem State.firingChannel_restrike_none {s : State} {x : RestrikeWork} :
    s.firingChannel (.restrike x) = none ↔ (s.chan x.chan).state ≠ .idle := by simp [State.firingChannel]

theorem State.firingChannel_engage_none {s : State} {c : Option CueRef} {m : ChanId} :
    s.firingChannel (.engage c m) = none ↔ (s.chan m).state ≠ .released := by simp [State.firingChannel]

/-- What grants alone make of a state. -/
structure State.grantsInto (s t : State) : Prop where
  frame  : t = { s with mem := t.mem, passes := t.passes, fq := t.fq, slots := t.slots, chans := t.chans }
  queue  : t.fq.Sublist s.fq
  passes : t.passes.length ≤ s.passes.length
  slots  : s.slots ≤ t.slots
  limit  : s.slots ≤ effectiveSlots s.csm.level s.global.slotCount →
             t.slots ≤ effectiveSlots s.csm.level s.global.slotCount
  chans  : ∀ n, grantedFrom s (s.chan n) (t.chan n)
  writes : s.writesOnly t fun a => queuedResult s a ∨ (0x540 ≤ a ∧ a < 0x740)

theorem State.grantsInto.refl (s : State) : s.grantsInto s :=
  ⟨rfl, .refl _, Nat.le_refl _, Nat.le_refl _, id, fun _ => .inl rfl, .refl _ _⟩

/-- A channel that has been granted is not granted again. -/
theorem grantedFrom.trans {s t : State} (scu : t.scu = s.scu) {a b c : Channel} (h : grantedFrom s a b)
    (k : grantedFrom t b c) : grantedFrom s a c := by
  unfold grantedFrom at k
  rw [scu] at k
  rcases k with rfl | ⟨idle, rest⟩ | ⟨released, rest⟩
  · exact h
  · rcases h with rfl | ⟨-, hb, -⟩ | ⟨-, hb, -⟩
    · exact .inr (.inl ⟨idle, rest⟩)
    all_goals rw [hb] at idle; cases idle
  · rcases h with rfl | ⟨-, hb, -⟩ | ⟨-, hb, -⟩
    · exact .inr (.inr ⟨released, rest⟩)
    all_goals rw [hb] at released; cases released

theorem State.grantsInto.same {s t : State} (h : s.grantsInto t) :
    t.scu = s.scu ∧ t.csm = s.csm ∧ t.perf = s.perf ∧ t.fqSeq = s.fqSeq := by
  rw [h.frame]
  exact ⟨rfl, rfl, rfl, rfl⟩

theorem queuedResult.of_sublist {s t : State} (queue : t.fq.Sublist s.fq) {a : Nat} : queuedResult t a → queuedResult s a :=
  fun ⟨e, he, area⟩ => ⟨e, queue.subset he, area⟩

theorem State.grantsInto.trans {s t u : State} (h : s.grantsInto t) (k : t.grantsInto u) : s.grantsInto u := by
  obtain ⟨scu, csm, perf, -⟩ := h.same
  have limit := k.limit
  rw [csm, State.global_of_perf perf] at limit
  refine ⟨?_, k.queue.trans h.queue, k.passes.trans h.passes, h.slots.trans k.slots, limit ∘ h.limit,
    fun n => (h.chans n).trans scu (k.chans n), ?_⟩
  · rw [k.frame, h.frame]
  · exact h.writes.trans (k.writes.mono fun a => Or.imp (queuedResult.of_sublist h.queue) id)

/-- An entry leaves the queue, a slot is taken and a free channel put into drive. -/
theorem State.grantsInto_granted {s : State} {n : ChanId} {c : Channel} (e : FqEntry)
    (free : s.slots < effectiveSlots s.csm.level s.global.slotCount) (puts : grantedFrom s (s.chan n) c) :
    s.grantsInto (State.granted { s with fq := s.queueWithout e, slots := s.slots + 1 } n c) where
  frame := by apply State.eq_of_fields <;> simp
  queue := by simp
  passes := by simp
  slots := by simp
  limit _ := by simpa using free
  chans m := by
    rw [State.granted_chan]
    split
    next same => rw [same]; exact puts
    next => exact .inl rfl
  writes := State.writesOnly.after (State.writesOnly_granted _ n c fun _ lo hi => .inr ⟨lo, hi⟩) rfl rfl

theorem State.grantsInto_resolveEngages (s : State) (n : ChanId) : s.grantsInto (s.resolveEngages n) where
  frame := by apply State.eq_of_fields <;> simp
  queue := s.resolveEngages_sublist n
  passes := List.foldlRecOn (motive := fun u : State => u.passes.length ≤ s.passes.length) _ _ (Nat.le_refl _)
    fun u hu e _ => (u.fqResolve_passes e _ _ _).trans hu
  slots := by simp
  limit := by simp
  chans m := .inl (by simp [State.chan])
  writes := State.writesOnly.foldl _ s fun u e he => u.writesOnly_fqResolve _ _ _ fun c hc _ area =>
    .inl ⟨e, List.mem_of_mem_filter he, c, hc, area⟩

/-- A grant made where it can be made. -/
theorem State.grantsInto_grant {s : State} {e : FqEntry} {n : ChanId}
    (free : s.slots < effectiveSlots s.csm.level s.global.slotCount) (fires : s.firingChannel e.work = some n) :
    s.grantsInto (s.grant e n) := by
  rcases State.firingChannel_some fires with ⟨idle, ⟨x, hw⟩ | ⟨x, hw⟩⟩ | ⟨released, c, hw⟩
  · rw [State.grant_strike hw]
    exact State.grantsInto_granted e free (.inr (.inl ⟨idle, rfl, _, rfl, rfl, rfl, rfl, rfl⟩))
  · rw [State.grant_restrike hw]
    exact State.grantsInto_granted e free (.inr (.inl ⟨idle, rfl, _, rfl, rfl, rfl, rfl, rfl⟩))
  · rw [State.grant_engage hw]
    exact (State.grantsInto_granted e free (.inr (.inr ⟨released, rfl, _, rfl, rfl⟩))).trans
      (State.grantsInto_resolveEngages _ n)

/-- The entry granted is in the queue no more. -/
theorem State.grant_queue {s : State} {e : FqEntry} {n : ChanId} (fires : s.firingChannel e.work = some n) :
    (s.grant e n).fq.Sublist (s.queueWithout e) := by
  rcases State.firingChannel_some fires with ⟨-, ⟨x, hw⟩ | ⟨x, hw⟩⟩ | ⟨-, c, hw⟩
  · rw [State.grant_strike hw]; simp
  · rw [State.grant_restrike hw]; simp
  · rw [State.grant_engage hw]
    exact (State.resolveEngages_sublist _ n).trans (by simp)

/-- In a numbered queue a grant takes its entry and other waiting ones. -/
theorem State.mem_grant {s : State} (numbered : s.queueNumbered) {e x : FqEntry} {n : ChanId}
    (fires : s.firingChannel e.work = some n) (hx : x ∈ s.fq) (still : x.wait = none) (other : x.seq ≠ e.seq) :
    x ∈ (s.grant e n).fq := by
  have kept : x ∈ s.queueWithout e := List.mem_filter.2 ⟨hx, bne_iff_ne.2 other⟩
  rcases State.firingChannel_some fires with ⟨-, ⟨w, hw⟩ | ⟨w, hw⟩⟩ | ⟨-, c, hw⟩
  · rw [State.grant_strike hw]; simpa using kept
  · rw [State.grant_restrike hw]; simpa using kept
  · rw [State.grant_engage hw]
    exact State.mem_resolveEngages (numbered.sublist (by simp) (by simp)) n (by simpa using kept) still

/-! ### One turn -/

/-- An entry's turn grants it, or changes nothing: the entry has left, no slot is free, or no channel can fire it (R73). -/
theorem State.grantTurn_cases (s : State) (q : Nat) :
    (∃ e n, s.fqFind q = some e ∧ s.slots < effectiveSlots s.csm.level s.global.slotCount ∧
        s.firingChannel e.work = some n ∧ s.grantTurn q = s.grant e n) ∨
      s.grantTurn q = s ∧ (s.slots < effectiveSlots s.csm.level s.global.slotCount →
        ∀ e, s.fqFind q = some e → s.firingChannel e.work = none) := by
  unfold State.grantTurn
  split
  next e found =>
    split
    next free =>
      split
      next n fires => exact .inl ⟨e, n, found, free, fires, rfl⟩
      next idle => exact .inr ⟨rfl, fun _ x hx => by rw [← Option.some_inj.1 (found.symm.trans hx)]; exact idle⟩
    next full => exact .inr ⟨rfl, fun free => absurd free full⟩
  next gone => exact .inr ⟨rfl, fun _ e found => by rw [gone] at found; cases found⟩

theorem State.grantsInto_grantTurn (s : State) (q : Nat) : s.grantsInto (s.grantTurn q) := by
  rcases s.grantTurn_cases q with ⟨e, n, -, free, fires, turn⟩ | ⟨turn, -⟩
  · rw [turn]; exact State.grantsInto_grant free fires
  · rw [turn]; exact .refl s

theorem State.grantTurn_of_full {s : State} (full : effectiveSlots s.csm.level s.global.slotCount ≤ s.slots) (q : Nat) :
    s.grantTurn q = s := by
  rcases s.grantTurn_cases q with ⟨-, -, -, free, -, -⟩ | ⟨turn, -⟩
  · omega
  · exact turn

/-- An entry that waits for no slot is not taken by another's turn. -/
theorem State.mem_grantTurn {s : State} (numbered : s.queueNumbered) {q : Nat} {x : FqEntry} (hx : x ∈ s.fq)
    (still : x.wait = none) (other : x.seq ≠ q) : x ∈ (s.grantTurn q).fq := by
  rcases s.grantTurn_cases q with ⟨e, n, found, -, fires, turn⟩ | ⟨turn, -⟩
  · rw [turn]
    exact State.mem_grant numbered fires hx still (by rw [State.seq_of_fqFind found]; exact other)
  · rwa [turn]

theorem State.grantsInto.numbered {s t : State} (h : s.grantsInto t) (numbered : s.queueNumbered) : t.queueNumbered :=
  numbered.sublist h.queue h.same.2.2.2

/-- An entry no channel can fire stays so: grants free no channel. -/
theorem State.grantsInto.firingChannel_none {s t : State} (h : s.grantsInto t) {w : Work}
    (none_ : s.firingChannel w = none) : t.firingChannel w = none := by
  obtain ⟨-, -, perf, -⟩ := h.same
  have idle (m : ChanId) (hm : (t.chan m).state = .idle) : (s.chan m).state = .idle := by
    rcases h.chans m with same | ⟨idle, -⟩ | ⟨-, driven, -⟩
    · rwa [← same]
    · exact idle
    · rw [driven] at hm; cases hm
  have released (m : ChanId) (hm : (t.chan m).state = .released) : (s.chan m).state = .released := by
    rcases h.chans m with same | ⟨-, driven, -⟩ | ⟨released, -⟩
    · rwa [← same]
    · rw [driven] at hm; cases hm
    · exact released
  cases w with
  | strike x =>
    rw [State.firingChannel_strike_none] at none_ ⊢
    rw [State.ccfg_of_perf perf]
    exact ⟨mt (idle _) none_.1, fun p hp => mt (idle p) (none_.2 p hp)⟩
  | restrike x =>
    rw [State.firingChannel_restrike_none] at none_ ⊢
    exact mt (idle _) none_
  | engage c m =>
    rw [State.firingChannel_engage_none] at none_ ⊢
    exact mt (released m) none_
  | release | rotor | mark => rfl

/-! ### The turns of a grant test -/

theorem State.grantsInto_turns (l : List Nat) (s : State) : s.grantsInto (l.foldl State.grantTurn s) := by
  induction l generalizing s with
  | nil => exact .refl s
  | cons q l ih => exact (s.grantsInto_grantTurn q).trans (ih _)

theorem State.mem_turns {l : List Nat} {s : State} (numbered : s.queueNumbered) {x : FqEntry} (hx : x ∈ s.fq)
    (still : x.wait = none) (other : x.seq ∉ l) : x ∈ (l.foldl State.grantTurn s).fq := by
  induction l generalizing s with
  | nil => exact hx
  | cons q l ih =>
    rw [List.mem_cons, not_or] at other
    exact ih ((s.grantsInto_grantTurn q).numbered numbered) (State.mem_grantTurn numbered hx still other.1) other.2

theorem State.turns_of_full {l : List Nat} {s : State} (full : effectiveSlots s.csm.level s.global.slotCount ≤ s.slots) :
    l.foldl State.grantTurn s = s := by
  induction l with
  | nil => rfl
  | cons q l ih => rw [List.foldl_cons, State.grantTurn_of_full full, ih]

/-- An entry that had its turn and still stands with a slot free found no channel, at its turn and since. -/
theorem State.turns_leave {l : List Nat} {s : State} (numbered : s.queueNumbered) {e : FqEntry} (turn : e.seq ∈ l) :
    let t := l.foldl State.grantTurn s
    e ∈ t.fq → t.slots < effectiveSlots s.csm.level s.global.slotCount → t.firingChannel e.work = none := by
  induction l generalizing s with
  | nil => cases turn
  | cons q l ih =>
    intro t left free
    have first := s.grantsInto_grantTurn q
    have rest : (s.grantTurn q).grantsInto t := State.grantsInto_turns l _
    obtain ⟨-, csm, perf, -⟩ := first.same
    by_cases later : e.seq ∈ l
    · exact ih (first.numbered numbered) later left (by rwa [csm, State.global_of_perf perf])
    · obtain rfl : e.seq = q := (List.mem_cons.1 turn).resolve_right later
      have found := State.fqFind_of_mem numbered (first.queue.subset (rest.queue.subset left))
      rcases s.grantTurn_cases e.seq with ⟨x, n, found', -, fires, granted⟩ | ⟨same, unfired⟩
      · obtain rfl := Option.some_inj.1 (found'.symm.trans found)
        have gone := (State.grant_queue fires).subset (granted ▸ rest.queue.subset left)
        exact absurd (List.mem_filter.1 gone).2 (by simp)
      · exact rest.firingChannel_none
          (by rw [same]; exact unfired (lt_of_le_of_lt (first.slots.trans rest.slots) free) e found)

/-! ### The grant test -/

theorem State.grantsInto_grantTest (s : State) : s.grantsInto s.grantTest := by
  unfold State.grantTest
  split
  · exact .refl s
  · exact State.grantsInto_turns _ s

theorem State.grantTest_of_noneWaits {s : State} (none_ : ∀ e ∈ s.fq, e.wait = none) : s.grantTest = s := by
  have empty : s.fq.filter FqEntry.waiting = [] :=
    List.filter_eq_nil_iff.2 fun e he => by simp [FqEntry.waiting, none_ e he]
  unfold State.grantTest
  split
  · rfl
  · rw [empty]; rfl

theorem State.mem_grantTest {s : State} (numbered : s.queueNumbered) {e : FqEntry} (he : e ∈ s.fq) (still : e.wait = none) :
    e ∈ s.grantTest.fq := by
  unfold State.grantTest
  split
  · exact he
  · refine State.mem_turns numbered he still fun turn => ?_
    obtain ⟨x, hx, same⟩ := List.mem_map.1 turn
    obtain ⟨hx, waits⟩ := List.mem_filter.1 hx
    rw [numbered.eq_of_seq hx he same, FqEntry.waiting, still] at waits
    exact absurd waits Bool.false_ne_true

/-- Settles O28: a grant test is a row of turns, each of which grants or changes nothing. -/
theorem aGrantTestGrantsWhatCanBeGranted : Obligations.AGrantTestGrantsWhatCanBeGranted := by
  unfold Obligations.AGrantTestGrantsWhatCanBeGranted
  intro s
  have grants := s.grantsInto_grantTest
  refine ⟨?_, grants.frame, grants.queue, fun e he still numbered => State.mem_grantTest numbered he still, grants.slots,
    grants.limit, grants.chans, fun numbered running e left waits free => ?_, fun a out => ?_⟩
  · rintro (paused | full | none_)
    · exact if_pos paused
    · by_cases paused : s.perf.state = .paused
      · exact if_pos paused
      · rw [State.grantTest_of_notPaused paused]
        exact State.turns_of_full full
    · exact State.grantTest_of_noneWaits none_
  · have turn : e.seq ∈ (s.fq.filter FqEntry.waiting).map FqEntry.seq :=
      List.mem_map_of_mem (List.mem_filter.2 ⟨grants.queue.subset left, waits⟩)
    rw [State.grantTest_of_notPaused running] at left free ⊢
    exact State.turns_leave numbered turn left free
  · simp only [not_or] at out
    obtain ⟨area, count, report⟩ := out
    exact grants.writes.mem a (fun h => h.elim area report) count

end Sys2Proof.Machine

/-! PROOFS. The ranges: one rule for each field that has one, and what the queue, the channels and the rotor leave of them. -/
namespace Sys2Proof.Machine
open Sys2Proof

theorem State.fits.same {s t : State} (h : s.fits) (kept : t.fq = s.fq ∧ t.passes = s.passes ∧
    t.scu.agenda = s.scu.agenda ∧ t.reader.stack = s.reader.stack) : t.fits := by
  obtain ⟨fq, passes, agenda, stack⟩ := kept
  exact ⟨by rw [fq]; exact h.queue, by rw [passes]; exact h.passes, by rw [agenda]; exact h.agenda, by rw [stack]; exact h.stack⟩

theorem State.periodsOk.same {s t : State} (h : s.periodsOk) (kept : t.scu.period = s.scu.period ∧
    t.scu.tempo = s.scu.tempo ∧ t.scu.agenda = s.scu.agenda ∧ t.perf.latch = s.perf.latch) : t.periodsOk := by
  obtain ⟨period, tempo, agenda, latch⟩ := kept
  have global_ : t.global = s.global := by simp only [State.global, latch]
  exact ⟨by rw [period]; exact h.period, by rw [tempo]; exact h.base, by rw [tempo]; exact h.ramp,
    by rw [agenda]; exact h.agenda, by rw [global_]; exact h.initial⟩

/-- Every range that `r` keeps, `s` keeps. -/
structure State.keepsRanges (r s : State) : Prop where
  fits    : r.fits → s.fits
  queue   : r.queueNumbered ∧ fqOrdered r.fq → s.queueNumbered ∧ fqOrdered s.fq
  chans   : r.trimsLatched ∧ (∀ n, (r.chan n).inRange) → s.trimsLatched ∧ ∀ n, (s.chan n).inRange
  periods : r.periodsOk → s.periodsOk

theorem State.keepsRanges.refl (r : State) : r.keepsRanges r := ⟨id, id, id, id⟩

/-! ### One rule for each kind of change -/

/-- A grant changes no count, heat or trim. -/
theorem grantedFrom.inRange {u : State} {a b : Channel} (g : grantedFrom u a b) (ok : a.inRange) : b.inRange := by
  rcases g with rfl | ⟨-, hb, -⟩ | ⟨-, hb, -⟩
  · exact ok
  all_goals rw [hb]; exact ok

theorem learnedTrim_inRange {trim : Int} {flight lead : Nat} :
    -2000 ≤ learnedTrim trim flight lead ∧ learnedTrim trim flight lead ≤ 2000 := by
  simp only [learnedTrim, clampInt]
  omega

section
variable {r s t : State} (h : r.keepsRanges s)
include h

/-- Collections that only lose, and everything else with a range as it was. -/
theorem State.keepsRanges.less (kept : t.fq.Sublist s.fq ∧ t.fqSeq = s.fqSeq ∧ t.passes.length ≤ s.passes.length ∧
    t.scu.period = s.scu.period ∧ t.scu.tempo = s.scu.tempo ∧ t.scu.agenda.Sublist s.scu.agenda ∧ t.chans = s.chans ∧
    t.perf.latch = s.perf.latch ∧ t.reader.stack.length ≤ s.reader.stack.length) : r.keepsRanges t := by
  obtain ⟨fq, fqSeq, passes, period, tempo, agenda, chans, latch, stack⟩ := kept
  have ccfg (n : ChanId) : t.ccfg n = s.ccfg n := by simp only [State.ccfg, latch]
  have global_ : t.global = s.global := by simp only [State.global, latch]
  refine ⟨fun hr => ?_, fun hr => ?_, fun hr => ?_, fun hr => ?_⟩
  · obtain ⟨h1, h2, h3, h4⟩ := h.fits hr
    exact ⟨fq.length_le.trans h1, passes.trans h2, agenda.length_le.trans h3, stack.trans h4⟩
  · obtain ⟨numbered, ordered⟩ := h.queue hr
    exact ⟨numbered.sublist fq fqSeq, ordered.sublist fq⟩
  · obtain ⟨trims, ranges⟩ := h.chans hr
    exact ⟨fun n => by rw [ccfg]; exact trims n, fun n => by simp only [State.chan, chans]; exact ranges n⟩
  · obtain ⟨h1, h2, h3, h4, h5⟩ := h.periods hr
    exact ⟨by rwa [period], by rwa [tempo], by rwa [tempo], fun e he => h4 e (agenda.subset he), by rwa [global_]⟩

/-- A change of one channel that keeps it in its ranges. -/
theorem State.keepsRanges.setChan (n : ChanId) {c : Channel} (ok : (s.chan n).inRange → c.inRange) :
    r.keepsRanges (s.setChan n c) where
  fits hr := (h.fits hr).same ⟨rfl, rfl, rfl, rfl⟩
  queue hr := h.queue hr
  chans hr := by
    obtain ⟨trims, ranges⟩ := h.chans hr
    refine ⟨trims, fun m => ?_⟩
    rw [State.chan_setChan]
    split
    · exact ok (ranges n)
    · exact ranges m
  periods hr := (h.periods hr).same ⟨rfl, rfl, rfl, rfl⟩

/-- A change of a channel that leaves its heat, trim and counts. -/
theorem State.keepsRanges.touch (n : ChanId) {c : Channel} (same : c.heat = (s.chan n).heat ∧ c.trim = (s.chan n).trim ∧
    c.misses = (s.chan n).misses ∧ c.strays = (s.chan n).strays ∧ c.hits = (s.chan n).hits) :
    r.keepsRanges (s.setChan n c) := by
  obtain ⟨heat, trim, misses, strays, hits⟩ := same
  exact h.setChan n fun ok => by rwa [Channel.inRange, heat, trim, misses, strays, hits]

theorem State.keepsRanges.setChanState (n : ChanId) (x : ChanState) : r.keepsRanges (s.setChanState n x) :=
  h.touch n (by simp)

/-- A change of the entries of the queue that leaves their numbers and their places. -/
theorem State.keepsRanges.mapFq {f : FqEntry → FqEntry}
    (same : ∀ e, (f e).seq = e.seq ∧ (f e).fireTime = e.fireTime ∧ (f e).onset = e.onset ∧ (f e).work = e.work) :
    r.keepsRanges (s.setFq (s.fq.map f)) where
  fits hr := ⟨by simpa using (h.fits hr).queue, (h.fits hr).passes, (h.fits hr).agenda, (h.fits hr).stack⟩
  queue hr := by
    obtain ⟨⟨nodup, below⟩, ordered⟩ := h.queue hr
    have seq : FqEntry.seq ∘ f = FqEntry.seq := funext fun e => (same e).1
    have before (a b : FqEntry) : (f a).before (f b) = a.before b := by
      simp only [FqEntry.before, (same a).2, (same b).2]
    refine ⟨⟨by simpa [seq] using nodup, fun e he => ?_⟩, ?_⟩
    · obtain ⟨x, hx, rfl⟩ := List.mem_map.1 he
      rw [(same x).1]
      exact below x hx
    · refine List.pairwise_map.2 (ordered.imp fun {a b} follows => ?_)
      rw [FqEntry.mayFollow, before]
      exact follows
  chans hr := h.chans hr
  periods hr := (h.periods hr).same ⟨rfl, rfl, rfl, rfl⟩

/-- A joining entry takes the next number, and its place in the order; the queue must have room for it. -/
theorem State.keepsRanges.fqJoin (room : s.fqRoom = true) (w : Work) (onset fire : Int) :
    r.keepsRanges (s.fqJoin w onset fire) where
  fits hr := by
    have room : s.fq.length < 96 := of_decide_eq_true room
    obtain ⟨-, passes, agenda, stack⟩ := h.fits hr
    have passes' : (s.fqJoin w onset fire).passes.length = s.passes.length := by
      simp only [State.fqJoin]
      split <;> simp [State.addItem, State.mapPass]
    exact ⟨by rw [State.fqJoin_fq, length_fqInsert]; exact room, by rw [passes']; exact passes, by simpa using agenda,
      by simpa using stack⟩
  queue hr := by
    obtain ⟨⟨nodup, below⟩, ordered⟩ := h.queue hr
    rw [State.queueNumbered, State.fqJoin_fq, State.fqJoin_fqSeq]
    refine ⟨⟨?_, fun e he => ?_⟩, fqOrdered_fqInsert ordered⟩
    · refine (((fqInsert_perm _ _).map FqEntry.seq).nodup_iff).2 (List.nodup_cons.2 ⟨fun used => ?_, nodup⟩)
      obtain ⟨x, hx, same⟩ := List.mem_map.1 used
      exact absurd (below x hx) (by rw [same]; exact Nat.lt_irrefl _)
    · rcases mem_fqInsert.1 he with rfl | he
      · exact Nat.lt_succ_self _
      · exact Nat.lt_succ_of_lt (below e he)
  chans hr := by simpa [State.chan, State.trimsLatched, State.ccfg] using h.chans hr
  periods hr := by
    obtain ⟨h1, h2, h3, h4, h5⟩ := h.periods hr
    constructor <;> simpa [State.global]

/-- A change of the score: the period and what may become it stay periods, and the agenda keeps its size. -/
theorem State.keepsRanges.setScu {x : Scu} (length : r.fits → x.agenda.length ≤ 4)
    (ok : r.periodsOk → isPeriod x.period ∧ isPeriod x.tempo.base ∧ (∀ q ∈ x.tempo.ramp, q.ok) ∧
      ∀ e ∈ x.agenda, e.targetOk = true) : r.keepsRanges (s.setScu x) where
  fits hr := ⟨(h.fits hr).queue, (h.fits hr).passes, length hr, (h.fits hr).stack⟩
  queue hr := h.queue hr
  chans hr := h.chans hr
  periods hr := by
    obtain ⟨period, base, ramp, agenda⟩ := ok hr
    exact ⟨period, base, ramp, agenda, (h.periods hr).initial⟩

/-- The reader goes on, its loop stack no higher than four frames. -/
theorem State.keepsRanges.setReader {x : Reader} (stack : r.fits → x.stack.length ≤ 4) : r.keepsRanges (s.setReader x) where
  fits hr := ⟨(h.fits hr).queue, (h.fits hr).passes, (h.fits hr).agenda, stack hr⟩
  queue hr := h.queue hr
  chans hr := h.chans hr
  periods hr := (h.periods hr).same ⟨rfl, rfl, rfl, rfl⟩

omit h in
/-- All channels changed, each kept in its ranges, and the rest kept. -/
theorem State.keepsRanges.setChans (rest : r.keepsRanges (t.setChans s.chans))
    (chans : r.trimsLatched ∧ (∀ n, (r.chan n).inRange) → ∀ n, (t.chan n).inRange) : r.keepsRanges t :=
  ⟨fun hr => (rest.fits hr).same ⟨rfl, rfl, rfl, rfl⟩, rest.queue, fun hr => ⟨(rest.chans hr).1, chans hr⟩,
    fun hr => (rest.periods hr).same ⟨rfl, rfl, rfl, rfl⟩⟩

theorem State.keepsRanges.grants (g : s.grantsInto t) : r.keepsRanges t := by
  have frame : t.scu = s.scu ∧ t.perf = s.perf ∧ t.fqSeq = s.fqSeq ∧ t.reader = s.reader := by
    rw [g.frame]
    exact ⟨rfl, rfl, rfl, rfl⟩
  obtain ⟨scu, perf, fqSeq, reader⟩ := frame
  exact State.keepsRanges.setChans (s := s) (h.less (by simp [scu, perf, fqSeq, reader, g.queue, g.passes]))
    fun hr n => (g.chans n).inRange ((h.chans hr).2 n)

/-- The reader goes on and keeps its loop stack. -/
theorem State.keepsRanges.read {x : Reader} (same : x.stack = s.reader.stack) : r.keepsRanges (s.setReader x) :=
  h.setReader fun hr => by rw [same]; exact (h.fits hr).stack

theorem State.keepsRanges.setPasses {x : List Pass} (length : r.fits → x.length ≤ 8) : r.keepsRanges (s.setPasses x) where
  fits hr := ⟨(h.fits hr).queue, length hr, (h.fits hr).agenda, (h.fits hr).stack⟩
  queue hr := h.queue hr
  chans hr := h.chans hr
  periods hr := (h.periods hr).same ⟨rfl, rfl, rfl, rfl⟩

theorem State.keepsRanges.setPerf {x : Perf} (same : x.latch = s.perf.latch) : r.keepsRanges (s.setPerf x) :=
  h.less (by simp [same])

theorem State.keepsRanges.handFault (f : FaultInfo) : r.keepsRanges (s.handFault f) := h.less (by simp)

theorem State.keepsRanges.setFlag (f : AttnFlag) : r.keepsRanges (s.setFlag f) := h.less (by simp)

theorem State.keepsRanges.writeResult (l : CueLoc) (x : List Byte) : r.keepsRanges (s.writeResult l x) := h.less (by simp)

theorem State.keepsRanges.endItem (p : Nat) : r.keepsRanges (s.endItem p) := h.less (by simp)

theorem State.keepsRanges.resolve (c : CueRef) (x : List Byte) : r.keepsRanges (s.resolve c x) := h.less (by simp)

theorem State.keepsRanges.resolve? (c : Option CueRef) (x : List Byte) : r.keepsRanges (s.resolve? c x) := h.less (by simp)

theorem State.keepsRanges.leavePass : r.keepsRanges s.leavePass := h.less (by simp [State.leavePass_reader])

/-! ### The fire queue -/

theorem State.keepsRanges.fqRemove (e : FqEntry) : r.keepsRanges (s.fqRemove e) := h.less (by simp [State.fqRemove])

theorem State.keepsRanges.fqResolve (e : FqEntry) (o : CueOutcome) (c : DropCause) (b : Bool) :
    r.keepsRanges (s.fqResolve e o c b) := (h.fqRemove e).resolve? _ _

theorem State.keepsRanges.grantTest : r.keepsRanges s.grantTest := h.grants s.grantsInto_grantTest

theorem State.keepsRanges.freeSlot : r.keepsRanges s.freeSlot := State.keepsRanges.grantTest (h.less (by simp))

theorem State.keepsRanges.skewExpiry : r.keepsRanges s.skewExpiry := by
  unfold State.skewExpiry
  split
  · exact h.fqResolve _ _ _ _
  · exact h

theorem State.keepsRanges.dropWaiting : r.keepsRanges s.dropWaiting :=
  List.foldlRecOn (motive := r.keepsRanges) _ _ h fun _ hu e _ => hu.fqResolve e _ _ _

theorem State.keepsRanges.enterWait (e : FqEntry) : r.keepsRanges (s.enterWait e) := by
  have waits := State.keepsRanges.grantTest (h.mapFq
    (f := fun x => if x.seq == e.seq then { x with wait := some s.scu.dt } else x) fun x => by split <;> simp)
  simp only [State.enterWait]
  split
  · split
    · exact waits.fqResolve _ _ _ _
    · exact waits
  · exact waits

theorem State.keepsRanges.countMiss (n : ChanId) : r.keepsRanges (s.countMiss n) := by
  have counted : r.keepsRanges (s.setChan n { s.chan n with misses := min 15 ((s.chan n).misses + 1) }) :=
    h.setChan n fun ⟨heat, trim, _, rest⟩ => ⟨heat, trim, Nat.min_le_left _ _, rest⟩
  simp only [State.countMiss]
  split
  · exact (counted.setChanState n _).setFlag _
  · exact counted

theorem State.keepsRanges.cancelEntry (e : FqEntry) : r.keepsRanges (s.cancelEntry e) := by
  unfold State.cancelEntry
  split
  · exact (h.fqResolve _ _ _ _).countMiss _
  all_goals exact h.fqResolve _ _ _ _

theorem State.keepsRanges.cancelQueue : r.keepsRanges s.cancelQueue :=
  List.foldlRecOn (motive := r.keepsRanges) _ _ h fun _ hu e _ => hu.cancelEntry e

theorem State.keepsRanges.quietQueue : r.keepsRanges s.quietQueue :=
  List.foldlRecOn (motive := r.keepsRanges) _ _ h fun _ hu e _ => hu.fqResolve e _ _ _

/-- Something done for every channel keeps the ranges if it does for each. -/
theorem State.keepsRanges.forChans {f : ChanId → State → State}
    (each : ∀ n u, r.keepsRanges u → r.keepsRanges (f n u)) : r.keepsRanges (s.forChans f) :=
  List.foldlRecOn (motive := r.keepsRanges) _ _ h fun u hu n _ => each n u hu

/-! ### Striker channels -/

theorem State.keepsRanges.setHeat (n : ChanId) {x : Nat} (cap : (s.chan n).heat ≤ 65535 → x ≤ 65535) :
    r.keepsRanges (s.setHeat n x) := h.setChan n fun ⟨heat, rest⟩ => ⟨cap heat, rest⟩

theorem State.keepsRanges.addHeat (n : ChanId) (d : Nat) : r.keepsRanges (s.addHeat n d) := by
  unfold State.addHeat
  split
  · exact h
  · exact h.setChan n fun ⟨_, rest⟩ => ⟨Nat.min_le_left _ _, rest⟩

theorem State.keepsRanges.strokeLeaves (n : ChanId) : r.keepsRanges (s.strokeLeaves n) := by
  unfold State.strokeLeaves
  split
  · exact State.keepsRanges.endItem (h.touch n (by simp)) _
  · exact h

theorem State.keepsRanges.recoveryDone (n : ChanId) : r.keepsRanges (s.recoveryDone n) := by
  have left := h.strokeLeaves n
  simp only [State.recoveryDone]
  split
  · exact (left.setChanState n _).setFlag _
  · split
    · exact (left.setChanState n _).setFlag _
    · exact (left.setChanState n _).grantTest

theorem State.keepsRanges.enterRecover (n : ChanId) (d : DevTime) : r.keepsRanges (s.enterRecover n d) := by
  simp only [State.enterRecover]
  split
  · exact State.keepsRanges.recoveryDone (h.touch n (by simp)) n
  · exact h.touch n (by simp)

theorem State.keepsRanges.afterPulse (n : ChanId) : r.keepsRanges (s.afterPulse n) := by
  unfold State.afterPulse
  split
  · exact h.setChanState n _
  next k hk =>
    split
    · exact State.keepsRanges.enterRecover (State.keepsRanges.writeResult (h.touch n (by simp)) _ _) n _
    · split
      · exact h.enterRecover n _
      · split
        · exact h.enterRecover n _
        · exact h.setChanState n _

theorem State.keepsRanges.pulseOff (n : ChanId) (d : DevTime) : r.keepsRanges (s.pulseOff n d) := by
  unfold State.pulseOff
  split
  · exact (State.keepsRanges.freeSlot (h.touch n (by simp))).addHeat n _
  · exact h.freeSlot

theorem State.keepsRanges.truncatePulse (n : ChanId) : r.keepsRanges (s.truncatePulse n) := by
  unfold State.truncatePulse
  split
  · exact (h.pulseOff n _).afterPulse n
  · exact h

theorem State.keepsRanges.recordHit (n : ChanId) (k : Stroke) (raw : DevTime) : r.keepsRanges (s.recordHit n k raw) := by
  refine State.keepsRanges.writeResult (h.setChan n fun ⟨heat, trim, _, strays, _⟩ => ?_) _ _
  refine ⟨heat, ?_, Nat.zero_le _, strays, Nat.min_le_left _ _⟩
  show -2000 ≤ (if _ then _ else _) ∧ (if _ then _ else _) ≤ (2000 : Int)
  split
  · exact learnedTrim_inRange
  · exact trim

theorem State.keepsRanges.hit (n : ChanId) (k : Stroke) (raw : DevTime) : r.keepsRanges (s.hit n k raw) := by
  have recorded := h.recordHit n k raw
  simp only [State.hit]
  split
  · split
    · exact (recorded.pulseOff n _).enterRecover n _
    · exact recorded
  · exact recorded.enterRecover n _
  all_goals exact recorded

theorem State.keepsRanges.contact (n : ChanId) (raw : DevTime) : r.keepsRanges (s.contact n raw) := by
  unfold State.contact
  split
  · split
    · exact h.hit n _ raw
    · exact h.setChan n fun ⟨heat, trim, misses, _, hits⟩ => ⟨heat, trim, misses, Nat.min_le_left _ _, hits⟩
  · exact h

theorem State.keepsRanges.synthesise (n : ChanId) : r.keepsRanges (s.synthesise n) := by
  unfold State.synthesise
  split
  · exact h.hit n _ _
  · exact h

theorem State.keepsRanges.decideMiss (n : ChanId) (k : Stroke) : r.keepsRanges (s.decideMiss n k) := by
  have marked : r.keepsRanges (s.markResolved n k) := h.touch n (by simp)
  simp only [State.decideMiss]
  split
  next restrikes =>
    have room : (s.markResolved n k).fqRoom = true := by
      rw [Bool.and_eq_true] at restrikes
      exact restrikes.2
    exact marked.fqJoin room _ _ _
  next => exact (marked.writeResult _ _).countMiss n

theorem State.keepsRanges.settle (n : ChanId) : r.keepsRanges (s.settle n) := by
  unfold State.settle
  split
  next k _ =>
    have decided := h.decideMiss n k
    simp only
    split
    · exact decided.enterRecover n _
    · exact decided
  next => exact h

theorem State.keepsRanges.quietStrike (n : ChanId) : r.keepsRanges (s.quietStrike n) := by
  have off : r.keepsRanges (if (s.chan n).state = .drive then s.pulseOff n s.scu.dt else s) := by
    split
    · exact h.pulseOff n _
    · exact h
  simp only [State.quietStrike]
  generalize (if (s.chan n).state = .drive then s.pulseOff n s.scu.dt else s) = u at off ⊢
  have recovers {v : State} (hv : r.keepsRanges v) : r.keepsRanges
      (if (s.chan n).state = .drive ∨ (s.chan n).state = .flight then
        v.setChan n { v.chan n with state := .recover
                                    recoveryEnd := v.scu.dt + BitVec.ofNat 32 (v.ccfg n).recovery }
      else v) := by
    split
    · exact hv.touch n (by simp)
    · exact hv
  cases (u.chan n).stroke with
  | none => exact recovers off
  | some k =>
    refine recovers (State.keepsRanges.strokeLeaves ?_ n)
    split
    · exact off
    · exact off.writeResult _ _
end

end Sys2Proof.Machine

/-! PROOFS. The ranges: what hold channels, arrivals and the reader leave of them. -/
namespace Sys2Proof.Machine
open Sys2Proof

section
variable {r s t : State} (h : r.keepsRanges s)
include h

/-! ### Hold channels -/

theorem State.keepsRanges.placeStanding (room : s.fqRoom = true) (n : ChanId) : r.keepsRanges (s.placeStanding n) := by
  simp only [State.placeStanding, State.placeReengage]
  exact State.keepsRanges.fqJoin (h.touch n (by simp)) room _ _ _

theorem State.keepsRanges.requestReengage (n : ChanId) : r.keepsRanges (s.requestReengage n) := by
  unfold State.requestReengage
  split
  next room => exact h.placeStanding room n
  next => exact h.touch n (by simp)

theorem State.keepsRanges.reengageAfterBrown (n : ChanId) : r.keepsRanges (State.reengageAfterBrown n s) := by
  unfold State.reengageAfterBrown
  split
  · exact h.requestReengage n
  · exact h

theorem State.keepsRanges.engageOver (n : ChanId) (d : DevTime) (o : CueOutcome) (c : DropCause) :
    r.keepsRanges (s.engageOver n d o c) := by
  unfold State.engageOver
  split
  · exact State.keepsRanges.resolve? ((h.freeSlot.addHeat n _).touch n (by simp)) _ _
  · exact h.freeSlot

theorem State.keepsRanges.cutEngage (n : ChanId) (o : CueOutcome) (c : DropCause) : r.keepsRanges (s.cutEngage n o c) :=
  (h.engageOver n _ o c).setChanState n _

theorem State.keepsRanges.engageEnds (n : ChanId) : r.keepsRanges (s.engageEnds n) := by
  have ended := h.engageOver n (s.engageDue n) .engaged .none
  simp only [State.engageEnds, State.afterEngage]
  split
  · exact ended.setChanState n _
  · split
    · exact (ended.setChanState n _).setFlag _
    · exact ended.touch n (by simp)

theorem State.keepsRanges.forceRelease (n : ChanId) (o : CueOutcome) (c : DropCause) :
    r.keepsRanges (s.forceRelease n o c) := by
  unfold State.forceRelease
  split
  · exact h.cutEngage n o c
  · exact h.setChanState n _
  all_goals exact h

theorem State.keepsRanges.releaseHold (n : ChanId) : r.keepsRanges (s.releaseHold n) := by
  have freed : r.keepsRanges (s.unwant n) := h.touch n (by simp)
  simp only [State.releaseHold]
  split
  · exact freed.setChanState n _
  · exact freed.cutEngage n _ _
  all_goals exact freed

theorem State.keepsRanges.brownHold (n : ChanId) : r.keepsRanges (State.brownHold n s) := by
  unfold State.brownHold
  split
  · exact h.forceRelease n _ _
  · exact h

theorem State.keepsRanges.endHold (o : CueOutcome) (n : ChanId) : r.keepsRanges (State.endHold o n s) := by
  unfold State.endHold
  split
  · exact State.keepsRanges.forceRelease (h.touch n (by simp)) n _ _
  · exact h

theorem State.keepsRanges.releaseHolds (o : CueOutcome) : r.keepsRanges (s.releaseHolds o) :=
  h.forChans fun n _ hu => hu.endHold o n

/-- Cooling warms no coil. -/
theorem State.keepsRanges.cooled (n : ChanId) {x cooling : Nat} (cap : (s.chan n).heat ≤ 65535 → x ≤ 65535) :
    r.keepsRanges (s.setHeat n (heatAfterDecay x cooling)) :=
  h.setHeat n fun hot => (Nat.sub_le _ _).trans (cap hot)

theorem State.keepsRanges.holdHeatEvent (n : ChanId) : r.keepsRanges (s.holdHeatEvent n) := by
  have cooled : r.keepsRanges (s.setHeat n (heatAfterDecay
      (if (s.chan n).state = .held ∧ s.rehearsal = false then
        holdHeat (s.chan n).heat (s.ccfg n).holdDuty (s.ccfg n).gain else (s.chan n).heat) (s.ccfg n).cooling)) := by
    refine h.cooled n fun cap => ?_
    split
    · exact Nat.min_le_left _ _
    · exact cap
  simp only [State.holdHeatEvent]
  generalize heatAfterDecay _ _ = heat at cooled ⊢
  split
  · exact (cooled.setChanState n _).setFlag _
  · split
    · split
      · exact (cooled.setChanState n _).requestReengage n
      · exact cooled.setChanState n _
    · exact cooled

theorem State.keepsRanges.heatEvent (n : ChanId) : r.keepsRanges (s.heatEvent n) := by
  have cooled := h.cooled n (x := (s.chan n).heat) (cooling := (s.ccfg n).cooling) id
  unfold State.heatEvent
  split
  · simp only [State.strikeHeatEvent]
    split
    · exact (cooled.setChanState n _).grantTest
    · exact cooled
  · exact h.holdHeatEvent n
  · exact cooled

/-! ### Arrivals -/

theorem State.keepsRanges.arriveEngage (e : FqEntry) (c : Option CueRef) (n : ChanId) :
    r.keepsRanges (s.arriveEngage e c n) := by
  have wanted : r.keepsRanges (if c.isSome then s.setChan n { s.chan n with holdWanted := true } else s) := by
    split
    · exact h.touch n (by simp)
    · exact h
  simp only [State.arriveEngage]
  generalize (if c.isSome then s.setChan n { s.chan n with holdWanted := true } else s) = u at wanted ⊢
  split
  · exact wanted.fqResolve _ _ _ _
  · split
    · exact wanted.fqResolve _ _ _ _
    · exact wanted.fqResolve _ _ _ _
    · exact wanted.fqResolve _ _ _ _
    all_goals exact wanted.enterWait e

theorem State.keepsRanges.arriveStroke (e : FqEntry) : r.keepsRanges (s.arriveStroke e) := by
  unfold State.arriveStroke
  split
  · exact h.fqResolve _ _ _ _
  · exact h.enterWait e

theorem State.keepsRanges.arrive (e : FqEntry) : r.keepsRanges (s.arrive e) := by
  unfold State.arrive
  split
  · simp only [State.arriveMark]
    split
    · exact ((h.fqRemove e).resolve _ _).setFlag _
    · exact (h.fqRemove e).resolve _ _
  · exact State.keepsRanges.endItem (State.keepsRanges.less (h.fqRemove e) (by simp)) _
  · exact ((h.fqRemove e).releaseHold _).resolve _ _
  · exact h.arriveEngage e _ _
  · exact h.arriveStroke e
  · exact h.arriveStroke e

theorem State.keepsRanges.arriveAll : r.keepsRanges s.arriveAll := by
  unfold State.arriveAll
  split
  · refine List.foldlRecOn (motive := r.keepsRanges) _ _ h fun u hu q _ => ?_
    unfold State.arriveTurn
    split
    · exact hu.arrive _
    · exact hu
  · exact h

/-! ### The reader -/

theorem State.keepsRanges.stack : r.fits → s.reader.stack.length ≤ 4 := fun hr => (h.fits hr).stack

theorem State.keepsRanges.chainFault (d : FaultDetail) (b : Addr) (i k : Nat) : r.keepsRanges (s.chainFault d b i k) := by
  simp only [State.chainFault]
  exact State.keepsRanges.setPerf (State.keepsRanges.handFault (State.keepsRanges.leavePass (h.read (by simp))) _) (by simp)

theorem State.keepsRanges.takeEnd : r.keepsRanges s.takeEnd := by
  simp only [State.takeEnd]
  exact State.keepsRanges.setPerf (State.keepsRanges.leavePass (h.read (by simp))) (by simp)

theorem State.keepsRanges.starvedTest : r.keepsRanges s.starvedTest := by
  unfold State.starvedTest
  split
  · exact (h.read (by simp)).setFlag _
  · exact h

theorem State.keepsRanges.enterLinkWait : r.keepsRanges s.enterLinkWait :=
  State.keepsRanges.starvedTest (h.read (by simp))

theorem State.keepsRanges.readSlot (k : Nat) : r.keepsRanges (s.readSlot k) := by
  simp only [State.readSlot]
  split
  · exact h.read (by simp)
  · exact h.chainFault _ _ _ _

theorem State.keepsRanges.entryFault (a : Addr) (how : Entry) (d : FaultDetail) : r.keepsRanges (s.entryFault a how d) := by
  unfold State.entryFault
  split
  · exact h.chainFault _ _ _ _
  · cases how <;> exact h.chainFault _ _ _ _

theorem State.keepsRanges.stallEntry (a : Addr) (how : Entry) (x : ReaderState) : r.keepsRanges (s.stallEntry a how x) := by
  cases how <;> exact h.read (by simp)

/-- The pass entered takes the room that was found, and a jump brings a loop stack of at most four frames. -/
theorem State.keepsRanges.commitEntry {how : Entry} (room : s.passRoom = true)
    (jump : ∀ st, how = .jump st → r.fits → st.length ≤ 4) (a : Addr) : r.keepsRanges (s.commitEntry a how) := by
  have left := h.leavePass
  have few : s.leavePass.passes.length < 8 := s.leavePass_passes.trans_lt (of_decide_eq_true room)
  have stack : r.fits → (how.stackAfter s.leavePass.reader.stack).length ≤ 4 := by
    cases how with
    | jump st => exact jump st rfl
    | start | link => exact left.stack
  have read := left.setReader (x := { s.leavePass.reader with
    state := .reading, block := a, slot := 0, pass := some s.leavePass.passSeq, pending := .none
    count := u8 (Memory.line s.leavePass.mem a.toNat) 2, stack := how.stackAfter s.leavePass.reader.stack }) stack
  have opened := read.setPasses (x := s.leavePass.passes ++
    [{ id := s.leavePass.passSeq, block := a, outstanding := 0, readingDone := false }]) fun _ => by simpa using few
  cases how <;> exact opened.less (by exact ⟨.refl _, rfl, le_rfl, rfl, rfl, .refl _, rfl, rfl, le_rfl⟩)

theorem State.keepsRanges.enterBlock {how : Entry} (jump : ∀ st, how = .jump st → r.fits → st.length ≤ 4) (a : Addr)
    (fuel : Nat) : r.keepsRanges (s.enterBlock a how fuel) := by
  induction fuel generalizing s a how with
  | zero => exact h.stallEntry a how _
  | succ fuel ih =>
    simp only [State.enterBlock]
    split
    · exact h.stallEntry a how _
    next room =>
      split
      · exact h.entryFault a how _
      · have entered := h.commitEntry (Bool.eq_true_of_not_eq_false room) jump a
        split
        · split
          · exact ih entered (by simp) _
          · exact entered.enterLinkWait
          · exact entered.takeEnd
          · exact entered.chainFault _ _ _ _
        · exact entered.readSlot 0

theorem State.keepsRanges.readNext : r.keepsRanges s.readNext := by
  unfold State.readNext
  split
  · exact h.readSlot _
  · unfold State.readLink
    split
    · exact h.enterBlock (by simp) _ _
    · exact h.enterLinkWait
    · exact h.takeEnd
    · exact h.chainFault _ _ _ _

theorem State.keepsRanges.pollLink : r.keepsRanges s.pollLink := by
  unfold State.pollLink
  split
  · split
    · exact h
    · exact h.enterBlock (by simp) _ _
    · exact h.takeEnd
    · exact h.chainFault _ _ _ _
  · exact h

/-! ### Admission -/

/-- A trim is reset to the latched one, which is in its range. -/
theorem State.keepsRanges.resetTrim (n : ChanId) :
    r.keepsRanges (s.setChan n { s.chan n with trim := (s.ccfg n).initialTrim }) := by
  have reset : ∀ m, r.trimsLatched ∧ (∀ n, (r.chan n).inRange) →
      ((s.setChan n { s.chan n with trim := (s.ccfg n).initialTrim }).chan m).inRange := by
    intro m hr
    obtain ⟨trims, ranges⟩ := h.chans hr
    rw [State.chan_setChan]
    split
    · exact ⟨(ranges n).1, trims n, (ranges n).2.2⟩
    · exact ranges m
  exact ⟨fun hr => (h.fits hr).same ⟨rfl, rfl, rfl, rfl⟩, h.queue,
    fun hr => ⟨(h.chans hr).1, fun m => reset m hr⟩,
    fun hr => (h.periods hr).same ⟨rfl, rfl, rfl, rfl⟩⟩

theorem State.keepsRanges.resolveMap (l : CueLoc) (n : ChanId) (a : Addr) (resetTrim : Bool) :
    r.keepsRanges (s.resolveMap l n a resetTrim) := by
  simp only [State.resolveMap]
  split
  · exact h.writeResult _ _
  have staged : r.keepsRanges (s.stageMap a) := h.less (by simp)
  split
  · refine State.keepsRanges.writeResult ?_ _ _
    unfold State.latchMap
    split
    · exact State.keepsRanges.resetTrim (staged.less (by simp)) n
    · exact staged.less (by simp)
  · exact staged.writeResult _ _

theorem State.keepsRanges.takeRepeat (a : Addr) (count : Nat) : r.keepsRanges (s.takeRepeat a count) := by
  have push : r.keepsRanges
      (if count ≤ 1 then s.readNext
      else if 4 ≤ s.reader.stack.length then s.chainFault .loopDepthFull s.reader.block s.reader.slot 8
      else s.enterBlock a (.jump ({ cue := s.cueLoc, target := a, remaining := count - 1 } :: s.reader.stack))
        entryFuel) := by
    split
    · exact h.readNext
    split
    · exact h.chainFault _ _ _ _
    next low =>
      refine h.enterBlock (fun st hst _ => ?_) _ _
      cases hst
      simp only [List.length_cons]
      omega
  have stack := h.stack
  simp only [State.takeRepeat]
  split
  next f fs top =>
    simp only [top, List.length_cons] at stack
    split
    · split
      · refine h.enterBlock (fun st hst hr => ?_) _ _
        cases hst
        exact stack hr
      · exact State.keepsRanges.readNext (h.setReader fun hr => (Nat.le_succ _).trans (stack hr))
    · exact push
  next => exact push

end

/-- A TEMPO cue asks for a period. -/
def Ask.targetOk (a : Ask) : Bool :=
  match a with
  | .agenda (.tempo t _) => decide (isPeriod t)
  | _ => true

theorem clampPeriod_isPeriod (p : Nat) : isPeriod (clampPeriod p) := by
  simp only [isPeriod, clampPeriod, clampNat]
  omega

end Sys2Proof.Machine

/-! PROOFS. The ranges: admission, score time, supply, performance, resets, and every command. -/
namespace Sys2Proof.Machine
open Sys2Proof

/-! ### Periods -/

theorem State.asks_targetOk {s : State} {b : CueBody} {a : Ask} (h : s.asks b = some a) : a.targetOk = true := by
  cases b with
  | tempo t n =>
    obtain rfl := Option.some_inj.1 h
    exact decide_eq_true (clampPeriod_isPeriod t)
  | strike | map | rotor =>
    obtain ⟨_, -, rfl⟩ := Option.map_eq_some_iff.1 h
    rfl
  | hold c op m =>
    simp only [State.asks] at h
    split at h <;> cases h
    rfl
  | mark | holdpoint | repeatJump => cases h; rfl

/-- What shapes the periods to come lies in their range. -/
abbrev Tempo.inPeriods (t : Tempo) : Prop := isPeriod t.base ∧ ∀ q ∈ t.ramp, q.ok

theorem Tempo.inPeriods.periodAt {t : Tempo} (ok : t.inPeriods) (j : Tick) : isPeriod (t.periodAt j) := by
  obtain ⟨base, ramp⟩ := ok
  obtain ⟨b, q⟩ := t
  cases q with
  | none => exact base
  | some q =>
    cases g : q.governs j with
    | true => rw [Tempo.periodAt_governed b g]; exact Ramp.periodAt_isPeriod (ramp q rfl) g
    | false => rw [Tempo.periodAt_beyond b g]; exact base

theorem Tempo.inPeriods.apply {t : Tempo} (ok : t.inPeriods) (x : Tick) {target : Nat} (period : isPeriod target) (n : Nat) :
    (t.apply x target n).inPeriods := by
  unfold Tempo.apply
  split
  · exact ⟨period, nofun⟩
  next long =>
    refine ⟨period, fun q hq => ?_⟩
    obtain rfl := Option.mem_some_iff.1 hq
    exact ⟨ok.periodAt x, period, Nat.pos_of_ne_zero long⟩

theorem Tempo.inPeriods.discard {t : Tempo} (ok : t.inPeriods) (x : Tick) : (t.discard x).inPeriods := by
  unfold Tempo.discard
  split
  · split
    · exact ok
    · exact ⟨ok.1, nofun⟩
  · exact ok

theorem regulated_isPeriod (m e : Int) (p : Nat) : isPeriod (regulated m e p) := by
  simp only [isPeriod, regulated, clampInt]
  omega

theorem AgendaEntry.isPeriod_of_targetOk {e : AgendaEntry} {target n : Nat} (ok : e.targetOk = true)
    (body : e.body = .tempo target n) : isPeriod target := by
  simpa [AgendaEntry.targetOk, body] using ok

theorem State.tempoAtBoundary_agenda (s : State) (x : Tick) (e : AgendaEntry) (target n : Nat) :
    (s.tempoAtBoundary x e target n).scu.agenda = s.scu.agenda := by
  unfold State.tempoAtBoundary
  split <;> simp

/-! ### What LOADING latches -/

theorem readChannel_initialTrim (x : List Byte) : -2000 ≤ (readChannel x).initialTrim ∧ (readChannel x).initialTrim ≤ 2000 := by
  simp only [readChannel, clampInt]
  omega

theorem State.global_latchConfig {s : State} (unlocked : s.perf.lock = false) :
    s.latchConfig.global = readGlobal s.stagedGlobal := by
  simp [State.global, State.latchConfig_perf, unlocked]

/-- A locked LOADING keeps every record. -/
theorem State.ccfg_latchConfig_locked {s : State} (locked : s.perf.lock = true) (n : ChanId) :
    s.latchConfig.ccfg n = s.ccfg n := by
  cases latch : s.perf.latch <;> simp [State.ccfg, State.latchConfig_perf, locked, latch]

theorem State.global_latchConfig_locked {s : State} (locked : s.perf.lock = true) : s.latchConfig.global = s.global := by
  cases latch : s.perf.latch <;> simp [State.global, State.latchConfig_perf, locked, latch]

theorem placeChannel_inRange {k : ChannelConfig} {locked : Bool} {c : Channel}
    (trim : -2000 ≤ k.initialTrim ∧ k.initialTrim ≤ 2000) (ok : c.inRange) : (placeChannel k locked c).inRange := by
  obtain ⟨heat, own, counts⟩ := ok
  unfold placeChannel
  cases k.cls with
  | unused => exact ⟨heat, own, counts⟩
  | strike =>
    refine ⟨heat, ?_, Nat.zero_le _, Nat.zero_le _, Nat.zero_le _⟩
    cases locked
    · exact trim
    · exact own
  | hold => exact ⟨heat, ⟨by simp, by simp⟩, Nat.zero_le _, Nat.zero_le _, Nat.zero_le _⟩

section
variable {r s t : State} (h : r.keepsRanges s)
include h

/-! ### Admission -/

theorem State.keepsRanges.addItem (p : Nat) : r.keepsRanges (s.addItem p) :=
  h.less (by simp [State.addItem, State.mapPass_passes])

theorem State.keepsRanges.agendaJoin {b : AgendaBody} (room : s.agendaRoom = true) (target : (Ask.agenda b).targetOk = true) :
    r.keepsRanges (s.agendaJoin b) := by
  have few : s.scu.agenda.length < 4 := of_decide_eq_true room
  refine State.keepsRanges.addItem (h.setScu (fun _ => by simp; omega) fun hr => ?_) _
  obtain ⟨period, base, ramp, agenda, -⟩ := h.periods hr
  refine ⟨period, base, ramp, fun e he => ?_⟩
  rcases List.mem_append.1 he with he | he
  · exact agenda e he
  · rw [List.mem_singleton.1 he]
    cases b with
    | tempo => exact target
    | holdpoint => rfl

theorem State.keepsRanges.placeAsk {a : Ask} (room : s.roomFor a = true) (target : a.targetOk = true) (onset : Int) :
    r.keepsRanges (s.placeAsk a onset) := by
  cases a with
  | strike n v q => exact (h.fqJoin room _ _ _).readNext
  | hold n op => cases op <;> exact (h.fqJoin room _ _ _).readNext
  | rotor cmd => exact (h.fqJoin room _ _ _).readNext
  | mark q => exact (h.fqJoin room _ _ _).readNext
  | agenda b =>
    have joined := h.agendaJoin room target
    cases b with
    | tempo t n => exact joined.readNext
    | holdpoint x y t d => exact joined.read (by simp)
  | map n rec q => exact (h.resolveMap s.cueLoc n rec q).readNext
  | repeatJump t k => exact h.takeRepeat t k

theorem State.keepsRanges.passHorizon : r.keepsRanges s.passHorizon := by
  unfold State.passHorizon
  split
  next c o _ =>
    unfold State.takeOn
    split
    next a asked =>
      unfold State.roomAndAdmit
      split
      next room => exact h.placeAsk room (State.asks_targetOk asked) _
      next => exact h.read (by simp)
    next => exact (h.writeResult _ _).readNext
  next => exact h

theorem State.keepsRanges.releaseStall : r.keepsRanges s.releaseStall := by
  unfold State.releaseStall
  split
  · exact h.enterBlock (by simp) _ _
  · exact h.passHorizon
  · exact h

theorem State.keepsRanges.releaseHeld (src : ReleaseSource) : r.keepsRanges (s.releaseHeld src) := by
  unfold State.releaseHeld
  split
  next e _ =>
    split
    next delay _ =>
      have released (cond : TickCond) (expiry : Option Int) : r.keepsRanges ((s.setPerf { s.perf with state := .running }).setScu
          { s.scu with agenda := s.scu.agenda.tail, holdExpiry := expiry, cond := cond }) :=
        h.less (by simp [List.tail_sublist])
      have resolved := (released (State.placeReleased (s.setPerf { s.perf with state := .running }) delay) none).resolve e.cue
        (holdpointResult .releasedHold src (ptMicros s.scu.pt))
      simp only [State.releaseHoldpoint]
      split
      · exact State.keepsRanges.readNext (resolved.read (by simp))
      · exact resolved
    next => exact h
  next => exact h

theorem State.keepsRanges.cueEdge : r.keepsRanges s.cueEdge := by
  unfold State.cueEdge
  split
  · exact h.releaseHeld _
  · exact h

/-! ### Score time -/

theorem State.keepsRanges.tempo (hr : r.periodsOk) : s.scu.tempo.inPeriods := ⟨(h.periods hr).base, (h.periods hr).ramp⟩

theorem State.keepsRanges.setTempo {x : Tempo} (ok : r.periodsOk → x.inPeriods) :
    r.keepsRanges (s.setScu { s.scu with tempo := x }) :=
  h.setScu (fun hr => (h.fits hr).agenda) fun hr =>
    ⟨(h.periods hr).period, (ok hr).1, (ok hr).2, (h.periods hr).agenda⟩

theorem State.keepsRanges.setPeriod {p : Nat} (ok : r.periodsOk → isPeriod p) : r.keepsRanges (s.setPeriod p) := by
  have changed := h.setScu (x := { s.scu with period := p }) (fun hr => (h.fits hr).agenda) fun hr =>
    ⟨ok hr, (h.periods hr).base, (h.periods hr).ramp, (h.periods hr).agenda⟩
  exact changed.less (by simp)

theorem State.keepsRanges.beginTick (x : Tick) (start : Int) : r.keepsRanges (s.beginTick x start) := by
  have begun := h.setPeriod (p := s.periodOf x) fun hr => by
    unfold State.periodOf
    split
    · exact (h.periods hr).period
    · exact (h.tempo hr).periodAt x
  rw [State.beginTick_eq]
  exact begun.less (by simp)

theorem State.keepsRanges.tempoAtBoundary (x : Tick) (e : AgendaEntry) {target : Nat} (ok : r.periodsOk → isPeriod target)
    (n : Nat) : r.keepsRanges (s.tempoAtBoundary x e target n) := by
  have applied := h.setTempo (x := s.scu.tempo.apply x target n) fun hr => (h.tempo hr).apply x (ok hr) n
  unfold State.tempoAtBoundary
  split
  · exact h.resolve _ _
  · exact applied.resolve _ _
  · exact applied.resolve _ _

theorem State.keepsRanges.holdAt (b : Int) (timeout : Nat) : r.keepsRanges (s.holdAt b timeout) :=
  h.less (by simp [State.holdAt])

omit h in
/-- Dealing with the head of the agenda leaves an end of it. -/
theorem State.keepsRanges.agendaAt (x : Tick) (b : Int) {l : List AgendaEntry}
    (h : r.keepsRanges (s.setScu { s.scu with agenda := l })) : r.keepsRanges (s.agendaAt x b l) := by
  induction l generalizing s with
  | nil => exact h.beginTick x b
  | cons e es ih =>
    simp only [State.agendaAt]
    split
    · split
      next target n body =>
        have rest : r.keepsRanges (s.setScu { s.scu with agenda := es }) := h.less (by simp)
        have applied := rest.tempoAtBoundary x e (target := target)
          (fun hr => AgendaEntry.isPeriod_of_targetOk ((h.periods hr).agenda e List.mem_cons_self) body) n
        exact ih (applied.less (by simp [State.tempoAtBoundary_agenda]))
      next => exact h.holdAt b _
    · exact h.beginTick x b

theorem State.keepsRanges.boundary : r.keepsRanges s.boundary := by
  unfold State.boundary
  split
  · rw [State.boundaryAt_eq]
    have discarded := h.setTempo (x := s.scu.tempo.discard s.tickAhead) fun hr => (h.tempo hr).discard _
    exact State.keepsRanges.starvedTest (State.keepsRanges.agendaAt _ _ (discarded.less (by simp)))
  · exact h

theorem State.keepsRanges.regulate (t : Int) : r.keepsRanges (s.regulate t) := by
  unfold State.regulate
  simp only
  split
  · exact h.setPeriod fun _ => regulated_isPeriod _ _ _
  · exact h.setPeriod fun _ => regulated_isPeriod _ _ _
  · exact h

theorem State.keepsRanges.countIn (t : Int) : r.keepsRanges (s.countIn t) := h.less (by simp [State.countIn])

theorem State.keepsRanges.recordPulse (t : Int) : r.keepsRanges (s.recordPulse t) := h.less (by simp [State.recordPulse])

theorem State.keepsRanges.restartLoss : r.keepsRanges s.restartLoss := h.less (by simp [State.restartLoss])

/-- Of all that a pulse does, only the regulation touches the period. -/
theorem State.keepsRanges.takePulse (t : Int) : r.keepsRanges (s.takePulse t) := by
  have counted := ((h.countIn t).recordPulse t).restartLoss
  have regulated := ((h.regulate t).recordPulse t).restartLoss
  simp only [State.takePulse]
  split
  · exact counted.less (by simp)
  · split
    · exact counted
    · split
      · exact (h.recordPulse t).restartLoss
      · exact regulated
  · split
    · exact counted
    · split
      · exact h.recordPulse t
      · split
        · exact State.keepsRanges.setFlag (regulated.less (by simp)) _
        · exact h.recordPulse t
  · exact h

theorem State.keepsRanges.syncEdge (d : DevTime) : r.keepsRanges (s.syncEdge d) := by
  unfold State.syncEdge
  split
  · exact h.takePulse _
  · exact h

theorem State.keepsRanges.agendaEnds (o : CueOutcome) : r.keepsRanges (s.agendaEnds o) :=
  List.foldlRecOn (motive := r.keepsRanges) _ _ (h.less (by simp)) fun _ hu _ _ => hu.resolve _ _

/-! ### Supply -/

theorem State.keepsRanges.takeBrown : r.keepsRanges s.takeBrown := by
  have cut : r.keepsRanges (s.dropWaiting.forChans fun n u => u.truncatePulse n) :=
    h.dropWaiting.forChans fun n _ hu => hu.truncatePulse n
  have held := cut.forChans (f := State.brownHold) fun n _ hu => hu.brownHold n
  simp only [State.takeBrown]
  exact held.less (by simp only [State.rotorBrown_keeps]; simp)

theorem State.keepsRanges.changeLevel (new : SupplyLevel) : r.keepsRanges (s.changeLevel new) := by
  have level : r.keepsRanges (s.setCsm { s.csm with level := new }) := h.less (by simp)
  simp only [State.changeLevel]
  refine State.keepsRanges.setFlag ?_ _
  cases new with
  | brown => exact level.takeBrown
  | normal => exact level.grantTest
  | sag =>
    simp only
    split
    · exact level.forChans fun n _ hu => hu.reengageAfterBrown n
    · exact level

theorem State.keepsRanges.housekeeping (v : Nat) : r.keepsRanges (s.housekeeping v) := by
  have sampled : r.keepsRanges (s.sampleSupply v) := by
    have read : r.keepsRanges (s.setCsm { s.csm with vsense := v, reading := BitVec.ofNat 8 (vsenseReading v) }) :=
      h.less (by simp)
    simp only [State.sampleSupply]
    split
    · split
      · exact read
      · exact read.changeLevel _
    · exact read
  unfold State.housekeeping
  exact sampled.pollLink.less (by simp)

/-! ### Commands of CONTROL -/

theorem State.keepsRanges.enterEnded : r.keepsRanges s.enterEnded := h.less (by simp [State.enterEnded])

theorem State.keepsRanges.drainCheck : r.keepsRanges s.drainCheck := by
  unfold State.drainCheck
  split
  · exact (h.releaseHolds _).enterEnded
  · exact h

theorem State.keepsRanges.takeResume : r.keepsRanges s.takeResume := by
  have shifted : r.keepsRanges (s.shiftWaits (s.scu.dt - s.perf.pausedAt)) := h.mapFq fun _ => ⟨rfl, rfl, rfl, rfl⟩
  exact State.keepsRanges.drainCheck (State.keepsRanges.grantTest (shifted.less (by simp)))

theorem State.keepsRanges.endReading : r.keepsRanges s.endReading := by
  have stops : r.keepsRanges (s.setReader { s.reader with state := .stopped, pending := .none }).leavePass :=
    State.keepsRanges.leavePass (h.read (by simp))
  unfold State.endReading
  cases s.reader.state with
  | finished | faulted | stopped => exact h
  | reading | horizon | stalled | linkWait | held => exact stops

theorem State.keepsRanges.stopPlaying : r.keepsRanges s.stopPlaying := by
  have cancelled := h.endReading.cancelQueue
  have ended : r.keepsRanges s.endReading.cancelQueue.stopAgenda := by
    simp only [State.stopAgenda]
    split
    · exact State.keepsRanges.less (cancelled.agendaEnds .cancelled) (by simp)
    · exact cancelled.agendaEnds _
  have stopped : r.keepsRanges (s.endReading.cancelQueue.stopAgenda.releaseHolds .cancelled).rotorStop :=
    State.keepsRanges.less (ended.releaseHolds .cancelled) (by simp)
  refine State.keepsRanges.drainCheck ?_
  unfold State.stopState
  split
  · exact stopped.setPerf (by simp)
  · exact stopped.setPerf (by simp)

theorem State.keepsRanges.takeStop : r.keepsRanges s.takeStop := by
  unfold State.takeStop
  split
  · exact State.keepsRanges.enterEnded (h.setPerf rfl)
  · exact h.stopPlaying

theorem State.keepsRanges.clearFaulted (n : Byte) : r.keepsRanges (s.clearFaulted n) := by
  unfold State.clearFaulted
  split
  · refine State.keepsRanges.grantTest (h.setChan _ fun ⟨heat, trim, _, rest⟩ => ?_)
    exact ⟨heat, trim, Nat.zero_le _, rest⟩
  · exact h

/-! ### LOADING -/

/-- A configuration latched anew has its trims and its initial period in their ranges. -/
theorem State.keepsRanges.latchConfig : r.keepsRanges s.latchConfig := by
  have rest : r.keepsRanges (s.latchConfig.setPerf { s.latchConfig.perf with latch := s.perf.latch }) := h.less (by simp)
  have trims : r.trimsLatched ∧ (∀ n, (r.chan n).inRange) → s.latchConfig.trimsLatched := by
    intro hr n
    cases locked : s.perf.lock with
    | false => rw [State.ccfg_latchConfig locked]; exact readChannel_initialTrim _
    | true => rw [State.ccfg_latchConfig_locked locked]; exact (h.chans hr).1 n
  have initial : r.periodsOk → isPeriod s.latchConfig.global.initialPeriod := by
    intro hr
    cases locked : s.perf.lock with
    | false => rw [State.global_latchConfig locked]; exact clampPeriod_isPeriod _
    | true => rw [State.global_latchConfig_locked locked]; exact (h.periods hr).initial
  exact ⟨fun hr => (rest.fits hr).same ⟨rfl, rfl, rfl, rfl⟩, rest.queue, fun hr => ⟨trims hr, (rest.chans hr).2⟩,
    fun hr => ⟨(rest.periods hr).period, (rest.periods hr).base, (rest.periods hr).ramp, (rest.periods hr).agenda, initial hr⟩⟩

/-- A channel placed as LOADING succeeds keeps its heat, and its trim is its own or the latched one. -/
theorem State.keepsRanges.placeChannels : r.keepsRanges s.placeChannels := by
  refine State.keepsRanges.setChans (s := s) (h.less (by simp)) fun hr n => ?_
  obtain ⟨trims, ranges⟩ := h.chans hr
  rw [State.placeChannels_chan]
  exact placeChannel_inRange (trims n) (ranges n)

theorem State.keepsRanges.startScore : r.keepsRanges s.startScore := by
  have period := h.setPeriod (p := s.global.initialPeriod) fun hr => (h.periods hr).initial
  have tempo := period.setTempo (x := { base := s.global.initialPeriod, ramp := none }) fun hr => ⟨(h.periods hr).initial, nofun⟩
  unfold State.startScore
  exact tempo.less (by simp)

theorem State.keepsRanges.startReader (b : Addr) : r.keepsRanges (s.startReader b) :=
  State.keepsRanges.enterBlock (h.setReader (by simp)) (by simp) b entryFuel

theorem State.keepsRanges.loadingCompletes : r.keepsRanges s.loadingCompletes := by
  have staged : r.keepsRanges s.stageLast := h.less (by simp)
  unfold State.loadingCompletes
  split
  · exact staged.less (by simp [State.loadingFails, State.dropLoading, State.enterEnded])
  · simp only [State.loadingSucceeds]
    exact State.keepsRanges.startReader
      (State.keepsRanges.startScore (State.keepsRanges.setPerf staged.latchConfig.placeChannels (by simp))) _

/-! ### The freeze -/

theorem State.keepsRanges.quietBlocks : r.keepsRanges s.quietBlocks := by
  have emptied : r.keepsRanges ((s.endReading.agendaEnds .quieted).quietQueue) :=
    State.keepsRanges.quietQueue (h.endReading.agendaEnds _)
  have quieted := emptied.forChans (f := State.quietChannel) fun n u hu => by
    unfold State.quietChannel
    split
    · exact hu.quietStrike n
    · exact hu.endHold _ n
    · exact hu
  simp only [State.quietBlocks]
  exact quieted.less (by simp only [State.rotorQuiet_keeps]; simp)

theorem State.keepsRanges.freeze (c : EndCause) : r.keepsRanges (s.freeze c) := by
  have playing : r.keepsRanges (s.quietBlocks.enterFrozen c) := h.quietBlocks.less (by simp [State.enterFrozen])
  have resting : r.keepsRanges (s.freezeResting c) :=
    h.less (by simp [State.freezeResting, State.enterFrozen, State.dropLoading])
  unfold State.freeze
  cases s.perf.state with
  | running | holding | paused | draining => exact playing
  | loading | idle | ended => exact resting
  | frozen => exact h

theorem State.keepsRanges.takeDflt : r.keepsRanges s.takeDflt := by
  unfold State.takeDflt
  split
  · exact h
  · exact State.keepsRanges.handFault (State.keepsRanges.freeze (h.less (by simp)) .driveFault) _

/-! ### How commands and events are taken -/

theorem State.keepsRanges.published (u : State) : r.keepsRanges (publish u s) := h.less (by simp)
end

/-! ### The resets -/

/-- Everything that has a range is as a reset leaves it. -/
theorem State.keepsRanges_of_reset (r : State) {t : State} (scu : t.scu.period = 1600 ∧ t.scu.tempo = { base := 1600, ramp := none } ∧
    t.scu.agenda = []) (fq : t.fq = []) (passes : t.passes = []) (reader : t.reader = Reader.atReset)
    (chans : r.trimsLatched ∧ (∀ n, (r.chan n).inRange) → t.trimsLatched ∧ ∀ n, (t.chan n).inRange)
    (initial : r.periodsOk → isPeriod t.global.initialPeriod) : r.keepsRanges t where
  fits _ := ⟨by simp [fq], by simp [passes], by simp [scu], by simp [reader, Reader.atReset]⟩
  queue _ := by simp [State.queueNumbered, fq]
  chans := chans
  periods hr := ⟨by rw [scu.1]; decide, by rw [scu.2.1]; decide, by simp [scu.2.1], by simp [scu.2.2], initial hr⟩

/-- Without a latched configuration every trim and the initial period are in their ranges. -/
theorem State.unlatched_inRange {t : State} (latch : t.perf.latch = none) :
    t.trimsLatched ∧ isPeriod t.global.initialPeriod := by
  simp only [State.trimsLatched, State.ccfg, State.global, latch]
  exact ⟨fun _ => readChannel_initialTrim [], clampPeriod_isPeriod _⟩

theorem State.keepsRanges_powerOn (r s : State) (i : InputLevels) : r.keepsRanges (s.powerOn i) := by
  obtain ⟨trims, initial⟩ := State.unlatched_inRange (t := s.powerOn i) rfl
  have chan (n : ChanId) : (s.powerOn i).chan n = Channel.atPowerOn := by simp [State.chan, State.powerOn, State.reset]
  exact State.keepsRanges_of_reset r ⟨rfl, rfl, rfl⟩ rfl rfl rfl (fun _ => ⟨trims, fun n => by rw [chan]; decide⟩) fun _ => initial

theorem State.keepsRanges_pinRelease (r s : State) (i : InputLevels) : r.keepsRanges (s.pinRelease i) := by
  obtain ⟨trims, initial⟩ := State.unlatched_inRange (t := s.pinRelease i) rfl
  have chan (n : ChanId) : (s.pinRelease i).chan n = { Channel.atPowerOn with heatDue := (s.chan n).heatDue } := by
    simp [State.chan, State.pinRelease]
  refine State.keepsRanges_of_reset r ⟨rfl, rfl, rfl⟩ rfl rfl rfl (fun _ => ⟨trims, fun n => ?_⟩) fun _ => initial
  rw [chan]
  exact (by decide : Channel.atPowerOn.inRange)

/-- PERF_RESET keeps the latched configuration, trims and counts, and adds the heat of a pulse it cuts. -/
theorem State.keepsRanges.perfReset {r s : State} (h : r.keepsRanges s) : r.keepsRanges s.perfReset := by
  have cleared : r.keepsRanges s.perfCleared := by
    refine State.keepsRanges_of_reset r ⟨rfl, rfl, rfl⟩ rfl rfl rfl (fun hr => ?_) fun hr => (h.periods hr).initial
    obtain ⟨trims, ranges⟩ := h.chans hr
    refine ⟨trims, fun n => ?_⟩
    have chan : s.perfCleared.chan n = s.chanAfterPerfReset n := by simp [State.chan, State.perfCleared]
    obtain ⟨heat, rest⟩ := ranges n
    rw [chan]
    refine ⟨?_, rest⟩
    simp only [State.chanAfterPerfReset]
    split
    · exact heat
    · exact Nat.min_le_left _ _
  rw [State.perfReset_eq]
  exact cleared.less (by simp)

/-! ### Every command -/

theorem onEvent_keepsRanges {due : Bool} {f : State → State} {s t : State} (e : onEvent due f s = .next t)
    (hf : s.keepsRanges (f s)) : s.keepsRanges t := by
  rcases onEvent_next e with rfl | ⟨-, -, rfl⟩
  · exact .refl _
  · exact hf.published _

theorem onControl_keepsRanges {code : Byte} {verdict : State → CmdOutcome} {f : State → State} {s t : State}
    (e : onControl code verdict f s = .next t) (hf : ∀ u, s.keepsRanges u → s.keepsRanges (f u)) : s.keepsRanges t := by
  have port (p : Port) : s.keepsRanges { s with port := p } := (State.keepsRanges.refl s).less (by simp)
  rcases onControl_next e with rfl | ⟨p, q, rfl⟩ | ⟨-, p, q, rfl⟩
  · exact .refl _
  · exact State.keepsRanges.published ((port p).less (by simp)) _
  · exact State.keepsRanges.published ((hf _ (port p)).less (by simp)) _

/-- Every command keeps the ranges. -/
theorem exec_keepsRanges {c : Instr} {s t : State} (h : exec c s = .next t) : s.keepsRanges t := by
  have hs := State.keepsRanges.refl s
  cases c
  all_goals simp only [exec] at h
  case start => exact onControl_keepsRanges h fun _ hu => hu.setPerf rfl
  case pause => exact onControl_keepsRanges h fun _ hu => hu.setPerf rfl
  case resume => exact onControl_keepsRanges h fun _ hu => hu.takeResume
  case stop => exact onControl_keepsRanges h fun _ hu => hu.takeStop
  case cont => exact onControl_keepsRanges h fun _ hu => hu.releaseHeld _
  case clear => exact onControl_keepsRanges h fun _ hu => hu.enterEnded
  case clearChannel n => exact onControl_keepsRanges h fun _ hu => hu.clearFaulted n
  case lockConfig => exact onControl_keepsRanges h fun _ hu => hu.setPerf rfl
  case perfReset => exact onControl_keepsRanges h fun _ hu => hu.perfReset
  case unknownCommand =>
    unfold execUnknownCommand at h
    split at h
    · cases h
    · exact onControl_keepsRanges h fun _ hu => hu
  case powerOnReset i => rw [powerOnReset_next h]; exact (State.keepsRanges_powerOn s s i).less (by simp)
  case pinReset i => rw [pinReset_next h]; exact (State.keepsRanges_pinRelease s s i).less (by simp)
  case attnFlagsWrite | attnEnableWrite => rcases onGroup_next h with rfl | ⟨p, rfl⟩ <;> exact hs.less (by simp)
  case statusWriteIgnored w =>
    unfold execStatusWriteIgnored at h
    split at h
    · cases w
      case status => rcases onGroup_next h with rfl | ⟨p, rfl⟩ <;> exact hs.less (by simp)
      all_goals rcases onPort_next h with rfl | rfl <;> exact hs.less (by simp)
    · cases h
  case memRead | memWrite | regRead => rcases onPort_next h with rfl | rfl <;> exact hs.less (by simp)
  case unknownInstruction =>
    unfold execUnknownInstruction at h
    split at h
    · rcases onPort_next h with rfl | rfl <;> exact hs.less (by simp)
    · cases h
  case nrstAssertion => cases h; exact hs.less (by simp)
  case housekeepingEvent v =>
    have moved : s.keepsRanges (s.setSched { s.sched with houseDue := s.sched.houseDue + 1000 }) := hs.less (by simp)
    rcases scheduled_next h with rfl | rfl | rfl
    · exact hs
    · exact moved
    · exact (moved.housekeeping v).published s
  case heatEvent n =>
    have moved : s.keepsRanges (s.setChan n { s.chan n with heatDue := (s.chan n).heatDue + 10000 }) := hs.touch n (by simp)
    rcases scheduled_next h with rfl | rfl | rfl
    · exact hs
    · exact moved
    · exact (moved.heatEvent n).published s
  case reportEvent => rcases scheduled_next h with rfl | rfl | rfl <;> exact hs.less (by simp)
  case rotorRateEvent => rcases scheduled_next h with rfl | rfl | rfl <;> exact hs.less (by simp)
  case quietQualifierChange | dfltDeassertion | lineTransition =>
    rcases onSample_next h with rfl | rfl <;> exact hs.less (by simp)
  case dfltAssertion =>
    rcases onSample_next h with rfl | rfl
    · exact hs
    · exact hs.takeDflt.published s
  case rotorStep => exact onEvent_keepsRanges h (hs.less (by simp))
  case syncoPulseEnd => exact onEvent_keepsRanges h (hs.less (by simp [State.syncoOff]))
  case tickBoundary => exact onEvent_keepsRanges h hs.boundary
  case holdpointTimeout => exact onEvent_keepsRanges h (hs.releaseHeld _)
  case syncLoss => exact onEvent_keepsRanges h (hs.less (by simp [State.syncLost]))
  case syncPulse => exact onEvent_keepsRanges h (State.keepsRanges.syncEdge (hs.less (by simp)) _)
  case cueiEdge => exact onEvent_keepsRanges h (State.keepsRanges.cueEdge (hs.less (by simp)))
  case homeEdge => exact onEvent_keepsRanges h (hs.less (by simp))
  case contactAccepted n => exact onEvent_keepsRanges h (State.keepsRanges.contact (hs.less (by simp)) n _)
  case synthesisedContact n => exact onEvent_keepsRanges h (hs.synthesise n)
  case filterQualificationAbandoned => exact onEvent_keepsRanges h (hs.less (by simp))
  case returnEdgeAccepted => exact onEvent_keepsRanges h (hs.less (by simp))
  case quietRequest => exact onEvent_keepsRanges h (State.keepsRanges.freeze (hs.less (by simp)) .quiet)
  case loadingComplete => exact onEvent_keepsRanges h hs.loadingCompletes
  case horizonPassed => exact onEvent_keepsRanges h hs.passHorizon
  case stallReleased => exact onEvent_keepsRanges h hs.releaseStall
  case standingReengagePlaced n =>
    rcases onEvent_next h with rfl | ⟨-, due, rfl⟩
    · exact hs
    · exact (hs.placeStanding ((Bool.and_eq_true _ _).mp due).2 n).published s
  case fireTimeArrival => exact onEvent_keepsRanges h hs.arriveAll
  case skewExpiry => exact onEvent_keepsRanges h hs.skewExpiry
  case pulseEnd n => exact onEvent_keepsRanges h ((hs.pulseOff n _).afterPulse n)
  case engageEnd n => exact onEvent_keepsRanges h (hs.engageEnds n)
  case windowSettle n => exact onEvent_keepsRanges h (hs.settle n)
  case recoveryEnd n => exact onEvent_keepsRanges h (hs.recoveryDone n)
  case drainComplete => exact onEvent_keepsRanges h (hs.releaseHolds _).enterEnded
  case drainPark => exact onEvent_keepsRanges h (hs.less (by simp))

/-- Settles O58: every command keeps every range, and each part of the statement is one of them. -/
theorem everyStepKeepsTheRanges : Obligations.EveryStepKeepsTheRanges := by
  unfold Obligations.EveryStepKeepsTheRanges
  intro c s t h
  obtain ⟨fits, queue, chans, periods⟩ := exec_keepsRanges h
  exact ⟨fits, fun numbered ordered => queue ⟨numbered, ordered⟩, fun trims ranges => chans ⟨trims, ranges⟩, periods⟩

end Sys2Proof.Machine

/-! PROOFS. The end of a pulse: its slot, its heat, and where the stroke goes; and the bytes of results. -/
namespace Sys2Proof.Machine
open Sys2Proof

/-! ### Channels written as they stand, and written twice -/

theorem State.setChan_self (s : State) (n : ChanId) : s.setChan n (s.chan n) = s := by
  simp [State.setChan, State.setChans, State.chan]

theorem State.setChan_setChan (s : State) (n : ChanId) (c d : Channel) : (s.setChan n c).setChan n d = s.setChan n d := by
  simp [State.setChan, State.setChans]

theorem State.setChan_chan_same (s : State) (n : ChanId) (c : Channel) : (s.setChan n c).chan n = c := by
  rw [State.chan_setChan, if_pos rfl]

/-! ### The bytes of a stroke's result (R95, Table 10-6) -/

/-- Outcome, detail byte, fire delay, lateness and flight. -/
theorem State.strikeResult_eq (s : State) (o : CueOutcome) (c : DropCause) (second rerouted : Bool) (delay : Nat)
    (late : Int) (flight : Nat) :
    s.strikeResult o c second rerouted delay late flight =
      [BitVec.ofNat 8 o.code, BitVec.ofNat 8 c.code + (if second then 8 else 0) + (if rerouted then 16 else 0) +
        (if s.rehearsal then 32 else 0)] ++ leBytes 2 delay ++ leBytes 2 (BitVec.ofInt 16 late).toNat ++ leBytes 2 flight := by
  simp only [State.strikeResult, StrikeResult.bytes, leSigned16, BitVec.ofNat_add]
  cases second <;> cases rerouted <;> cases s.rehearsal <;> rfl

/-- Without a drop cause the detail byte holds the marks alone. -/
theorem State.strikeResult_uncaused (s : State) (o : CueOutcome) (second rerouted : Bool) (delay : Nat) (late : Int)
    (flight : Nat) :
    s.strikeResult o .none second rerouted delay late flight =
      [BitVec.ofNat 8 o.code, (if second then 8 else 0) + (if rerouted then 16 else 0) + (if s.rehearsal then 32 else 0)] ++
        leBytes 2 delay ++ leBytes 2 (BitVec.ofInt 16 late).toNat ++ leBytes 2 flight := by
  rw [State.strikeResult_eq, DropCause.code, BitVec.zero_add]

/-! ### A pulse that is over -/

/-- A grant test leaves a channel that is neither IDLE nor RELEASED. -/
theorem State.grantTest_chan {s : State} {n : ChanId} (idle : (s.chan n).state ≠ .idle)
    (released : (s.chan n).state ≠ .released) : s.grantTest.chan n = s.chan n := by
  rcases s.grantsInto_grantTest.chans n with same | ⟨is, -⟩ | ⟨is, -⟩
  · exact same
  · exact absurd is idle
  · exact absurd is released

theorem State.freeSlot_addHeat (s : State) (n : ChanId) (since till : DevTime) :
    s.freeSlot.addHeat n (driven since till) = s.pulseOver n since till := by
  have perf : s.freeSlot.perf = s.perf := by simp
  rw [State.addHeat, State.rehearsal_of_perf perf, State.ccfg_of_perf perf]
  rfl

@[simp] theorem State.pulseOver_keeps (s : State) (n : ChanId) (since till : DevTime) :
    (s.pulseOver n since till).perf = s.perf ∧ (s.pulseOver n since till).scu = s.scu ∧
      (s.pulseOver n since till).csm = s.csm ∧ (s.pulseOver n since till).fqSeq = s.fqSeq := by
  rw [← State.freeSlot_addHeat]
  simp

/-- A driven channel whose pulse is over changes in its heat alone. -/
theorem State.pulseOver_chan {s : State} {n : ChanId} (idle : (s.chan n).state ≠ .idle)
    (released : (s.chan n).state ≠ .released) (since till : DevTime) :
    (s.pulseOver n since till).chan n = { s.chan n with heat := ((s.pulseOver n since till).chan n).heat } := by
  have tested : State.chan (State.grantTest { s with slots := s.slots - 1 }) n = s.chan n :=
    State.grantTest_chan (s := { s with slots := s.slots - 1 }) idle released
  simp only [State.pulseOver]
  split
  · rw [tested]
  · rw [State.setChan_chan_same, tested]

theorem State.pulseOff_eq {s : State} {n : ChanId} {k : Stroke} (held : (s.chan n).stroke = some k) (till : DevTime) :
    s.pulseOff n till =
      (s.setChan n { s.chan n with stroke := some { k with pulseEnd := till } }).pulseOver n k.grantDt till := by
  rw [← State.freeSlot_addHeat]
  simp only [State.pulseOff, held]

/-- A pulse that ends when it is due keeps its stroke as it is. -/
theorem State.pulseEnds_eq {s : State} {n : ChanId} {k : Stroke} (held : (s.chan n).stroke = some k) :
    s.pulseEnds n = (s.pulseOver n k.grantDt k.pulseEnd).afterPulse n := by
  have due : s.pulseDue n = k.pulseEnd := by simp only [State.pulseDue, held]
  have same : { s.chan n with stroke := some { k with pulseEnd := k.pulseEnd } } = s.chan n := by rw [← held]
  rw [State.pulseEnds, due, State.pulseOff_eq held, same, State.setChan_self]

/-! ### Where the stroke goes (R86 step 4) -/

/-- PLAYED, with the lateness of the grant and no flight (R94). -/
theorem State.resolvePlayed_eq (s : State) (n : ChanId) (k : Stroke) :
    s.resolvePlayed n k = { s with
      mem := Memory.writeBytes s.mem (cueAddr k.cue.loc + 8)
        ([2, (if k.second then 8 else 0) + (if k.rerouted then 16 else 0) + (if s.rehearsal then 32 else 0)] ++
          leBytes 2 k.fireDelay ++
          leBytes 2 (BitVec.ofInt 16 (lateness (k.grantPt + 16 * (k.lead : Int) - k.onset))).toNat ++ [0, 0])
      chans := s.chans.set n { s.chan n with stroke := some { k with resolved := true } } } := by
  rw [State.resolvePlayed, State.strikeResult_uncaused]
  rfl

section
variable {s : State} {n : ChanId} {k : Stroke} (held : (s.chan n).stroke = some k)
include held

theorem State.afterPulse_played (blind : (s.ccfg n).sensePresent = false) (undecided : k.resolved = false) :
    s.afterPulse n = (s.resolvePlayed n k).enterRecover n k.pulseEnd := by
  simp only [State.afterPulse, held]
  rw [if_pos ⟨blind, undecided⟩]

theorem State.afterPulse_contact {raw : DevTime} (sensed : ¬((s.ccfg n).sensePresent = false ∧ k.resolved = false))
    (contact : k.contact = some raw) : s.afterPulse n = s.enterRecover n raw := by
  simp only [State.afterPulse, held]
  rw [if_neg sensed]
  simp only [contact]

theorem State.afterPulse_decided (contact : k.contact = none) (decided : k.resolved = true) :
    s.afterPulse n = s.enterRecover n k.pulseEnd := by
  simp [State.afterPulse, held, contact, decided]

theorem State.afterPulse_open (sensed : (s.ccfg n).sensePresent = true) (contact : k.contact = none)
    (undecided : k.resolved = false) : s.afterPulse n = s.setChanState n .flight := by
  simp [State.afterPulse, held, contact, undecided, sensed]
end

/-- Settles O33: the pulse is over, and the stroke decides where its channel goes. -/
theorem aPulseEndFreesItsSlotAndHeatsTheCoil : Obligations.APulseEndFreesItsSlotAndHeatsTheCoil := by
  unfold Obligations.APulseEndFreesItsSlotAndHeatsTheCoil
  intro s n k hn drive held due
  have isDue : pulseEndDue n s = true := by simp [pulseEndDue, State.pulseDue, drive, held, due]
  have taken : exec (.pulseEnd n) s = .next (publish s (s.pulseEnds n)) := onEvent_due (fun s => s.pulseEnds n) hn isDue
  rw [State.pulseEnds_eq held] at taken
  have chan := State.pulseOver_chan (s := s) (n := n) (by simp [drive]) (by simp [drive]) k.grantDt k.pulseEnd
  have perf : (s.pulseOver n k.grantDt k.pulseEnd).perf = s.perf := by simp
  generalize s.pulseOver n k.grantDt k.pulseEnd = u at taken chan perf
  have held' : (u.chan n).stroke = some k := by rw [chan]; exact held
  have published {x : State} (goes : u.afterPulse n = x) : publishes x (publish s (u.afterPulse n)) :=
    goes ▸ publishes_publish s (u.afterPulse n)
  refine ⟨_, taken, fun sensed contact undecided => published ?_, fun raw sensed contact => published ?_,
    fun contact decided => published ?_, fun blind undecided => published ?_⟩
  · exact State.afterPulse_open held' (by rwa [State.ccfg_of_perf perf]) contact undecided
  · exact State.afterPulse_contact held' (by simp [State.ccfg_of_perf perf, sensed]) contact
  · exact State.afterPulse_decided held' contact decided
  · rw [State.afterPulse_played held' (by rwa [State.ccfg_of_perf perf]) undecided, State.resolvePlayed_eq,
      State.rehearsal_of_perf perf]
    rfl

end Sys2Proof.Machine

/-! PROOFS. The window settle: a RESTRIKE or a MISS. -/
namespace Sys2Proof.Machine
open Sys2Proof

/-- The conditions of R96 for a restrike, with the DT of the aim written out. -/
theorem State.mayRestrike_iff (s : State) (n : ChanId) (k : Stroke) :
    s.mayRestrike n k = true ↔ k.second = false ∧ k.restrikeOk = true ∧ s.perf.endCause ≠ .stopped ∧ s.rehearsal = false ∧
      s.restrikeAim n k - k.onset ≤ 16 * (s.global.restrikeLimit : Int) := by
  simp [State.mayRestrike, and_assoc]

/-- A channel that is neither IDLE nor in COOLDOWN does not fault at its miss (R94). -/
theorem State.countMiss_of_busy {s : State} {n : ChanId} (idle : (s.chan n).state ≠ .idle)
    (cooldown : (s.chan n).state ≠ .cooldown) :
    s.countMiss n = s.setChan n { s.chan n with misses := min 15 ((s.chan n).misses + 1) } := by
  simp only [State.countMiss]
  exact if_neg fun h => h.2.2.elim idle cooldown

section
variable {s : State} {n : ChanId} {k : Stroke}

theorem State.decideMiss_restrikes (may : s.mayRestrike n k = true) (room : s.fq.length < 96) :
    s.decideMiss n k = (s.markResolved n k).fqJoin
      (.restrike { cue := k.cue, chan := n, width := k.carried, lead := k.lead, rerouted := k.rerouted })
      k.onset (s.restrikeAim n k) := by
  simp only [State.decideMiss]
  exact if_pos (by rw [may, State.fqRoom_of_lt room]; rfl)

/-- A stroke that may not restrike, or finds the queue full, is a MISS on its channel (R93, R95, R97). -/
theorem State.decideMiss_misses (idle : (s.chan n).state ≠ .idle) (cooldown : (s.chan n).state ≠ .cooldown)
    (audible : s.rehearsal = false) (not_ : s.mayRestrike n k = true → 96 ≤ s.fq.length) :
    s.decideMiss n k = { s with
      mem := Memory.writeBytes s.mem (cueAddr k.cue.loc + 8)
        ([3, (if k.second then 8 else 0) + (if k.rerouted then 16 else 0)] ++ leBytes 2 k.fireDelay ++ [0, 0, 0, 0])
      chans := s.chans.set n { s.chan n with
        stroke := some { k with resolved := true }, misses := min 15 ((s.chan n).misses + 1) } } := by
  have marked (l : CueLoc) (x : List Byte) :
      ((s.markResolved n k).writeResult l x).chan n = { s.chan n with stroke := some { k with resolved := true } } :=
    State.setChan_chan_same s n _
  have refused : (s.mayRestrike n k && s.fqRoom) ≠ true := by
    rw [Ne, Bool.and_eq_true]
    exact fun ⟨may, room⟩ => absurd (not_ may) (Nat.not_le.2 (of_decide_eq_true room))
  have bytes : s.strikeResult .miss .none k.second k.rerouted k.fireDelay 0 0 =
      [3, (if k.second then 8 else 0) + (if k.rerouted then 16 else 0)] ++ leBytes 2 k.fireDelay ++ [0, 0, 0, 0] := by
    rw [State.strikeResult_uncaused, audible]
    cases k.second <;> cases k.rerouted <;> rfl
  simp only [State.decideMiss]
  rw [if_neg refused, State.countMiss_of_busy (by rw [marked]; exact idle) (by rw [marked]; exact cooldown), marked, bytes]
  generalize [3, (if k.second then 8 else 0) + (if k.rerouted then 16 else 0)] ++ leBytes 2 k.fireDelay ++ [0, 0, 0, 0] = b
  have swap : (s.markResolved n k).writeResult k.cue.loc b =
      (s.writeResult k.cue.loc b).setChan n { s.chan n with stroke := some { k with resolved := true } } := rfl
  rw [swap, State.setChan_setChan]
  rfl

/-- The window settle decides the open stroke, and a channel in FLIGHT recovers (R93). -/
theorem State.settle_eq (open_ : s.toSettle n = some k) :
    s.settle n = if (s.chan n).state = .flight then (s.decideMiss n k).enterRecover n (laterOf k.pulseEnd k.windowClose)
      else s.decideMiss n k := by
  simp only [State.settle, open_]
  rfl
end

/-- Settles O36: the conditions of R96 decide between a RESTRIKE and a MISS. -/
theorem aWindowThatClosesWithoutContactIsDecided : Obligations.AWindowThatClosesWithoutContactIsDecided := by
  unfold Obligations.AWindowThatClosesWithoutContactIsDecided
  intro s n k aim hn sensed audible held undecided contact busy due hAim decided restruck missed
  have aims : s.restrikeAim n k = aim := hAim.symm
  have open_ : s.toSettle n = some k := by simp [State.toSettle, sensed, audible, held, undecided, contact]
  have isDue : windowSettleDue n s = true := by simpa only [windowSettleDue, open_, State.settleDt] using due
  have taken : exec (.windowSettle n) s = .next (publish s (s.settle n)) := onEvent_due (fun s => s.settle n) hn isDue
  rw [State.settle_eq open_] at taken
  refine ⟨_, taken, fun first allowed playing soon room => ?_, fun not_ => ?_⟩
  · have may : s.mayRestrike n k = true :=
      (s.mayRestrike_iff n k).2 ⟨first, allowed, playing, audible, by rwa [aims]⟩
    rw [State.decideMiss_restrikes may room, aims]
    exact publishes_publish s _
  · have full : s.mayRestrike n k = true → 96 ≤ s.fq.length := by
      rw [State.mayRestrike_iff, aims]
      rintro ⟨first, allowed, playing, -, soon⟩
      rcases not_ with not_ | not_ | not_ | not_ | full
      · simp [first] at not_
      · simp [allowed] at not_
      · exact absurd not_ playing
      · omega
      · exact full
    have idle : (s.chan n).state ≠ .idle := by rcases busy with h | h | h <;> simp [h]
    have cooldown : (s.chan n).state ≠ .cooldown := by rcases busy with h | h | h <;> simp [h]
    rw [State.decideMiss_misses idle cooldown audible full]
    exact publishes_publish s _

end Sys2Proof.Machine

/-! PROOFS. Arrivals by kind, and how an entry leaves the queue with its result. -/
namespace Sys2Proof.Machine
open Sys2Proof

/-! ### An entry leaves with its result (R75, R79, R80) -/

section
variable (s : State) {e : FqEntry} (o : CueOutcome) (d : DropCause) (second : Bool)

theorem State.fqResolve_strike {w : StrikeWork} (hw : e.work = .strike w) :
    s.fqResolve e o d second = State.resolve { s with fq := s.queueWithout e } w.cue
      ([BitVec.ofNat 8 o.code, BitVec.ofNat 8 d.code + (if s.rehearsal then 32 else 0)] ++ [0, 0, 0, 0, 0, 0]) := by
  have bytes : s.entryResult e.work o d second =
      [BitVec.ofNat 8 o.code, BitVec.ofNat 8 d.code + (if s.rehearsal then 32 else 0)] ++ [0, 0, 0, 0, 0, 0] := by
    rw [hw, State.entryResult, State.strikeResult_eq]
    cases d <;> cases s.rehearsal <;> rfl
  rw [State.fqResolve, bytes, hw]
  rfl

theorem State.fqResolve_restrike {w : RestrikeWork} (hw : e.work = .restrike w) :
    s.fqResolve e o d second = State.resolve { s with fq := s.queueWithout e } w.cue
      ([BitVec.ofNat 8 o.code, BitVec.ofNat 8 d.code + (if second then 8 else 0) + (if w.rerouted then 16 else 0) +
        (if s.rehearsal then 32 else 0)] ++ [0, 0, 0, 0, 0, 0]) := by
  rw [State.fqResolve, hw, State.entryResult, State.strikeResult_eq]
  rfl

theorem State.fqResolve_engage {c : CueRef} {n : ChanId} (hw : e.work = .engage (some c) n) :
    s.fqResolve e o d second = State.resolve { s with fq := s.queueWithout e } c
      ([BitVec.ofNat 8 o.code, BitVec.ofNat 8 d.code] ++ leBytes 6 (s.scu.pt.toNat / 16)) := by
  rw [State.fqResolve, hw]
  rfl

/-- An internal ENGAGE leaves with no result. -/
theorem State.fqResolve_internal {n : ChanId} (hw : e.work = .engage none n) :
    s.fqResolve e o d second = { s with fq := s.queueWithout e } := by
  rw [State.fqResolve, hw]
  rfl
end

/-! ### Holds that end (R112) -/

/-- An engage that ends: its pulse is over, and its result says the PT of the moment (R110). -/
theorem State.engageOver_eq {s : State} {n : ChanId} {g : EngageRun} (held : (s.chan n).engage = some g) (till : DevTime)
    (o : CueOutcome) (d : DropCause) :
    s.engageOver n till o d =
      let v := s.pulseOver n g.grantDt till
      (v.setChan n { v.chan n with engage := none }).resolve? g.cue
        ([BitVec.ofNat 8 o.code, BitVec.ofNat 8 d.code] ++ leBytes 6 (s.scu.pt.toNat / 16)) := by
  have scu (c : Channel) : ((s.pulseOver n g.grantDt till).setChan n c).scu = s.scu := by simp
  simp only [State.engageOver, held, EngageRun.driven, State.freeSlot_addHeat, holdResult, ptMicros, scu]

/-- A RELEASE of a channel that is not engaging turns a hold off, and wants it no more. -/
theorem State.releaseHold_eq {s : State} {n : ChanId} (idle : (s.chan n).state ≠ .engage) :
    s.releaseHold n = s.setChan n { s.chan n with
      holdWanted := false, standing := false
      state := if (s.chan n).state = .held then .released else (s.chan n).state } := by
  have state : ((s.unwant n).chan n).state = (s.chan n).state := by rw [State.unwant, State.setChan_chan_same]
  by_cases held : (s.chan n).state = .held
  · simp only [State.releaseHold, held, State.setChanState, State.unwant, State.setChan_chan_same,
      State.setChan_setChan, if_true]
  · have kept : s.releaseHold n = s.unwant n := by
      simp only [State.releaseHold, state]
      cases hs : (s.chan n).state with
      | held => exact absurd hs held
      | engage => exact absurd hs idle
      | off | idle | drive | flight | recover | cooldown | faulted | released => rfl
    rw [kept, if_neg held]
    rfl

theorem State.releaseHold_engage {s : State} {n : ChanId} (engaging : (s.chan n).state = .engage) :
    s.releaseHold n = (s.unwant n).cutEngage n .engaged .none := by
  have state : ((s.unwant n).chan n).state = .engage := by rw [State.unwant, State.setChan_chan_same]; exact engaging
  simp only [State.releaseHold, state]

/-! ### Arrivals by kind (R66 to R70) -/

section
variable {s : State} {e : FqEntry}

theorem State.arrive_mark {c : CueRef} {r : Bool} (hw : e.work = .mark c r) :
    s.arrive e =
      (let u := State.resolve { s with fq := s.queueWithout e } c
        ([15] ++ leBytes 4 (s.scu.pt.toNat / 16) ++ leBytes 3 s.scu.dt.toNat)
       { u with regs := if r then s.regs.withFlag .mark else s.regs }) := by
  have raised (u : State) (regs : u.regs = s.regs) : (if r then u.setFlag .mark else u) =
      { u with regs := if r then s.regs.withFlag .mark else s.regs } := by
    rw [← regs]
    cases r <;> rfl
  simp only [State.arrive, hw, State.arriveMark]
  exact raised _ (by simp)

theorem State.arrive_rotor {c : CueRef} {cmd : RotorCmd} (hw : e.work = .rotor c cmd) :
    s.arrive e = (State.rotorCommand { s with fq := s.queueWithout e } c.loc cmd).endItem c.pass := by
  simp only [State.arrive, hw]
  rfl

theorem State.arrive_release {c : CueRef} {n : ChanId} (hw : e.work = .release c n) :
    s.arrive e = (State.releaseHold { s with fq := s.queueWithout e } n).resolve c
      ([17, 0] ++ leBytes 6 (s.scu.pt.toNat / 16)) := by
  simp only [State.arrive, hw]
  rfl

theorem State.arrive_stroke (hw : (∃ w, e.work = .strike w) ∨ ∃ w, e.work = .restrike w) :
    s.arrive e = if s.csm.level = .brown then s.fqResolve e .dropped .supply true else s.enterWait e := by
  rcases hw with ⟨w, hw⟩ | ⟨w, hw⟩ <;> simp only [State.arrive, hw] <;> rfl

/-- The channel as an ENGAGE finds it: a cue's wants its hold first (R109). -/
def State.wanting (s : State) (c : Option CueRef) (n : ChanId) : State :=
  if c.isSome then s.setChan n { s.chan n with holdWanted := true } else s

theorem State.wanting_state (c : Option CueRef) (n : ChanId) : ((s.wanting c n).chan n).state = (s.chan n).state := by
  unfold State.wanting
  split
  · rw [State.setChan_chan_same]
  · rfl

theorem State.wanting_csm (c : Option CueRef) (n : ChanId) : (s.wanting c n).csm = s.csm := by
  unfold State.wanting
  split <;> rfl

section
variable {c : Option CueRef} {n : ChanId} (hw : e.work = .engage c n)
include hw

theorem State.arrive_engage_brown (brown : s.csm.level = .brown) :
    s.arrive e = (s.wanting c n).fqResolve e .dropped .supply false := by
  have level : (s.wanting c n).csm.level = .brown := by rw [State.wanting_csm, brown]
  unfold State.wanting at *
  simp only [State.arrive, hw, State.arriveEngage]
  rw [if_pos level]

/-- Outside BROWN the channel decides. -/
theorem State.arrive_engage_lit (lit : s.csm.level ≠ .brown) :
    ((s.chan n).state = .engage ∨ (s.chan n).state = .held → s.arrive e = (s.wanting c n).fqResolve e .engaged .none false) ∧
      ((s.chan n).state = .cooldown → s.arrive e = (s.wanting c n).fqResolve e .dropped .hot false) ∧
      ((s.chan n).state = .released → s.arrive e = (s.wanting c n).enterWait e) := by
  have level : ¬(s.wanting c n).csm.level = .brown := by rw [State.wanting_csm]; exact lit
  have state := State.wanting_state (s := s) c n
  unfold State.wanting at level state ⊢
  simp only [State.arrive, hw, State.arriveEngage]
  generalize (if c.isSome then s.setChan n { s.chan n with holdWanted := true } else s) = u at level state ⊢
  rw [if_neg level, ← state]
  refine ⟨?_, fun hot => ?_, fun released => ?_⟩
  · rintro (engaging | held)
    · simp only [engaging]
    · simp only [held]
  · simp only [hot]
  · simp only [released]
end
end

/-- Settles O30: the turns of an arrival in queue order, then each kind's arrival. -/
theorem entriesArriveInQueueOrderAndActByKind : Obligations.EntriesArriveInQueueOrderAndActByKind := by
  unfold Obligations.EntriesArriveInQueueOrderAndActByKind
  refine ⟨fun s e hn plays first => ?_, fun s e => ⟨fun c r hw => State.arrive_mark hw, fun c n hw idle => ?_,
    fun c n g hw engaging held => ?_, fun c n hw => ⟨fun brown => ?_, fun lit driven => ?_, fun lit hot => ?_,
      fun lit released => ?_⟩, fun n hw => ⟨fun done => ?_, fun lit released => ?_⟩,
    fun w hw => ⟨fun brown => ?_, fun lit => ?_⟩, fun w hw => ⟨fun brown => ?_, fun lit => ?_⟩,
    fun c cmd hw => State.arrive_rotor hw⟩⟩
  · have first' : s.fq.find? s.isDue = some e := first
    have due : fireTimeArrivalDue s = true := by
      rw [fireTimeArrivalDue, (PerfState.advances_iff _).2 plays, Bool.true_and, List.any_eq_true]
      exact ⟨e, List.mem_of_find?_eq_some first', List.find?_some first'⟩
    have taken : exec .fireTimeArrival s = .next (publish s s.arriveAll) := onEvent_due State.arriveAll hn due
    simp only [State.arriveAll, first'] at taken
    exact ⟨_, taken, publishes_publish s _⟩
  · rw [State.arrive_release hw, State.releaseHold_eq (s := { s with fq := s.queueWithout e }) idle]
    rfl
  · intro u v x
    have cut := State.engageOver_eq (s := State.unwant { s with fq := s.queueWithout e } n) (n := n) (g := g)
      (by rw [State.unwant, State.setChan_chan_same]; exact held) s.scu.dt .engaged .none
    rw [State.arrive_release hw, State.releaseHold_engage (s := { s with fq := s.queueWithout e }) engaging, State.cutEngage]
    exact congrArg (fun x : State => (x.setChanState n .released).resolve c _) cut
  · rw [State.arrive_engage_brown hw brown]
    exact State.fqResolve_engage _ .dropped .supply false hw
  · rw [(State.arrive_engage_lit hw lit).1 driven]
    exact State.fqResolve_engage _ .engaged .none false hw
  · rw [(State.arrive_engage_lit hw lit).2.1 hot]
    exact State.fqResolve_engage _ .dropped .hot false hw
  · exact (State.arrive_engage_lit hw lit).2.2 released
  · by_cases brown : s.csm.level = .brown
    · rw [State.arrive_engage_brown hw brown]
      exact State.fqResolve_internal _ .dropped .supply false hw
    · obtain ⟨driven, hot, -⟩ := State.arrive_engage_lit hw brown
      rcases done with h | h | h | h
      · exact absurd h brown
      · rw [driven (.inl h)]; exact State.fqResolve_internal _ .engaged .none false hw
      · rw [driven (.inr h)]; exact State.fqResolve_internal _ .engaged .none false hw
      · rw [hot h]; exact State.fqResolve_internal _ .dropped .hot false hw
  · exact (State.arrive_engage_lit hw lit).2.2 released
  · rw [State.arrive_stroke (.inl ⟨w, hw⟩), if_pos brown]
    exact State.fqResolve_strike _ .dropped .supply true hw
  · rw [State.arrive_stroke (.inl ⟨w, hw⟩), if_neg lit]
  · rw [State.arrive_stroke (.inr ⟨w, hw⟩), if_pos brown]
    exact State.fqResolve_restrike _ .dropped .supply true hw
  · rw [State.arrive_stroke (.inr ⟨w, hw⟩), if_neg lit]

end Sys2Proof.Machine

/-! PROOFS. Slot wait, skew expiry and the placing of a standing re-engage. -/
namespace Sys2Proof.Machine
open Sys2Proof

/-! ### Entering slot wait (R70) -/

/-- The queue with one entry waiting from the present DT. -/
abbrev State.queueWaiting (s : State) (e : FqEntry) : List FqEntry :=
  s.fq.map fun x => if x = e then { x with wait := some s.scu.dt } else x

/-- In a numbered queue the entry that waits is the one of that number. -/
theorem State.queueWaiting_eq {s : State} (numbered : s.queueNumbered) {e : FqEntry} (he : e ∈ s.fq) :
    (s.fq.map fun x => if x.seq == e.seq then { x with wait := some s.scu.dt } else x) = s.queueWaiting e := by
  refine List.map_congr_left fun x hx => ?_
  have same : x.seq == e.seq ↔ x = e := by
    rw [beq_iff_eq]
    exact ⟨numbered.eq_of_seq hx he, congrArg _⟩
  simp only [same]

/-- The state in which one entry has begun to wait. -/
def State.beginWait (s : State) (e : FqEntry) : State := { s with fq := s.queueWaiting e }

/-- What waits beside the entry was there before. -/
theorem State.mem_of_queueWaiting {s : State} {e x : FqEntry} (hx : x ∈ s.queueWaiting e) (other : x.seq ≠ e.seq) :
    x ∈ s.fq := by
  obtain ⟨y, hy, rfl⟩ := List.mem_map.1 hx
  split at other
  next same => exact absurd (congrArg FqEntry.seq same) other
  next ne => rwa [if_neg ne]

/-- An entry enters slot wait: the grant test, and with a skew tolerance of 0 the drop of the entry where it is still there. -/
theorem State.enterWait_eq {s : State} (numbered : s.queueNumbered) {e : FqEntry} (he : e ∈ s.fq) :
    let t := (s.beginWait e).grantTest
    (s.global.skew ≠ 0 → s.enterWait e = t) ∧
      (s.global.skew = 0 → (∃ x, t.fqFind e.seq = some x ∧ s.enterWait e = t.dropExpired x) ∨
        t.fqFind e.seq = none ∧ s.enterWait e = t) := by
  intro t
  have waits : s.setFq (s.queueWaiting e) = s.beginWait e := rfl
  have global_ : t.global = s.global := State.global_of_perf (s := s) (State.grantsInto_grantTest (s.beginWait e)).same.2.2.1
  simp only [State.enterWait, State.queueWaiting_eq numbered he, waits]
  refine ⟨fun skew => if_neg (by exact global_ ▸ skew), fun skew => ?_⟩
  rw [if_pos (by exact global_ ▸ skew)]
  cases found : t.fqFind e.seq with
  | none => exact .inr ⟨rfl, rfl⟩
  | some x => exact .inl ⟨x, rfl, rfl⟩

/-! ### The skew expiry's drop cause (R75) -/

/-- Away from IDLE a channel's state gives its drop cause. -/
theorem chanCause_code {x : ChanState} (busy : x ≠ .idle) : BitVec.ofNat 8 (State.skewCause.chanCause x).code = dropCauseOf x := by
  cases x with
  | idle => exact absurd rfl busy
  | off | drive | flight | recover | cooldown | faulted | released | engage | held => rfl

theorem State.skewCause_strike (s : State) (w : StrikeWork) :
    BitVec.ofNat 8 (s.skewCause (.strike w)).code =
      if (s.chan w.chan).state = .idle ∨ (∃ p, (s.ccfg w.chan).partner = some p ∧ (s.chan p).state = .idle) then 2
      else dropCauseOf (s.chan w.chan).state := by
  cases fires : s.firingChannel (.strike w) with
  | none =>
    obtain ⟨own, partner⟩ := State.firingChannel_strike_none.1 fires
    rw [if_neg (by rintro (idle | ⟨p, hp, idle⟩); exacts [own idle, partner p hp idle]), State.skewCause, fires]
    exact chanCause_code own
  | some n =>
    have free : ¬s.firingChannel (.strike w) = none := by rw [fires]; nofun
    rw [State.firingChannel_strike_none] at free
    rw [if_pos, State.skewCause, fires]
    · rfl
    · by_contra none_
      rw [not_or] at none_
      exact free ⟨none_.1, fun p hp idle => none_.2 ⟨p, hp, idle⟩⟩

theorem State.skewCause_restrike (s : State) (w : RestrikeWork) :
    BitVec.ofNat 8 (s.skewCause (.restrike w)).code =
      if (s.chan w.chan).state = .idle then 2 else dropCauseOf (s.chan w.chan).state := by
  by_cases idle : (s.chan w.chan).state = .idle
  · rw [if_pos idle, State.skewCause, State.firingChannel, if_pos idle]
    rfl
  · rw [if_neg idle, State.skewCause, State.firingChannel, if_neg idle]
    exact chanCause_code idle

/-- An ENGAGE is dropped CROWDED whatever its channel's state. -/
theorem State.skewCause_engage (s : State) (c : Option CueRef) (n : ChanId) : s.skewCause (.engage c n) = .crowded := by
  unfold State.skewCause
  split <;> rfl

/-! ### The standing re-engage (R62, R114) -/

/-- The internal ENGAGE at the present PT. -/
def State.reengaging (s : State) (n : ChanId) : FqEntry := s.joining (.engage none n) s.now s.now

theorem State.placeStanding_eq (s : State) (n : ChanId) :
    s.placeStanding n = { s with
      fq := fqInsert (s.reengaging n) s.fq, fqSeq := s.fqSeq + 1
      chans := s.chans.set n { s.chan n with standing := false } } := rfl

/-- Settles O31: the grant test of a waiting entry, the cause of its drop, and the place of a re-engage. -/
theorem entriesWaitForASlotAndExpire : Obligations.EntriesWaitForASlotAndExpire := by
  unfold Obligations.EntriesWaitForASlotAndExpire
  refine ⟨fun s e numbered he => ?_, fun s e hn plays first => ?_, fun s n hn standing room => ?_⟩
  · intro u
    obtain ⟨tested, dropped⟩ := State.enterWait_eq numbered he
    refine ⟨tested, fun skew => ?_⟩
    have grants := State.grantsInto_grantTest (s.beginWait e)
    have before {x : FqEntry} (hx : x ∈ (s.beginWait e).grantTest.fq) (other : x.seq ≠ e.seq) : x ∈ s.fq :=
      State.mem_of_queueWaiting (grants.queue.subset hx) other
    have gone : ∀ x ∈ (s.enterWait e).fq, x.seq ≠ e.seq ∧ x ∈ (s.beginWait e).grantTest.fq := by
      intro x hx
      rcases dropped skew with ⟨y, found, is⟩ | ⟨none_, is⟩
      · rw [is, State.dropExpired, State.fqResolve_fq] at hx
        obtain ⟨hx, other⟩ := List.mem_filter.1 hx
        rw [State.seq_of_fqFind found] at other
        exact ⟨bne_iff_ne.1 other, hx⟩
      · rw [is] at hx
        exact ⟨fun same => List.find?_eq_none.1 none_ x hx (beq_iff_eq.2 same), hx⟩
    refine ⟨fun x hx => (gone x hx).1, fun x hx => before (gone x hx).2 (gone x hx).1, fun n => ?_⟩
    have chan : (s.enterWait e).chan n = (s.beginWait e).grantTest.chan n := by
      rcases dropped skew with ⟨y, -, is⟩ | ⟨-, is⟩
      · simp only [is, State.dropExpired, State.chan, State.fqResolve_keeps]
      · rw [is]
    rw [chan]
    exact grants.chans n
  · have first' : s.fq.find? s.expired = some e := first
    have due : skewExpiryDue s = true := by
      rw [skewExpiryDue, (PerfState.advances_iff _).2 plays, Bool.true_and, List.any_eq_true]
      exact ⟨e, List.mem_of_find?_eq_some first', List.find?_some first'⟩
    have taken : exec .skewExpiry s = .next (publish s s.skewExpiry) := onEvent_due State.skewExpiry hn due
    simp only [State.skewExpiry, first', State.dropExpired] at taken
    refine ⟨_, taken, fun w hw => ?_, fun w hw => ?_, fun c n hw => ?_, fun n hw => ?_⟩
    · have leaves := s.fqResolve_strike .dropped (s.skewCause e.work) true hw
      rw [hw, State.skewCause_strike] at leaves
      rw [hw, leaves]
      exact publishes_publish s _
    · have leaves := s.fqResolve_restrike .dropped (s.skewCause e.work) true hw
      rw [hw, State.skewCause_restrike] at leaves
      rw [hw, leaves]
      exact publishes_publish s _
    · rw [s.fqResolve_engage .dropped _ true hw, hw, State.skewCause_engage]
      exact publishes_publish s _
    · rw [s.fqResolve_internal .dropped _ true hw]
      exact publishes_publish s _
  · have due : standingReengageDue n s = true := by
      rw [standingReengageDue, standing, State.fqRoom_of_lt room]
      rfl
    have taken : exec (.standingReengagePlaced n) s = .next (publish s (s.placeStanding n)) :=
      onEvent_due (fun s => s.placeStanding n) hn due
    obtain ⟨pre, post, was, placed, -⟩ := fqInsert_split (s.reengaging n) s.fq
    rw [s.placeStanding_eq n] at taken
    generalize hu : ({ s with
      fq := fqInsert (s.reengaging n) s.fq, fqSeq := s.fqSeq + 1
      chans := s.chans.set n { s.chan n with standing := false } } : State) = u at taken
    have queue : (publish s u).fq = fqInsert (s.reengaging n) s.fq := by
      simp [← hu]
    refine ⟨_, taken, ?_, s.reengaging n, pre, post, was, queue.trans placed, rfl, rfl, max_self _, rfl⟩
    rw [queue, hu]
    exact publishes_publish s u

end Sys2Proof.Machine

/-! PROOFS. What BROWN cuts: pulses, engages and holds that end while no entry waits for a slot. -/
namespace Sys2Proof.Machine
open Sys2Proof

/-- A channel's output is driven or held. -/
abbrev Channel.on (c : Channel) : Prop := c.state = .drive ∨ c.state = .engage ∨ c.state = .held

/-- A channel whose pulse or hold may have been cut: hold wanted stays, and no work comes to it. -/
structure Channel.cutTo (c d : Channel) : Prop where
  wanted : d.holdWanted = c.holdWanted
  state  : d.state = c.state ∨ ¬d.on
  stroke : ∀ k, d.stroke = some k → ∃ j, c.stroke = some j ∧ j.cue = k.cue
  engage : d.engage = c.engage ∨ d.engage = none

theorem Channel.cutTo.refl (c : Channel) : c.cutTo c := ⟨rfl, .inl rfl, fun k hk => ⟨k, hk, rfl⟩, .inl rfl⟩

theorem Channel.cutTo.trans {c d e : Channel} (h : c.cutTo d) (k : d.cutTo e) : c.cutTo e where
  wanted := k.wanted.trans h.wanted
  state := by
    rcases k.state with same | off
    · rcases h.state with same' | off
      · exact .inl (same.trans same')
      · exact .inr (by simpa only [Channel.on, same] using off)
    · exact .inr off
  stroke x hx := by
    obtain ⟨y, hy, cue⟩ := k.stroke x hx
    obtain ⟨z, hz, cue'⟩ := h.stroke y hy
    exact ⟨z, hz, cue'.trans cue⟩
  engage := k.engage.elim (fun e => h.engage.imp e.trans e.trans) .inr

/-- No entry waits for a slot. -/
abbrev State.noneWaits (s : State) : Prop := ∀ e ∈ s.fq, e.wait = none

/-- The bytes `w` take in the result areas of what the channels have in flight. -/
def State.covered (s : State) (w : Nat → Prop) : Prop := ∀ n a, channelResult s n a → w a

/-- From `s` to `t` the channels have only been cut, writing bytes of `w`. -/
structure State.cuts (s t : State) (w : Nat → Prop) : Prop where
  fq     : t.fq = s.fq
  chans  : ∀ n, (s.chan n).cutTo (t.chan n)
  writes : s.writesOnly t w

section
variable {s t u : State} {w : Nat → Prop}

theorem State.cuts.refl (s : State) (w : Nat → Prop) : s.cuts s w := ⟨rfl, fun _ => .refl _, .refl s w⟩

theorem State.cuts.trans (h : s.cuts t w) (k : t.cuts u w) : s.cuts u w :=
  ⟨k.fq.trans h.fq, fun n => (h.chans n).trans (k.chans n), h.writes.trans k.writes⟩

theorem State.cuts.noneWaits (h : s.cuts t w) (none_ : s.noneWaits) : t.noneWaits := by
  rw [State.noneWaits, h.fq]
  exact none_

/-- What is in flight after a cut was in flight before. -/
theorem State.cuts.covered (h : s.cuts t w) (area : s.covered w) : t.covered w := by
  rintro n a (⟨k, hk, ha⟩ | ⟨g, c, hg, hc, ha⟩)
  · obtain ⟨j, hj, cue⟩ := (h.chans n).stroke k hk
    exact area n a (.inl ⟨j, hj, by rwa [cue]⟩)
  · rcases (h.chans n).engage with same | none_
    · exact area n a (.inr ⟨g, c, same ▸ hg, hc, ha⟩)
    · rw [none_] at hg
      cases hg

theorem State.cuts_of_chans (fq : t.fq = s.fq) (chans : t.chans = s.chans) (writes : s.writesOnly t w) : s.cuts t w :=
  ⟨fq, fun n => by simp only [State.chan, chans]; exact .refl _, writes⟩

theorem State.cuts_setChan {n : ChanId} {c : Channel} (cut : (s.chan n).cutTo c) : s.cuts (s.setChan n c) w := by
  refine ⟨by simp, fun m => ?_, .of_eq (by simp) (by simp)⟩
  rw [State.chan_setChan]
  split
  next same => rw [same]; exact cut
  next => exact .refl _

theorem State.cuts_setChanState {n : ChanId} {x : ChanState} (off : x ≠ .drive ∧ x ≠ .engage ∧ x ≠ .held) :
    s.cuts (s.setChanState n x) w :=
  State.cuts_setChan ⟨rfl, .inr (by simpa [Channel.on] using off), fun k hk => ⟨k, hk, rfl⟩, .inl rfl⟩

theorem State.setChanState_state (s : State) (n : ChanId) (x : ChanState) : ((s.setChanState n x).chan n).state = x := by
  rw [State.setChanState, State.setChan_chan_same]

/-! ### Pulses -/

theorem State.cuts_addHeat (n : ChanId) (d : Nat) : s.cuts (s.addHeat n d) w := by
  unfold State.addHeat
  split
  · exact .refl s w
  · exact State.cuts_setChan ⟨rfl, .inl rfl, fun k hk => ⟨k, hk, rfl⟩, .inl rfl⟩

theorem State.cuts_strokeLeaves (n : ChanId) : s.cuts (s.strokeLeaves n) w := by
  unfold State.strokeLeaves
  split
  next k _ =>
    have gone : s.cuts (s.setChan n { s.chan n with stroke := none }) w :=
      State.cuts_setChan ⟨rfl, .inl rfl, fun _ none_ => (Option.some_ne_none _ none_.symm).elim, .inl rfl⟩
    exact gone.trans (State.cuts_of_chans (by simp) (by simp) (State.writesOnly_endItem _ w k.cue.pass))
  next => exact .refl s w

/-- A slot freed where none waits is all of a freed slot. -/
theorem State.cuts_freeSlot (none_ : s.noneWaits) : s.cuts s.freeSlot w := by
  have freed : s.freeSlot = s.setSlots (s.slots - 1) := State.grantTest_of_noneWaits (s := s.setSlots (s.slots - 1)) none_
  rw [freed]
  exact State.cuts_of_chans rfl rfl (.of_eq rfl rfl)

theorem State.cuts_recoveryDone (none_ : s.noneWaits) (n : ChanId) : s.cuts (s.recoveryDone n) w := by
  have left : s.cuts (s.strokeLeaves n) w := State.cuts_strokeLeaves n
  have rests {x : ChanState} (off : x ≠ .drive ∧ x ≠ .engage ∧ x ≠ .held) :
      s.cuts ((s.strokeLeaves n).setChanState n x) w := left.trans (State.cuts_setChanState off)
  simp only [State.recoveryDone]
  split
  · exact (rests (by decide)).trans (State.cuts_of_chans rfl rfl (.of_eq rfl rfl))
  split
  · exact (rests (by decide)).trans (State.cuts_of_chans rfl rfl (.of_eq rfl rfl))
  · have idle := rests (x := .idle) (by decide)
    rw [State.grantTest_of_noneWaits (idle.noneWaits none_)]
    exact idle

/-- A channel that comes to RECOVER, its recovery over already or not, is off. -/
theorem State.cuts_enterRecover (none_ : s.noneWaits) (n : ChanId) (start : DevTime) :
    s.cuts (s.enterRecover n start) w ∧ ((s.enterRecover n start).chan n).state ≠ .drive := by
  have recovers : s.cuts (s.setChan n { s.chan n with
      state := .recover, recoveryEnd := start + BitVec.ofNat 32 (s.ccfg n).recovery }) w :=
    State.cuts_setChan ⟨rfl, .inr (by simp [Channel.on]), fun k hk => ⟨k, hk, rfl⟩, .inl rfl⟩
  simp only [State.enterRecover]
  split
  · have done := State.cuts_recoveryDone (w := w) (recovers.noneWaits none_) n
    refine ⟨recovers.trans done, ?_⟩
    rcases (done.chans n).state with same | off
    · rw [same, State.setChan_chan_same]
      nofun
    · exact fun drive => off (.inl drive)
  · refine ⟨recovers, ?_⟩
    rw [State.setChan_chan_same]
    nofun

theorem State.cuts_resolvePlayed {n : ChanId} {k : Stroke} (held : (s.chan n).stroke = some k) (area : s.covered w) :
    s.cuts (s.resolvePlayed n k) w := by
  have marked : s.cuts (s.markResolved n k) w :=
    State.cuts_setChan ⟨rfl, .inl rfl, fun j hj => ⟨k, held, by cases hj; rfl⟩, .inl rfl⟩
  refine marked.trans (State.cuts_of_chans rfl rfl
    (State.writesOnly_writeResult _ ?_ fun a ha => area n a (.inl ⟨k, held, ha⟩)))
  simp [State.strikeResult, StrikeResult.bytes, leSigned16]

/-- Where the stroke goes when its pulse has ended, its channel is off. -/
theorem State.cuts_afterPulse (none_ : s.noneWaits) (area : s.covered w) (n : ChanId) :
    s.cuts (s.afterPulse n) w ∧ ((s.afterPulse n).chan n).state ≠ .drive := by
  have flies : s.cuts (s.setChanState n .flight) w ∧ ((s.setChanState n .flight).chan n).state ≠ .drive := by
    refine ⟨State.cuts_setChanState (by decide), ?_⟩
    rw [State.setChanState_state]
    nofun
  unfold State.afterPulse
  split
  · exact flies
  next k held =>
    split
    · have played := State.cuts_resolvePlayed held area
      obtain ⟨cut, off⟩ := State.cuts_enterRecover (w := w) (played.noneWaits none_) n k.pulseEnd
      exact ⟨played.trans cut, off⟩
    split
    · exact State.cuts_enterRecover none_ n _
    split
    · exact State.cuts_enterRecover none_ n _
    · exact flies

theorem State.cuts_pulseOff (none_ : s.noneWaits) (n : ChanId) (till : DevTime) : s.cuts (s.pulseOff n till) w := by
  unfold State.pulseOff
  split
  next k held =>
    have ended : s.cuts (s.setChan n { s.chan n with stroke := some { k with pulseEnd := till } }) w :=
      State.cuts_setChan ⟨rfl, .inl rfl, fun j hj => by cases hj; exact ⟨k, held, rfl⟩, .inl rfl⟩
    exact (ended.trans (State.cuts_freeSlot (ended.noneWaits none_))).trans (State.cuts_addHeat n _)
  next => exact State.cuts_freeSlot none_

/-- BROWN leaves no pulse of a STRIKE channel (R88). -/
theorem State.cuts_truncatePulse (none_ : s.noneWaits) (area : s.covered w) (n : ChanId) :
    s.cuts (s.truncatePulse n) w ∧ ((s.truncatePulse n).chan n).state ≠ .drive := by
  unfold State.truncatePulse
  split
  · have ended := State.cuts_pulseOff (w := w) none_ n s.scu.dt
    obtain ⟨cut, off⟩ := State.cuts_afterPulse (ended.noneWaits none_) (ended.covered area) n
    exact ⟨ended.trans cut, off⟩
  next off => exact ⟨.refl s w, off⟩

/-! ### Holds -/

theorem State.cuts_engageOver (none_ : s.noneWaits) (area : s.covered w) (n : ChanId) (till : DevTime) (o : CueOutcome)
    (d : DropCause) : s.cuts (s.engageOver n till o d) w := by
  have freed := State.cuts_freeSlot (w := w) none_
  unfold State.engageOver
  split
  next g held =>
    have heated := freed.trans (State.cuts_addHeat n (g.driven till))
    have left : s.cuts ((s.freeSlot.addHeat n (g.driven till)).setChan n
        { (s.freeSlot.addHeat n (g.driven till)).chan n with engage := none }) w :=
      heated.trans (State.cuts_setChan ⟨rfl, .inl rfl, fun k hk => ⟨k, hk, rfl⟩, .inr rfl⟩)
    exact left.trans (State.cuts_of_chans (by simp) (by simp) (State.writesOnly_resolve? _ (by simp [holdResult])
      fun c hc a ha => area n a (.inr ⟨g, c, held, hc, ha⟩)))
  next => exact freed

/-- Forced off, a channel is neither engaging nor held (R115). -/
theorem State.cuts_forceRelease (none_ : s.noneWaits) (area : s.covered w) (n : ChanId) (o : CueOutcome) (d : DropCause) :
    s.cuts (s.forceRelease n o d) w ∧ ((s.forceRelease n o d).chan n).state ≠ .engage ∧
      ((s.forceRelease n o d).chan n).state ≠ .held := by
  have released (u : State) : ((u.setChanState n .released).chan n).state ≠ .engage ∧
      ((u.setChanState n .released).chan n).state ≠ .held := by
    rw [State.setChanState_state]
    decide
  unfold State.forceRelease
  split
  · exact ⟨(State.cuts_engageOver none_ area n _ o d).trans (State.cuts_setChanState (by decide)), released _⟩
  · exact ⟨State.cuts_setChanState (by decide), released _⟩
  all_goals exact ⟨.refl s w, by simp_all, by simp_all⟩

theorem State.cuts_brownHold (none_ : s.noneWaits) (area : s.covered w) (n : ChanId) :
    s.cuts (State.brownHold n s) w ∧ ((s.ccfg n).cls = .hold →
      ((State.brownHold n s).chan n).state ≠ .engage ∧ ((State.brownHold n s).chan n).state ≠ .held) := by
  unfold State.brownHold
  split
  · obtain ⟨cut, off⟩ := State.cuts_forceRelease none_ area n .dropped .supply
    exact ⟨cut, fun _ => off⟩
  next other => exact ⟨.refl s w, fun hold => absurd hold other⟩

/-! ### Every channel -/

/-- Channels cut one after another: what is done to one, and lasts while its output is off, is done to all. -/
theorem State.foldl_cuts {f : ChanId → State → State} {done : ChanId → ChanState → Prop}
    (lasts : ∀ n (c : Channel), ¬c.on → done n c.state)
    (each : ∀ (u : State) n, u.perf = s.perf → u.noneWaits → u.covered w →
      u.cuts (f n u) w ∧ done n ((f n u).chan n).state ∧ (f n u).perf = u.perf)
    (l : List ChanId) (perf : t.perf = s.perf) (none_ : t.noneWaits) (area : t.covered w) :
    t.cuts (l.foldl (fun u n => f n u) t) w ∧
      ∀ n, n ∈ l ∨ done n (t.chan n).state → done n ((l.foldl (fun u n => f n u) t).chan n).state := by
  induction l generalizing t with
  | nil => exact ⟨.refl t w, fun n h => h.resolve_left (by simp)⟩
  | cons m l ih =>
    obtain ⟨cut, own, kept⟩ := each t m perf none_ area
    obtain ⟨cut', rest⟩ := ih (kept.trans perf) (cut.noneWaits none_) (cut.covered area)
    refine ⟨cut.trans cut', fun n hn => rest n ?_⟩
    by_cases same : n = m
    · rw [same]
      exact .inr own
    · refine hn.imp (fun mem => (List.mem_cons.1 mem).resolve_left same) fun before => ?_
      rcases (cut.chans n).state with stays | off
      · rwa [stays]
      · exact lasts n _ off

/-- The STRIKE channels and then the HOLD channels cut: no output is driven or held (R88, R115). -/
theorem State.cuts_brown (none_ : s.noneWaits) (area : s.covered w) (fit : ∀ n, (s.chan n).fits (s.ccfg n).cls) :
    let t := (s.forChans fun n u => u.truncatePulse n).forChans State.brownHold
    s.cuts t w ∧ ∀ n, ¬(t.chan n).on := by
  obtain ⟨cut, off⟩ := State.foldl_cuts (s := s) (w := w) (f := fun n u => u.truncatePulse n) (done := fun _ x => x ≠ .drive)
    (fun _ _ off drive => off (.inl drive))
    (fun u n _ none_ area => by
      obtain ⟨cut, off⟩ := State.cuts_truncatePulse none_ area n
      exact ⟨cut, off, by simp⟩)
    allChans rfl none_ area
  have perf : (s.forChans fun n u => u.truncatePulse n).perf = s.perf := fold_keep State.perf (by simp) rfl
  obtain ⟨cut', off'⟩ := State.foldl_cuts (s := s) (w := w) (f := State.brownHold)
    (done := fun n x => (s.ccfg n).cls = .hold → x ≠ .engage ∧ x ≠ .held)
    (fun _ _ off _ => ⟨fun engage => off (.inr (.inl engage)), fun held => off (.inr (.inr held))⟩)
    (fun u n perf none_ area => by
      obtain ⟨cut, off⟩ := State.cuts_brownHold none_ area n
      rw [State.ccfg_of_perf perf] at off
      exact ⟨cut, off, by simp⟩)
    allChans perf (cut.noneWaits none_) (cut.covered area)
  intro t
  have whole : s.cuts t w := cut.trans cut'
  refine ⟨whole, fun n on => ?_⟩
  have asBefore : (t.chan n).state = (s.chan n).state := (whole.chans n).state.resolve_right fun off => off on
  have asBetween := (cut'.chans n).state.resolve_right fun off => off on
  have hold : (t.chan n).state = .engage ∨ (t.chan n).state = .held → (s.ccfg n).cls = .hold := fun h =>
    (fit n).2.1 (.inr (asBefore ▸ h))
  rcases on with drive | engage | held
  · exact off n (.inl (List.mem_finRange n)) (asBetween.symm.trans drive)
  · exact (off' n (.inl (List.mem_finRange n)) (hold (.inl engage))).1 engage
  · exact (off' n (.inl (List.mem_finRange n)) (hold (.inr held))).2 held
end

end Sys2Proof.Machine

/-! PROOFS. The housekeeping event: the level taken, the link polled, the lines written. -/
namespace Sys2Proof.Machine
open Sys2Proof

/-! ### What reading on writes, wherever the open passes stand -/

/-- From `s` to `t` the reader went on: it wrote the fault record, completion counts in block space, and those of the passes
open in `s`. -/
structure State.readingWrites (s t : State) : Prop where
  passes : ∀ p ∈ t.passes, (∃ q ∈ s.passes, q.block = p.block) ∨ validBlockAddr p.block = true
  mem    : ∀ a, ¬readingBytes a → ¬passCount s a → Memory.read t.mem a = Memory.read s.mem a

section
variable {s t u : State}

theorem State.readingWrites.refl (s : State) : s.readingWrites s := ⟨fun p hp => .inl ⟨p, hp, rfl⟩, fun _ _ _ => rfl⟩

theorem State.readingWrites.trans (h : s.readingWrites t) (k : t.readingWrites u) : s.readingWrites u where
  passes p hp := by
    rcases k.passes p hp with ⟨q, hq, same⟩ | valid
    · exact same ▸ h.passes q hq
    · exact .inr valid
  mem a out count := by
    refine (k.mem a out fun ⟨p, hp, at_⟩ => ?_).trans (h.mem a out count)
    rcases h.passes p hp with ⟨q, hq, same⟩ | valid
    · exact count ⟨q, hq, by rw [same, at_]⟩
    · exact out (at_ ▸ readingBytes_completion valid)

theorem State.readingWrites.of_writesOnly (h : s.writesOnly t fun _ => False) : s.readingWrites t :=
  ⟨fun p hp => .inl (h.passes p hp), fun a _ count => h.mem a id count⟩

theorem State.readingWrites.of_eq (mem : t.mem = s.mem) (passes : t.passes = s.passes) : s.readingWrites t :=
  .of_writesOnly (.of_eq mem passes)

theorem State.readingWrites_leavePass (s : State) : s.readingWrites s.leavePass := .of_writesOnly (s.writesOnly_leavePass _)

theorem State.readingWrites_handFault (s : State) (i : FaultInfo) : s.readingWrites (s.handFault i) where
  passes p hp := .inl ⟨p, by simpa using hp, rfl⟩
  mem _ out _ := s.read_handFault i fun h => out (.inl h)

theorem State.readingWrites_chainFault (s : State) (d : FaultDetail) (b : Addr) (i k : Nat) : s.readingWrites (s.chainFault d b i k) := by
  have stops : s.readingWrites (s.setReader { s.reader with state := .faulted, pending := .none }) := .of_eq rfl rfl
  exact ((stops.trans (State.readingWrites_leavePass _)).trans (State.readingWrites_handFault _ _)).trans (.of_eq rfl rfl)

theorem State.readingWrites_takeEnd (s : State) : s.readingWrites s.takeEnd := by
  have stops : s.readingWrites (s.setReader { s.reader with state := .finished, pending := .none }) := .of_eq rfl rfl
  exact (stops.trans (State.readingWrites_leavePass _)).trans (.of_eq rfl rfl)

theorem State.readingWrites_enterLinkWait (s : State) : s.readingWrites s.enterLinkWait := by
  unfold State.enterLinkWait State.starvedTest
  split <;> exact .of_eq rfl rfl

theorem State.readingWrites_readSlot (s : State) (k : Nat) : s.readingWrites (s.readSlot k) := by
  simp only [State.readSlot]
  split
  · exact .of_eq rfl rfl
  · exact s.readingWrites_chainFault _ _ _ _

theorem State.readingWrites_entryFault (s : State) (a : Addr) (how : Entry) (d : FaultDetail) : s.readingWrites (s.entryFault a how d) := by
  unfold State.entryFault
  split
  · exact s.readingWrites_chainFault _ _ _ _
  · cases how <;> exact s.readingWrites_chainFault _ _ _ _

theorem State.readingWrites_stallEntry (s : State) (a : Addr) (how : Entry) (x : ReaderState) : s.readingWrites (s.stallEntry a how x) := by
  cases how <;> exact .of_eq rfl rfl

theorem State.readingWrites_commitEntry (s : State) {a : Addr} (how : Entry) (valid : validBlockAddr a = true) :
    s.readingWrites (s.commitEntry a how) := by
  have entered : s.leavePass.readingWrites (s.commitEntry a how) := by
    refine ⟨fun p hp => ?_, fun _ _ _ => rfl⟩
    rcases List.mem_append.1 hp with hp | hp
    · exact .inl ⟨p, hp, rfl⟩
    · rw [List.mem_singleton.1 hp]
      exact .inr valid
  exact s.readingWrites_leavePass.trans entered

theorem State.readingWrites_enterBlock (s : State) (a : Addr) (how : Entry) (fuel : Nat) : s.readingWrites (s.enterBlock a how fuel) := by
  induction fuel generalizing s a how with
  | zero => exact s.readingWrites_stallEntry _ _ _
  | succ fuel ih =>
    simp only [State.enterBlock]
    split
    · exact s.readingWrites_stallEntry _ _ _
    split
    · exact s.readingWrites_entryFault _ _ _
    next good =>
      refine (s.readingWrites_commitEntry how (validBlockAddr_of_header good)).trans ?_
      split
      · split
        · exact ih _ _ _
        · exact State.readingWrites_enterLinkWait _
        · exact State.readingWrites_takeEnd _
        · exact State.readingWrites_chainFault _ _ _ _ _
      · exact State.readingWrites_readSlot _ _

theorem State.readingWrites_pollLink (s : State) : s.readingWrites s.pollLink := by
  unfold State.pollLink
  split
  · split
    · exact .refl s
    · exact s.readingWrites_enterBlock _ _ _
    · exact s.readingWrites_takeEnd
    · exact s.readingWrites_chainFault _ _ _ _
  · exact .refl s

theorem State.pollLink_goesOnTo (s : State) : s.goesOnTo s.pollLink := by
  unfold State.pollLink
  split
  · split
    · exact .refl s
    · exact s.enterBlock_goesOnTo _ (.inr rfl) _
    · exact s.takeEnd_goesOnTo
    · exact s.chainFault_goesOnTo _ _ _ _
  · exact .refl s
end

/-! ### BROWN is taken (R77, R88, R115, R124) -/

/-- No entry waits any more, and those that did not stay. -/
theorem State.dropWaiting_fq (s : State) : s.dropWaiting.noneWaits ∧ s.dropWaiting.fq.Sublist s.fq := by
  have queue := State.foldl_fqResolve_fq (s.fq.filter FqEntry.waiting) s .dropped .supply true
  rw [State.noneWaits, State.dropWaiting, queue]
  refine ⟨fun e he => ?_, List.filter_sublist⟩
  obtain ⟨he, left⟩ := List.mem_filter.1 he
  by_contra waits
  have waiting : e ∈ s.fq.filter FqEntry.waiting :=
    List.mem_filter.2 ⟨he, Option.isSome_iff_ne_none.2 waits⟩
  exact absurd (List.all_eq_true.1 left e waiting) (by simp)

theorem State.writesOnly_dropWaiting (s : State) : s.writesOnly s.dropWaiting (queuedResult s) :=
  State.writesOnly.foldl _ s fun u e he => u.writesOnly_fqResolve _ _ _ fun c hc _ area =>
    ⟨e, List.mem_of_mem_filter he, c, hc, area⟩

/-- The rotor at a standstill, its phase kept (R124). -/
def Rotor.still (x : Rotor) : Rotor := { x with rate := 0, search := none, nextStep := none }

/-- An OFF the rotor had not come to rest for is done at the standstill (R120). -/
theorem State.rotorBrown_eq (s : State) :
    s.rotorBrown = if s.rot.cmd = some .off ∧ s.rot.state = .running then
        ((s.setRot s.rot.still).rotorRest .stopped).rotorResolve .done
      else s.setRot s.rot.still := by
  have tested (off : s.rot.cmd = some .off) (running : s.rot.state = .running) : (s.setRot s.rot.still).rotorTest =
      ((s.setRot s.rot.still).rotorRest .stopped).rotorResolve .done := by
    have cmd : (s.setRot s.rot.still).rot.cmd = some .off := off
    simp only [State.rotorTest, cmd]
    exact if_pos ⟨running, rfl⟩
  unfold State.rotorBrown
  exact if_ctx_congr Iff.rfl (fun off => tested off.1 off.2) fun _ => rfl

theorem State.rotorBrown_rot (s : State) :
    s.rotorBrown.rot.rate = 0 ∧ s.rotorBrown.rot.search = none ∧ s.rotorBrown.rot.nextStep = none ∧
      s.rotorBrown.rot.phase = s.rot.phase := by
  rw [State.rotorBrown_eq]
  split
  · rw [State.rotorResolve_rot]
    exact ⟨rfl, rfl, rfl, rfl⟩
  · exact ⟨rfl, rfl, rfl, rfl⟩

theorem State.writesOnly_rotorBrown (s : State) : s.writesOnly s.rotorBrown (rotorResultArea s) := by
  rw [State.rotorBrown_eq]
  split
  · exact State.writesOnly.after (State.rotorResolve_writesOnly _ _) rfl rfl
  · exact .of_eq rfl rfl

/-- The results BROWN writes: of waiting entries, of engages and strokes it cuts, and of an OFF of the rotor. -/
def State.brownResults (s : State) (a : Nat) : Prop :=
  queuedResult s a ∨ (∃ n, channelResult s n a) ∨ rotorResultArea s a

/-- What BROWN does to the queue, the channels, the rotor and cue memory. -/
theorem State.takeBrown_spec {s : State} (fit : ∀ n, (s.chan n).fits (s.ccfg n).cls) :
    (∀ e ∈ s.takeBrown.fq, e ∈ s.fq ∧ e.wait = none) ∧
      (∀ n, ¬(s.takeBrown.chan n).on ∧ (s.takeBrown.chan n).holdWanted = (s.chan n).holdWanted) ∧
      (s.takeBrown.rot.rate = 0 ∧ s.takeBrown.rot.search = none ∧ s.takeBrown.rot.nextStep = none ∧
        s.takeBrown.rot.phase = s.rot.phase) ∧
      s.writesOnly s.takeBrown s.brownResults := by
  obtain ⟨none_, left⟩ := s.dropWaiting_fq
  have chans : s.dropWaiting.chans = s.chans := by simp
  have chan (n : ChanId) : s.dropWaiting.chan n = s.chan n := by simp only [State.chan, chans]
  have perf : s.dropWaiting.perf = s.perf := by simp
  have area : s.dropWaiting.covered s.brownResults := by
    intro n a ha
    rw [channelResult, chan] at ha
    exact .inr (.inl ⟨n, ha⟩)
  have fit' (n : ChanId) : (s.dropWaiting.chan n).fits (s.dropWaiting.ccfg n).cls := by
    rw [chan, State.ccfg_of_perf perf]
    exact fit n
  obtain ⟨cut, off⟩ := State.cuts_brown none_ area fit'
  generalize ht : (s.dropWaiting.forChans fun n u => u.truncatePulse n).forChans State.brownHold = t at cut off
  have rot : t.rot = s.rot := by
    rw [← ht]
    exact fold_keep State.rot (by simp) (fold_keep State.rot (by simp) (by simp))
  have taken : s.takeBrown = t.rotorBrown := by rw [← ht]; rfl
  have queue : t.rotorBrown.fq = s.dropWaiting.fq := by rw [← cut.fq]; simp
  have channels (n : ChanId) : t.rotorBrown.chan n = t.chan n := by simp only [State.chan, State.rotorBrown_keeps]
  rw [taken]
  refine ⟨fun e he => ?_, fun n => ?_, rot ▸ t.rotorBrown_rot, ?_⟩
  · rw [queue] at he
    exact ⟨left.subset he, none_ e he⟩
  · rw [channels]
    exact ⟨off n, (cut.chans n).wanted.trans (congrArg _ (chan n))⟩
  · have dropped := s.writesOnly_dropWaiting.mono (v := s.brownResults) fun _ h => .inl h
    have rests := t.writesOnly_rotorBrown.mono (v := s.brownResults) fun a h => .inr (.inr (by
      rw [rotorResultArea, rot] at h
      exact h))
    exact (dropped.trans cut.writes).trans rests

/-! ### The event -/

/-- The level the sample finds, with what VSENSE read and the next housekeeping due. -/
def State.sampled (s : State) (v : Nat) (new : SupplyLevel) : State :=
  (s.setSched { s.sched with houseDue := s.sched.houseDue + 1000 }).setCsm
    { s.csm with vsense := v, reading := BitVec.ofNat 8 (vsenseReading v), level := new }

theorem State.sampled_eq (s : State) (v : Nat) (new : SupplyLevel) :
    ∃ c d, s.sampled v new = { s with csm := c, sched := d } ∧ c.level = new := by
  have set (x : Csm) (y : Sched) : (s.setSched y).setCsm x = { s with csm := x, sched := y } := rfl
  exact ⟨_, _, set _ _, rfl⟩

/-- The actions a new level asks for, from an old one (R139). -/
def State.takeLevel (s : State) (old new : SupplyLevel) : State :=
  match new with
  | .brown => s.takeBrown
  | .normal => s.grantTest
  | .sag => if old = SupplyLevel.brown then s.forChans State.reengageAfterBrown else s

theorem State.changeLevel_eq (s : State) (new : SupplyLevel) :
    s.changeLevel new = ((s.setCsm { s.csm with level := new }).takeLevel s.csm.level new).setFlag .supply := by
  cases new <;> rfl

/-- A sample that finds another level (R136, R138). -/
theorem State.sampleSupply_changes {s : State} {v : Nat} {l : Latch} {new : SupplyLevel} (latched : s.perf.latch = some l)
    (finds : nextLevel l.global s.csm.level (vsenseReading v) = new) (changes : s.csm.level ≠ new) :
    s.sampleSupply v =
      (s.setCsm { s.csm with vsense := v, reading := BitVec.ofNat 8 (vsenseReading v) }).changeLevel new := by
  simp only [State.sampleSupply, State.setCsm_perf, latched, State.setCsm_csm, finds]
  exact if_neg fun same => changes same.symm

/-- A housekeeping event that finds another level. -/
theorem exec_housekeepingEvent {s : State} {v : Nat} {l : Latch} {new : SupplyLevel} (hn : s.nrstLow = false)
    (due : reached s.scu.dt s.sched.houseDue = true) (latched : s.perf.latch = some l)
    (finds : nextLevel l.global s.csm.level (vsenseReading v) = new) (changes : s.csm.level ≠ new) :
    exec (.housekeepingEvent v) s =
      .next (publish s (((s.sampled v new).takeLevel s.csm.level new).setFlag .supply).pollLink.writeLineB) := by
  have isDue : housekeepingDue s = true := due
  have taken : execHousekeepingEvent v s = .next
      (publish s ((s.setSched { s.sched with houseDue := s.sched.houseDue + 1000 }).housekeeping v)) := by
    simp only [execHousekeepingEvent, isDue, if_true]
    exact if_neg (by rw [hn]; nofun)
  have sample : (s.setSched { s.sched with houseDue := s.sched.houseDue + 1000 }).sampleSupply v =
      ((s.sampled v new).takeLevel s.csm.level new).setFlag .supply := by
    refine (State.sampleSupply_changes (s := s.setSched { s.sched with houseDue := s.sched.houseDue + 1000 })
      latched finds changes).trans ?_
    have twice (u : State) (x y : Csm) : (u.setCsm x).setCsm y = u.setCsm y := rfl
    rw [State.changeLevel_eq, twice]
    rfl
  exact taken.trans (by rw [State.housekeeping, sample])

/-- What the event writes when the link has been polled: line B and what every step publishes. -/
theorem sameOutside_housekeeping (b x : State) :
    sameOutside x (publish b x.writeLineB) fun a => published a ∨ (0x20 ≤ a ∧ a < 0x30) := by
  intro a out
  rw [not_or] at out
  have lineB : Memory.read x.writeLineB.mem a = Memory.read x.mem a := x.read_poke_ne _ (by
    rw [State.lineB_length]
    omega)
  exact (read_publish b x.writeLineB out.1).trans lineB

theorem publish_writeLineB (b x : State) : publish b x.writeLineB = { x with mem := (publish b x.writeLineB).mem } :=
  publish_eq b x.writeLineB

/-- No link is polled where the reader does not wait at one. -/
theorem State.pollLink_of_notWaiting {s : State} (h : ¬(s.perf.state = .running ∧ s.reader.state = .linkWait)) :
    s.pollLink = s := if_neg h

end Sys2Proof.Machine

/-! PROOFS. The supply levels: BROWN, the re-engages after it, and NORMAL. -/
namespace Sys2Proof.Machine
open Sys2Proof

/-! ### The re-engages after BROWN (R62, R114, R115) -/

/-- A channel asks for a re-engage: RELEASED, of class HOLD, with its hold wanted. -/
abbrev State.wantsBack (s : State) (n : ChanId) : Prop :=
  (s.ccfg n).cls = .hold ∧ (s.chan n).state = .released ∧ (s.chan n).holdWanted = true

theorem State.wantsReengage_iff (s : State) (n : ChanId) : s.wantsReengage n = true ↔ s.wantsBack n := by
  simp [State.wantsReengage, State.wantsBack, and_assoc]

/-- What is left of a request: its ENGAGE waits in the queue, or there is no room and it stands. -/
abbrev State.served (s t : State) (n : ChanId) : Prop :=
  (t.chan n = { s.chan n with standing := false } ∧ ∃ e ∈ t.fq, e.work = .engage none n ∧ e.onset = s.scu.pt.toNat ∧
      e.fireTime = s.scu.pt.toNat ∧ e.wait = none ∧ s.fqSeq ≤ e.seq) ∨
    (t.chan n = { s.chan n with standing := true } ∧ 96 ≤ t.fq.length)

/-- The channels of a list that asked for a re-engage have been served, and nothing else has changed. -/
structure State.reengages (s t : State) (l : List ChanId) : Prop where
  frame  : t = { s with fq := t.fq, fqSeq := t.fqSeq, chans := t.chans }
  queue  : s.fq.Sublist t.fq
  joined : t.fqSeq + s.fq.length = s.fqSeq + t.fq.length
  fresh  : ∀ e ∈ t.fq, e ∈ s.fq ∨ ∃ n, s.wantsBack n ∧ e.work = .engage none n ∧ s.fqSeq ≤ e.seq
  served : ∀ n ∈ l, s.wantsBack n → s.served t n
  others : ∀ n, n ∉ l ∨ ¬s.wantsBack n → t.chan n = s.chan n

theorem State.reengages.refl (s : State) : s.reengages s [] :=
  ⟨rfl, .refl _, rfl, fun _ he => .inl he, nofun, fun _ _ => rfl⟩

/-- A request's entry joins, and no request of the channel stands any more. -/
theorem State.reengages_placeStanding {s : State} {n : ChanId} (wants : s.wantsBack n) : s.reengages (s.placeStanding n) [n] := by
  rw [State.placeStanding_eq]
  have own : State.chan { s with
      fq := fqInsert (s.reengaging n) s.fq, fqSeq := s.fqSeq + 1
      chans := s.chans.set n { s.chan n with standing := false } } n = { s.chan n with standing := false } :=
    s.setChan_chan_same n _
  have mem {e : FqEntry} : e ∈ fqInsert (s.reengaging n) s.fq ↔ e = s.reengaging n ∨ e ∈ s.fq :=
    (fqInsert_perm _ _).mem_iff.trans List.mem_cons
  refine ⟨rfl, sublist_fqInsert _ _, ?_, fun e he => ?_, fun m hm _ => ?_, fun m hm => ?_⟩
  · have length : (fqInsert (s.reengaging n) s.fq).length = s.fq.length + 1 := length_fqInsert _ _
    simp only [length]
    omega
  · rcases mem.1 he with rfl | he
    · exact .inr ⟨n, wants, rfl, Nat.le_refl _⟩
    · exact .inl he
  · obtain rfl := List.mem_singleton.1 hm
    exact .inl ⟨own, s.reengaging m, mem.2 (.inl rfl), rfl, rfl, max_self _, rfl, Nat.le_refl _⟩
  · have other : m ≠ n := by
      rintro rfl
      exact hm.elim (fun out => out List.mem_cons_self) fun not => not wants
    exact (s.chan_setChan n m _).trans (if_neg other)

/-- With no room the request stands. -/
theorem State.reengages_standing {s : State} {n : ChanId} (wants : s.wantsBack n) (full : 96 ≤ s.fq.length) :
    s.reengages (s.setChan n { s.chan n with standing := true }) [n] := by
  refine ⟨rfl, .refl _, rfl, fun _ he => .inl he, fun m hm _ => ?_, fun m hm => ?_⟩
  · obtain rfl := List.mem_singleton.1 hm
    exact .inr ⟨s.setChan_chan_same m _, full⟩
  · have other : m ≠ n := by
      rintro rfl
      exact hm.elim (fun out => out List.mem_cons_self) fun not => not wants
    exact (s.chan_setChan n m _).trans (if_neg other)

theorem State.reengages_reengageAfterBrown (s : State) (n : ChanId) : s.reengages (s.reengageAfterBrown n) [n] := by
  by_cases wants : s.wantsBack n
  · have asked : s.reengageAfterBrown n = s.requestReengage n := if_pos ((s.wantsReengage_iff n).2 wants)
    rw [asked, State.requestReengage]
    split
    · exact State.reengages_placeStanding wants
    next noRoom => exact State.reengages_standing wants (by simpa [State.fqRoom] using noRoom)
  · have idle : s.reengageAfterBrown n = s := if_neg fun h => wants ((s.wantsReengage_iff n).1 h)
    rw [idle]
    refine ⟨rfl, .refl _, rfl, fun _ he => .inl he, fun m hm want => ?_, fun _ _ => rfl⟩
    obtain rfl := List.mem_singleton.1 hm
    exact absurd want wants

/-- Of a channel only the standing request may have changed. -/
theorem State.reengages.chan {s t : State} {l : List ChanId} (h : s.reengages t l) (m : ChanId) :
    t.chan m = { s.chan m with standing := (t.chan m).standing } := by
  by_cases asked : m ∈ l ∧ s.wantsBack m
  · rcases h.served m asked.1 asked.2 with ⟨same, -⟩ | ⟨same, -⟩ <;> rw [same]
  · rw [h.others m (not_and_or.1 asked)]

theorem State.reengages.wantsBack_iff {s t : State} {l : List ChanId} (h : s.reengages t l) (m : ChanId) :
    t.wantsBack m ↔ s.wantsBack m := by
  have perf : t.perf = s.perf := by rw [h.frame]
  rw [State.wantsBack, State.ccfg_of_perf perf, h.chan m]

theorem State.reengages.cons {s t u : State} {n : ChanId} {l : List ChanId} (first : s.reengages t [n]) (rest : t.reengages u l)
    (once : n ∉ l) : s.reengages u (n :: l) := by
  have scu : t.scu = s.scu := by rw [first.frame]
  have later : s.fqSeq ≤ t.fqSeq := by
    have grows := first.queue.length_le
    have joined := first.joined
    omega
  refine ⟨?_, first.queue.trans rest.queue, ?_, fun e he => ?_, fun m hm wants => ?_, fun m hm => ?_⟩
  · rw [rest.frame, first.frame]
  · have joined := first.joined
    have joined' := rest.joined
    omega
  · rcases rest.fresh e he with he | ⟨m, wants, work, seq⟩
    · rcases first.fresh e he with he | ⟨m, wants, work, seq⟩
      · exact .inl he
      · exact .inr ⟨m, wants, work, seq⟩
    · exact .inr ⟨m, (first.wantsBack_iff m).1 wants, work, later.trans seq⟩
  · by_cases own : m = n
    · subst own
      have same : u.chan m = t.chan m := rest.others m (.inl once)
      rw [State.served, same]
      exact (first.served m List.mem_cons_self wants).imp
        (fun ⟨chan, e, he, entry⟩ => ⟨chan, e, rest.queue.subset he, entry⟩)
        fun ⟨chan, full⟩ => ⟨chan, full.trans rest.queue.length_le⟩
    · have same : t.chan m = s.chan m := first.others m (.inl fun h => own (List.mem_singleton.1 h))
      have served := rest.served m ((List.mem_cons.1 hm).resolve_left own) ((first.wantsBack_iff m).2 wants)
      rw [State.served, same, scu] at served
      exact served.imp_left fun ⟨chan, e, he, work, onset, fires, waits, seq⟩ =>
        ⟨chan, e, he, work, onset, fires, waits, later.trans seq⟩
  · have after : u.chan m = t.chan m := rest.others m (hm.imp (fun out h => out (List.mem_cons_of_mem n h))
      fun not wants => not ((first.wantsBack_iff m).1 wants))
    have before : t.chan m = s.chan m := first.others m (hm.imp_left fun out h => out (by
      rw [List.mem_singleton.1 h]
      exact List.mem_cons_self))
    exact after.trans before

/-- Every channel in turn. -/
theorem State.reengages_foldl {l : List ChanId} (once : l.Nodup) (s : State) :
    s.reengages (l.foldl (fun u n => u.reengageAfterBrown n) s) l := by
  induction l generalizing s with
  | nil => exact .refl s
  | cons n l ih =>
    obtain ⟨out, once⟩ := List.nodup_cons.1 once
    exact (s.reengages_reengageAfterBrown n).cons (ih once _) out

/-! ### The three changes of level -/

/-- Where no link is polled, a level's actions, SUPPLY and what the event writes are all there is. -/
theorem exec_housekeepingEvent_unpolled {s : State} {v : Nat} {l : Latch} {new : SupplyLevel} (hn : s.nrstLow = false)
    (due : reached s.scu.dt s.sched.houseDue = true) (latched : s.perf.latch = some l)
    (finds : nextLevel l.global s.csm.level (vsenseReading v) = new) (changes : s.csm.level ≠ new)
    (away : ¬(s.perf.state = .running ∧ s.reader.state = .linkWait)) :
    ∃ c d, c.level = new ∧ ∀ x : State, State.takeLevel { s with csm := c, sched := d } s.csm.level new = x →
      x.perf = s.perf → x.reader = s.reader → x.regs = s.regs →
      ∃ m, exec (.housekeepingEvent v) s = .next { x with mem := m, regs := s.regs.withFlag .supply } ∧
        ∀ a, ¬(published a ∨ (0x20 ≤ a ∧ a < 0x30)) → Memory.read m a = Memory.read x.mem a := by
  obtain ⟨c, d, sampled, level⟩ := s.sampled_eq v new
  have answer := exec_housekeepingEvent hn due latched finds changes
  refine ⟨c, d, level, fun x acts perf reader regs => ?_⟩
  have rests : (x.setFlag .supply).pollLink = x.setFlag .supply := by
    refine State.pollLink_of_notWaiting ?_
    rw [show (x.setFlag .supply).perf = x.perf from rfl, show (x.setFlag .supply).reader = x.reader from rfl, perf, reader]
    exact away
  rw [sampled, acts, rests, publish_writeLineB] at answer
  refine ⟨_, ?_, sameOutside_housekeeping s (x.setFlag .supply)⟩
  rw [answer, ← regs]
  rfl

/-- After a level's actions SUPPLY is set, a link may be polled and the lines are written: the queue, the channels and the
rotor are left as they are. -/
theorem State.flagged_polled_written (b u : State) :
    ∃ t, publish b (u.setFlag .supply).pollLink.writeLineB = t ∧ t.flag .supply = true ∧
      (t.csm = u.csm ∧ t.fq = u.fq ∧ t.chans = u.chans ∧ t.rot = u.rot) ∧
      ∀ a, ¬(published a ∨ (0x20 ≤ a ∧ a < 0x30)) → ¬readingBytes a → ¬passCount u a →
        Memory.read t.mem a = Memory.read u.mem a := by
  have polled := State.readingWrites_pollLink (u.setFlag .supply)
  have written := sameOutside_housekeeping b (u.setFlag .supply).pollLink
  have flag := (u.setFlag .supply).pollLink_goesOnTo.flags .supply (State.flag_setFlag u .supply)
  rw [publish_writeLineB] at written ⊢
  refine ⟨_, rfl, flag, by simp, fun a out reading count => ?_⟩
  exact (written a out).trans (polled.mem a reading count)

/-- BROWN is found: its actions, and what follows at every change of level. -/
theorem exec_housekeepingEvent_brown {s : State} {v : Nat} {l : Latch} (hn : s.nrstLow = false)
    (due : reached s.scu.dt s.sched.houseDue = true) (latched : s.perf.latch = some l) (lit : s.csm.level ≠ .brown)
    (low : vsenseReading v ≤ l.global.brownOn) :
    ∃ c d, c.level = .brown ∧ exec (.housekeepingEvent v) s =
      .next (publish s ((State.takeBrown { s with csm := c, sched := d }).setFlag .supply).pollLink.writeLineB) := by
  have finds : nextLevel l.global s.csm.level (vsenseReading v) = .brown := by
    cases level : s.csm.level with
    | normal => exact if_pos low
    | sag => exact if_pos low
    | brown => exact absurd level lit
  have answer := exec_housekeepingEvent hn due latched finds lit
  obtain ⟨c, d, sampled, level⟩ := s.sampled_eq v .brown
  rw [sampled] at answer
  exact ⟨c, d, level, answer⟩

/-- Settles O41: BROWN cuts, its end re-engages, and NORMAL takes a grant test. -/
theorem supplyLevelChangesActOnEveryOutput : Obligations.SupplyLevelChangesActOnEveryOutput := by
  unfold Obligations.SupplyLevelChangesActOnEveryOutput
  refine ⟨fun s v l hn due latched lit low fit => ?_, fun s v l hn due latched brown high away => ?_,
    fun s v l hn due latched sag lit high away => ?_⟩
  · obtain ⟨c, d, level, answer⟩ := exec_housekeepingEvent_brown hn due latched lit low
    obtain ⟨t, is, flag, ⟨csm, fq, chans, rot⟩, mem⟩ :=
      State.flagged_polled_written s (State.takeBrown { s with csm := c, sched := d })
    obtain ⟨queue, channels, still, writes⟩ := State.takeBrown_spec (s := { s with csm := c, sched := d }) fit
    have brown : t.csm.level = .brown := by
      rw [csm]
      simpa using level
    have chan (n : ChanId) : t.chan n = (State.takeBrown { s with csm := c, sched := d }).chan n := by
      simp only [State.chan, chans]
    obtain ⟨rate, search, nextStep, phase⟩ := still
    rw [is] at answer
    rw [← rot] at rate search nextStep phase
    rw [← fq] at queue
    refine ⟨t, answer, brown, flag, queue, fun n => ?_, rate, search, nextStep, phase,
      fun n => by simp [State.drvOut, brown], by simp [State.phOut, brown], fun a out => ?_⟩
    · obtain ⟨off, wanted⟩ := channels n
      simp only [Channel.on, not_or] at off
      rw [chan]
      exact ⟨off.1, off.2.1, off.2.2, wanted⟩
    · obtain ⟨hpub, out⟩ := not_or.1 out
      simp only [not_or] at out
      obtain ⟨hline, hqueued, hchan, hrotor, hcount, hfault, hblock⟩ := out
      have results : ¬State.brownResults { s with csm := c, sched := d } a := by
        rintro (h | h | h)
        exacts [hqueued h, hchan h, hrotor h]
      refine (mem a (not_or.2 ⟨hpub, hline⟩) (not_or.2 ⟨hfault, hblock⟩) fun ⟨p, hp, at_⟩ => ?_).trans (writes.mem a results hcount)
      obtain ⟨q, hq, same⟩ := writes.passes p hp
      exact hcount ⟨q, hq, by rw [same, at_]⟩
  · intro wants
    have finds : nextLevel l.global s.csm.level (vsenseReading v) = .sag := by
      rw [brown]
      exact if_pos high
    obtain ⟨c, d, level, does⟩ := exec_housekeepingEvent_unpolled hn due latched finds (by rw [brown]; nofun) away
    have served := State.reengages_foldl (List.nodup_finRange 64) { s with csm := c, sched := d }
    generalize hx : (List.finRange 64).foldl (fun u n => State.reengageAfterBrown n u) { s with csm := c, sched := d } = x at served
    have frame := served.frame
    obtain ⟨m, answer, written⟩ := does x (by rw [← hx, brown]; rfl) (by rw [frame]) (by rw [frame]) (by rw [frame])
    refine ⟨_, answer, ?_, ?_, served.queue, served.joined, served.fresh, fun n hn => served.served n (List.mem_finRange n) hn,
      fun n hn => served.others n (.inr hn), ?_⟩
    · rw [frame]; exact level
    · rw [frame]
    · intro a out
      exact (written a out).trans (by rw [frame])
  · have finds : nextLevel l.global s.csm.level (vsenseReading v) = .normal := by
      rw [sag]
      exact (if_neg (Nat.not_le.2 lit)).trans (if_pos high)
    obtain ⟨c, d, level, does⟩ := exec_housekeepingEvent_unpolled hn due latched finds (by rw [sag]; nofun) away
    obtain ⟨m, answer, written⟩ := does (State.grantTest { s with csm := c, sched := d }) rfl (by simp) (by simp) (by simp)
    have csm : (State.grantTest { s with csm := c, sched := d }).csm = c := by simp
    have sched : (State.grantTest { s with csm := c, sched := d }).sched = d := by simp
    refine ⟨_, answer, (congrArg Csm.level csm).trans level, ?_⟩
    intro x
    have is : x = State.grantTest { s with csm := c, sched := d } := by simp only [x, csm, sched]
    rw [is]
    exact ⟨rfl, written⟩

end Sys2Proof.Machine

/-! PROOFS. The channels at a command and at a reset: CLEAR_CHANNEL and PERF_RESET. -/
namespace Sys2Proof.Machine
open Sys2Proof

/-! ### CLEAR_CHANNEL (R100) -/

/-- A CLEAR_CHANNEL that names a FAULTED STRIKE channel finds it. -/
theorem State.faultedChan_eq {s : State} {b : Byte} {n : ChanId} (named : b.toNat = n.val) (strike : (s.ccfg n).cls = .strike)
    (faulted : (s.chan n).state = .faulted) : s.faultedChan b = some n := by
  simp only [State.faultedChan, (s.chanOf_eq_some b .strike n).2 ⟨named, strike⟩, faulted, if_true]

/-- Settles O10: the channel is found, so the command is accepted and acts on it. -/
theorem clearChannelReturnsAFaultedChannelToIdle : Obligations.ClearChannelReturnsAFaultedChannelToIdle := by
  unfold Obligations.ClearChannelReturnsAFaultedChannelToIdle
  intro s b n hn named strike faulted
  have accepted : clearChannelVerdict b s = .accepted := by
    simp [clearChannelVerdict, State.faultedChan_eq named strike faulted]
  have taken : exec (.clearChannel b) s = _ := onControl_accepted (code := 7) (fun u => u.clearFaulted b) hn accepted
  have found : State.faultedChan { s with port := s.wrotePort regControl } b = some n :=
    State.faultedChan_eq named strike faulted
  have cleared : State.clearFaulted { s with port := s.wrotePort regControl } b =
      (State.setChan { s with port := s.wrotePort regControl } n { s.chan n with state := .idle, misses := 0 }).grantTest := by
    simp only [State.clearFaulted, found]
    rfl
  have regs : (State.setChan { s with port := s.wrotePort regControl } n
      { s.chan n with state := .idle, misses := 0 }).grantTest.regs = s.regs := by simp
  simp only [cleared, regs] at taken
  exact ⟨_, taken, publishes_publish s _⟩

/-! ### PERF_RESET (R156) -/

@[simp] theorem State.perfReset_chan (s : State) (n : ChanId) : s.perfReset.chan n = s.chanAfterPerfReset n := by
  rw [State.perfReset_eq]
  simp [State.chan, State.perfCleared]

theorem State.perfReset_siu (s : State) : s.perfReset.siu = s.siu.restart s.scu.dt := by
  rw [State.perfReset_eq]
  rfl

/-- Of cue memory PERF_RESET itself writes the three snapshot lines (R163). -/
theorem State.sameOutside_perfReset (s : State) : sameOutside s s.perfReset fun a => published a ∨ (0x20 ≤ a ∧ a < 0x30) := by
  intro a out
  obtain ⟨outside, lineB⟩ := not_or.1 out
  have writesB (u : State) : Memory.read u.writeLineB.mem a = Memory.read u.mem a := u.read_poke_ne _ (by
    rw [State.lineB_length]
    omega)
  exact (State.read_writeLineC _ outside).trans ((writesB _).trans (State.read_writeLineA _ outside))

/-- A pulse of no length heats nothing. -/
theorem heatAfterPulse_zero {heat : Nat} (gain : Nat) (cap : heat ≤ 65535) : heatAfterPulse heat 0 gain = heat := by
  simp [heatAfterPulse, cap]

/-- Only a channel in DRIVE or ENGAGE has a pulse to cut (R106, R108). -/
theorem Channel.drivenSince_of_off {c : Channel} (drive : c.state ≠ .drive) (engage : c.state ≠ .engage) (dt : DevTime) :
    c.drivenSince dt = 0 := by
  unfold Channel.drivenSince
  cases h : c.state with
  | drive => exact absurd h drive
  | engage => exact absurd h engage
  | _ => rfl

theorem Channel.drivenSince_drive {c : Channel} {k : Stroke} (drive : c.state = .drive) (held : c.stroke = some k) (dt : DevTime) :
    c.drivenSince dt = driven k.grantDt dt := by
  simp only [Channel.drivenSince, drive, held]

theorem Channel.drivenSince_engage {c : Channel} {g : EngageRun} (engage : c.state = .engage) (held : c.engage = some g)
    (dt : DevTime) : c.drivenSince dt = driven g.grantDt dt := by
  simp only [Channel.drivenSince, engage, held]

/-- In rehearsal PERF_RESET leaves the heat (R107). -/
theorem State.heatAfterPerfReset_rehearsed {s : State} (rehearsed : s.rehearsal = true) (n : ChanId) :
    (s.chanAfterPerfReset n).heat = (s.chan n).heat := if_pos rehearsed

/-- Outside rehearsal it adds that of the pulse it cuts (R101, R106). -/
theorem State.heatAfterPerfReset_audible {s : State} (audible : s.rehearsal = false) (n : ChanId) :
    (s.chanAfterPerfReset n).heat =
      heatAfterPulse (s.chan n).heat ((s.chan n).drivenSince s.scu.dt) (s.ccfg n).gain := if_neg (by simp [audible])

/-- A channel with no pulse to cut keeps its heat. -/
theorem State.heatAfterPerfReset_off {s : State} {n : ChanId} (drive : (s.chan n).state ≠ .drive)
    (engage : (s.chan n).state ≠ .engage) (cap : (s.chan n).heat ≤ 65535) :
    (s.chanAfterPerfReset n).heat = (s.chan n).heat := by
  cases mode : s.rehearsal with
  | true => exact State.heatAfterPerfReset_rehearsed mode n
  | false => rw [State.heatAfterPerfReset_audible mode, Channel.drivenSince_of_off drive engage, heatAfterPulse_zero _ cap]

/-- PERF_RESET is accepted in every state, with every attention flag cleared (R156). -/
theorem exec_perfReset {s : State} (hn : s.nrstLow = false) :
    exec .perfReset s = .next (publish s (State.setRegs (State.perfReset { s with port := s.wrotePort regControl })
      { code := 9, outcome := .accepted, flags := 0, enable := s.regs.enable })) :=
  (onControl_accepted (code := 9) (verdict := fun _ => .accepted) State.perfReset hn rfl).trans (by
    rw [State.perfReset_eq])

/-- Settles O11: the reset field by field, the heat by what the channel was doing. -/
theorem perfResetClearsThePerformanceAndKeepsTheRest : Obligations.PerfResetClearsThePerformanceAndKeepsTheRest := by
  unfold Obligations.PerfResetClearsThePerformanceAndKeepsTheRest
  intro s hn
  have taken := exec_perfReset hn
  generalize ht : publish s (State.setRegs (State.perfReset { s with port := s.wrotePort regControl })
    { code := 9, outcome := .accepted, flags := 0, enable := s.regs.enable }) = t at taken
  have chan (n : ChanId) : t.chan n = s.chanAfterPerfReset n := by
    have same : t.chans = (State.perfReset { s with port := s.wrotePort regControl }).chans := by simp [← ht]
    rw [State.chan, same]
    exact State.perfReset_chan { s with port := s.wrotePort regControl } n
  have siu : t.siu = s.siu.restart s.scu.dt := by
    rw [← ht, ← State.perfReset_siu { s with port := s.wrotePort regControl }]
    simp
  refine ⟨t, taken, ?_, fun n => ?_, fun n => by simp [siu, Siu.restart, freshFilter],
    congrArg Siu.synci siu, congrArg Siu.cuei siu, congrArg Siu.home siu, ?_, by rw [siu, Siu.restart],
    by rw [siu, Siu.restart], by rw [siu, Siu.restart], congrArg Siu.dfltSeen siu, fun a out => ?_⟩
  · subst ht
    apply State.eq_of_fields <;> simp [State.perfReset, State.perfCleared]
  · rw [chan]
    refine ⟨rfl, rfl, rfl, rfl, rfl, rfl, rfl, rfl, rfl, rfl, State.heatAfterPerfReset_off, fun k drive held audible => ?_,
      fun e engage held audible => ?_, fun rehearsed => State.heatAfterPerfReset_rehearsed rehearsed n⟩
    · rw [State.heatAfterPerfReset_audible audible, Channel.drivenSince_drive drive held]
      rfl
    · rw [State.heatAfterPerfReset_audible audible, Channel.drivenSince_engage engage held]
      rfl
  · rw [siu]
    simp [Siu.restart, QuietQual.sample, Siu.bothStops, Siu.stopAAsserted, Siu.stopBAsserted]
  · have reset := State.sameOutside_perfReset { s with port := s.wrotePort regControl } a out
    rw [← ht, read_publish s _ (not_or.1 out).1, State.setRegs_mem, reset]

end Sys2Proof.Machine

/-! PROOFS. STRIKE channels: the recovery end. -/
namespace Sys2Proof.Machine
open Sys2Proof

/-! ### The recovery end (R90, R94, R99) -/

theorem State.strokeLeaves_some {s : State} {n : ChanId} {k : Stroke} (held : (s.chan n).stroke = some k) :
    s.strokeLeaves n = State.endItem { s with chans := s.chans.set n { s.chan n with stroke := none } } k.cue.pass := by
  simp only [State.strokeLeaves, held]
  rfl

/-- Where no stroke is in flight none leaves. -/
theorem State.strokeLeaves_none {s : State} {n : ChanId} (empty : (s.chan n).stroke = none) :
    s.strokeLeaves n = { s with chans := s.chans.set n { s.chan n with stroke := none } } := by
  have same : { s.chan n with stroke := none } = s.chan n := by rw [← empty]
  rw [same]
  exact (by simp only [State.strokeLeaves, empty] : s.strokeLeaves n = s).trans (s.setChan_self n).symm

theorem State.strokeLeaves_chan (s : State) (n : ChanId) : (s.strokeLeaves n).chan n = { s.chan n with stroke := none } := by
  cases held : (s.chan n).stroke with
  | none =>
    rw [State.strokeLeaves_none held]
    exact s.setChan_chan_same n _
  | some k =>
    have kept (u : State) (p : Nat) : (u.endItem p).chan n = u.chan n := by simp [State.chan]
    rw [State.strokeLeaves_some held, kept]
    exact s.setChan_chan_same n _

/-- Where a channel goes when its recovery is over, as its stroke has left (R94, R99). -/
theorem State.recoveryDone_eq (s : State) (n : ChanId) :
    s.recoveryDone n =
      if s.global.missLimit ≠ 0 ∧ s.global.missLimit ≤ (s.chan n).misses then
        { (s.strokeLeaves n).setChanState n .faulted with regs := s.regs.withFlag .channel }
      else if (s.ccfg n).hot ≤ (s.chan n).heat then
        { (s.strokeLeaves n).setChanState n .cooldown with regs := s.regs.withFlag .channel }
      else ((s.strokeLeaves n).setChanState n .idle).grantTest := by
  have perf : (s.strokeLeaves n).perf = s.perf := by simp
  have flagged (x : ChanState) : ((s.strokeLeaves n).setChanState n x).setFlag .channel =
      { (s.strokeLeaves n).setChanState n x with regs := s.regs.withFlag .channel } := by
    have regs : ((s.strokeLeaves n).setChanState n x).regs = s.regs := by simp
    rw [← regs]
    rfl
  simp only [State.recoveryDone, State.dueToFault, State.global_of_perf perf, State.ccfg_of_perf perf, State.strokeLeaves_chan,
    flagged, Bool.and_eq_true, bne_iff_ne, decide_eq_true_eq]

/-- Settles O34: the event, the recovery already over when it is entered, and the end itself. -/
theorem aRecoveryEndsInIdleCooldownOrFault : Obligations.ARecoveryEndsInIdleCooldownOrFault := by
  unfold Obligations.ARecoveryEndsInIdleCooldownOrFault
  refine ⟨fun s n hn recovers ended => ?_, fun _ _ _ => rfl, fun s n => ?_⟩
  · exact ⟨_, onEvent_due (fun u => u.recoveryDone n) hn (by simp [recoveryEndDue, recovers, ended]), publishes_publish s _⟩
  · rw [State.recoveryDone_eq]
    cases held : (s.chan n).stroke with
    | none => rw [State.strokeLeaves_none held]
    | some k => rw [State.strokeLeaves_some held]

end Sys2Proof.Machine

/-! PROOFS. Contacts: the hit, the stray, and the synthesised contact of a rehearsal. -/
namespace Sys2Proof.Machine
open Sys2Proof

/-! ### A hit (R87, R90, R91) -/

/-- The conditions of R91 for a hit that teaches. -/
theorem State.teaches_iff (s : State) (n : ChanId) (k : Stroke) :
    s.teaches n k = true ↔
      (s.ccfg n).learnTrim = true ∧ k.second = false ∧ k.rerouted = false ∧ s.rehearsal = false := by
  simp [State.teaches, and_assoc]

theorem State.recordHit_eq (s : State) (n : ChanId) (k : Stroke) (raw : DevTime) : s.recordHit n k raw = s.hitRecorded n k raw := by
  simp only [State.recordHit, State.strikeResult_uncaused, State.teaches_iff]
  rfl

theorem State.hitRecorded_stroke (s : State) (n : ChanId) (k : Stroke) (raw : DevTime) :
    ((s.hitRecorded n k raw).chan n).stroke = some { k with contact := some raw, resolved := true } := by
  simp [State.hitRecorded, State.chan]

/-- A pulse with cut-off ends at once, with the contact in its stroke (R87). -/
theorem State.hitRecorded_pulseOff (s : State) (n : ChanId) (k : Stroke) (raw : DevTime) :
    let u := s.hitRecorded n k raw
    u.pulseOff n s.scu.dt = (u.setChan n { u.chan n with
      stroke := some { k with contact := some raw, resolved := true, pulseEnd := s.scu.dt } }).pulseOver n k.grantDt s.scu.dt :=
  State.pulseOff_eq (s.hitRecorded_stroke n k raw) s.scu.dt

/-- What a hit does goes by the channel's state: FLIGHT, DRIVE with cut-off, or neither. -/
theorem State.hit_eq (s : State) (n : ChanId) (k : Stroke) (raw : DevTime) : s.hit n k raw = s.hitTaken n k raw := by
  have cut : (s.hitRecorded n k raw).pulseOff n (s.hitRecorded n k raw).scu.dt = _ := s.hitRecorded_pulseOff n k raw
  simp only [State.hit, State.hitTaken, State.recordHit_eq, cut]
  cases state : (s.chan n).state with
  | drive => by_cases cuts : (s.ccfg n).cutOff = true <;> simp only [cuts] <;> rfl
  | _ => rfl

/-! ### A contact is judged (R89, R92) -/

/-- The contacts of a channel are taken: STRIKE, sensed, not OFF and outside rehearsal (R89, R107). -/
abbrev State.judges (s : State) (n : ChanId) : Prop :=
  (s.ccfg n).cls = .strike ∧ (s.ccfg n).sensePresent = true ∧ (s.chan n).state ≠ .off ∧ s.rehearsal = false

section
variable {s : State} {n : ChanId} {raw : DevTime}

theorem State.contact_ignored (deaf : ¬s.judges n) : s.contact n raw = s := if_neg deaf

/-- A contact in the window of the open stroke is its hit (R90). -/
theorem State.contact_hit {k : Stroke} (judges : s.judges n) (held : (s.chan n).stroke = some k) (undecided : k.resolved = false)
    (inside : k.inWindow raw = true) : s.contact n raw = s.hitTaken n k raw := by
  have found : s.hitBy n raw = some k := by simp [State.hitBy, held, undecided, inside]
  rw [State.contact, if_pos judges, found]
  exact s.hit_eq n k raw

/-- Any other is a stray (R92). -/
theorem State.contact_stray (judges : s.judges n)
    (missed : ∀ k, (s.chan n).stroke = some k → k.resolved = false → k.inWindow raw = false) : s.contact n raw = s.stray n := by
  have found : s.hitBy n raw = none := by
    unfold State.hitBy
    split
    next k held => exact if_neg fun ⟨undecided, inside⟩ => by simp [missed k held undecided] at inside
    next => rfl
  rw [State.contact, if_pos judges, found]
end

/-- The window of R89, bound by bound. -/
theorem Stroke.inWindow_iff (k : Stroke) (raw : DevTime) :
    k.inWindow raw = true ↔ reached raw k.windowOpen = true ∧ reached raw k.grantDt = true ∧ reached k.windowClose raw = true := by
  simp [Stroke.inWindow, and_assoc]

/-! ### The edge that delivers it (R127, R128) -/

/-- The filter of a contact line has accepted the sense edge. -/
abbrev State.contactSettled (s : State) (n : ChanId) : State :=
  { s with siu := { s.siu with sns := s.siu.sns.set n { settled := !(s.ccfg n).senseFalling, qual := none } } }

theorem exec_contactAccepted {s : State} {n : ChanId} {q : Qual} {l : Latch} (hn : s.nrstLow = false)
    (latched : s.perf.latch = some l) (line : s.siu.sns[n] = { settled := (s.ccfg n).senseFalling, qual := some q })
    (steady : q.bounce = none) (held : reached s.scu.dt (q.holdStart + BitVec.ofNat 32 s.global.contactFilter) = true) :
    exec (.contactAccepted n) s = .next (publish s ((s.contactSettled n).contact n q.rawDt)) := by
  have filter : s.filter (.sns n) = { settled := (s.ccfg n).senseFalling, qual := some q } := line
  have accepted : s.accepts (.sns n) = some q.rawDt := by
    simp [State.accepts, filter, steady, State.filterTime, latched, held]
  have due : edgeDue (.sns n) s = true := by simp [edgeDue, accepted, State.delivers, filter, latched]
  have settled : s.settleLine (.sns n) = s.contactSettled n := by
    simp only [State.settleLine, filter]
    rfl
  have raw : s.rawEdge (.sns n) = q.rawDt := by simp [State.rawEdge, accepted]
  rw [← settled, ← raw]
  exact onEvent_due (fun u => (u.settleLine (.sns n)).contact n (u.rawEdge (.sns n))) hn due

/-! ### What a hit leaves of the trim in rehearsal (R91, R107) -/

/-- What a channel counts, and the schedule of its heat, is what it was. -/
abbrev Channel.sameCounts (a b : Channel) : Prop :=
  b.heat = a.heat ∧ b.heatDue = a.heatDue ∧ b.trim = a.trim ∧ b.misses = a.misses ∧ b.strays = a.strays ∧ b.hits = a.hits

theorem Channel.sameCounts.trans {a b c : Channel} (h : a.sameCounts b) (k : b.sameCounts c) : a.sameCounts c := by
  unfold Channel.sameCounts at *
  grind

/-- A grant changes a channel's state and what it drives, and nothing it counts. -/
theorem grantedFrom.counts {s : State} {a b : Channel} (g : grantedFrom s a b) : a.sameCounts b := by
  rcases g with rfl | ⟨-, driven, -⟩ | ⟨-, driven, -⟩
  · exact ⟨rfl, rfl, rfl, rfl, rfl, rfl⟩
  all_goals rw [driven]; exact ⟨rfl, rfl, rfl, rfl, rfl, rfl⟩

section
variable (s : State) (n : ChanId)

theorem State.grantTest_trim : (s.grantTest.chan n).trim = (s.chan n).trim := by
  obtain ⟨-, -, trim, -⟩ := (s.grantsInto_grantTest.chans n).counts
  exact trim

theorem State.setChanState_chan_same (x : ChanState) : (s.setChanState n x).chan n = { s.chan n with state := x } :=
  s.setChan_chan_same n _

theorem State.recoveryDone_trim : ((s.recoveryDone n).chan n).trim = (s.chan n).trim := by
  have left (x : ChanState) : (((s.strokeLeaves n).setChanState n x).chan n).trim = (s.chan n).trim := by
    rw [State.setChanState_chan_same, State.strokeLeaves_chan]
  rw [State.recoveryDone_eq]
  split
  · exact left .faulted
  · split
    · exact left .cooldown
    · exact (State.grantTest_trim _ n).trans (left .idle)

theorem State.enterRecover_trim (start : DevTime) : ((s.enterRecover n start).chan n).trim = (s.chan n).trim := by
  have entered (c : Channel) : ((s.setChan n c).chan n).trim = c.trim := by rw [State.setChan_chan_same]
  simp only [State.enterRecover]
  split
  · rw [State.recoveryDone_trim, entered]
  · rw [entered]

theorem State.pulseOver_trim (since till : DevTime) : ((s.pulseOver n since till).chan n).trim = (s.chan n).trim := by
  have tested : (State.chan (State.grantTest { s with slots := s.slots - 1 }) n).trim = (s.chan n).trim := State.grantTest_trim _ n
  simp only [State.pulseOver]
  split
  · exact tested
  · rw [State.setChan_chan_same]
    exact tested

/-- In rehearsal no hit teaches. -/
theorem State.hitTaken_trim (rehearsed : s.rehearsal = true) (k : Stroke) (raw : DevTime) :
    ((s.hitTaken n k raw).chan n).trim = (s.chan n).trim := by
  have recorded : ((s.hitRecorded n k raw).chan n).trim = (s.chan n).trim := by simp [State.hitRecorded, State.chan, rehearsed]
  simp only [State.hitTaken]
  split
  · rw [State.enterRecover_trim, recorded]
  · split
    · rw [State.enterRecover_trim, State.pulseOver_trim, State.setChan_chan_same, recorded]
    · exact recorded
end

/-- The contact of a rehearsed open stroke is taken as a hit at its grant DT plus its lead (R107). -/
theorem exec_synthesisedContact {s : State} {n : ChanId} {k : Stroke} (hn : s.nrstLow = false) (rehearsed : s.rehearsal = true)
    (strike : (s.ccfg n).cls = .strike) (sensed : (s.ccfg n).sensePresent = true) (held : (s.chan n).stroke = some k)
    (undecided : k.resolved = false) (passed : reached s.scu.dt (k.grantDt + BitVec.ofNat 32 k.lead) = true) :
    exec (.synthesisedContact n) s = .next (publish s (s.hitTaken n k (k.grantDt + BitVec.ofNat 32 k.lead))) := by
  have found : s.toSynthesise n = some k := by simp [State.toSynthesise, rehearsed, strike, sensed, held, undecided]
  have due : synthesisedContactDue n s = true := by
    simp only [synthesisedContactDue, found]
    exact passed
  have taken : s.synthesise n = s.hitTaken n k (k.grantDt + BitVec.ofNat 32 k.lead) := by
    simp only [State.synthesise, found, State.hit_eq, Stroke.synthDt]
  rw [← taken]
  exact onEvent_due (fun u => u.synthesise n) hn due

/-- Settles O35: the edge is delivered, and the channel and the window decide what it is. -/
theorem aContactIsAHitOrAStray : Obligations.AContactIsAHitOrAStray := by
  unfold Obligations.AContactIsAHitOrAStray
  refine ⟨fun s n q l hn latched line steady held => ?_, fun s n k hn rehearsed strike sensed struck undecided passed => ?_⟩
  · intro u
    have taken : exec (.contactAccepted n) s = .next (publish s (u.contact n q.rawDt)) :=
      exec_contactAccepted hn latched line steady held
    have published {x : State} (goes : u.contact n q.rawDt = x) : publishes x (publish s (u.contact n q.rawDt)) :=
      goes ▸ publishes_publish s (u.contact n q.rawDt)
    refine ⟨_, taken, fun deaf => ?_, fun strike sensed on audible => ⟨fun missed => published ?_,
      fun k struck undecided opened granted closes => published ?_⟩⟩
    · have ignored : ¬u.judges n := by
        rintro ⟨strike, sensed, on, audible⟩
        rcases deaf with h | h | h | h
        · exact h strike
        · exact Bool.false_ne_true (h.symm.trans sensed)
        · exact on h
        · exact Bool.false_ne_true (audible.symm.trans h)
      rw [State.contact_ignored ignored]
      exact publish_same rfl rfl rfl rfl
    · refine State.contact_stray ⟨strike, sensed, on, audible⟩ fun k struck undecided => ?_
      rw [← Bool.not_eq_true, Stroke.inWindow_iff]
      rintro ⟨opened, granted, closes⟩
      simpa [undecided, opened, granted, closes] using missed k struck
    · exact State.contact_hit ⟨strike, sensed, on, audible⟩ struck undecided
        ((k.inWindow_iff q.rawDt).2 ⟨opened, granted, closes⟩)
  · refine ⟨_, exec_synthesisedContact hn rehearsed strike sensed struck undecided passed, publishes_publish s _, ?_⟩
    have shown (x : State) : (publish s x).chan n = x.chan n := by simp [State.chan]
    rw [shown]
    exact s.hitTaken_trim n rehearsed k _

end Sys2Proof.Machine

/-! PROOFS. The heat event: the decay, the end of a cooldown and its beginning. -/
namespace Sys2Proof.Machine
open Sys2Proof

/-! ### The heat it leaves (R102, R113) -/

/-- The heat a channel has after its heat event: that of its hold added, then the decay (R102, R113). -/
def State.heatAfterEvent (s : State) (n : ChanId) : Nat :=
  heatAfterDecay
    (if (s.ccfg n).cls = .hold ∧ (s.chan n).state = .held ∧ s.rehearsal = false
      then holdHeat (s.chan n).heat (s.ccfg n).holdDuty (s.ccfg n).gain else (s.chan n).heat) (s.ccfg n).cooling

/-- The next heat event of a channel is scheduled (R102). -/
def State.heatTimed (s : State) (n : ChanId) : State := s.setChan n { s.chan n with heatDue := (s.chan n).heatDue + 10000 }

/-- A channel has its new heat, and its next heat event scheduled. -/
def State.heated (s : State) (n : ChanId) (h : Nat) : State :=
  s.setChan n { s.chan n with heat := h, heatDue := (s.chan n).heatDue + 10000 }

section
variable (s : State) (n : ChanId)

theorem State.heatTimed_chan : (s.heatTimed n).chan n = { s.chan n with heatDue := (s.chan n).heatDue + 10000 } :=
  s.setChan_chan_same n _

theorem State.heated_chan (h : Nat) :
    (s.heated n h).chan n = { s.chan n with heat := h, heatDue := (s.chan n).heatDue + 10000 } := s.setChan_chan_same n _

theorem State.heatTimed_setHeat (h : Nat) : (s.heatTimed n).setHeat n h = s.heated n h := by
  rw [State.setHeat, State.heatTimed_chan, State.heatTimed, State.setChan_setChan]
  rfl

theorem State.heatTimed_perf : (s.heatTimed n).perf = s.perf := rfl

variable {s n}

/-! ### The event, class by class -/

theorem exec_heatEvent (hn : s.nrstLow = false) (due : reached s.scu.dt (s.chan n).heatDue = true) :
    exec (.heatEvent n) s = .next (publish s ((s.heatTimed n).heatEvent n)) := by
  have low : (s.heatTimed n).nrstLow = false := hn
  have timed : exec (.heatEvent n) s = if (s.heatTimed n).nrstLow then .next (s.heatTimed n)
      else .next (publish s ((s.heatTimed n).heatEvent n)) := if_pos due
  exact timed.trans (if_neg (by simp [low]))

/-- A cooldown of a STRIKE channel ends in IDLE and a grant test (R102). -/
theorem State.heatEvent_strike (strike : (s.ccfg n).cls = .strike) :
    (s.heatTimed n).heatEvent n =
      if (s.chan n).state = .cooldown ∧ s.heatAfterEvent n ≤ (s.ccfg n).resume then
        ((s.heated n (s.heatAfterEvent n)).setChanState n .idle).grantTest
      else s.heated n (s.heatAfterEvent n) := by
  have after : s.heatAfterEvent n = heatAfterDecay (s.chan n).heat (s.ccfg n).cooling := by simp [State.heatAfterEvent, strike]
  simp only [State.heatEvent, State.ccfg_of_perf (s.heatTimed_perf n), strike, State.strikeHeatEvent, State.heatTimed_chan,
    State.heatTimed_setHeat, ← after, State.heated]
  rfl

/-- A held channel that is HOT goes into cooldown; a cooldown ends in RELEASED, and a wanted hold is asked for again (R113,
R114). -/
theorem State.heatEvent_hold (hold : (s.ccfg n).cls = .hold) :
    (s.heatTimed n).heatEvent n =
      let u := s.heated n (s.heatAfterEvent n)
      if (s.chan n).state = .held ∧ (s.ccfg n).hot ≤ s.heatAfterEvent n then (u.setChanState n .cooldown).setFlag .channel
      else if (s.chan n).state = .cooldown ∧ s.heatAfterEvent n ≤ (s.ccfg n).resume then
        if (s.chan n).holdWanted then (u.setChanState n .released).requestReengage n else u.setChanState n .released
      else u := by
  have after : s.heatAfterEvent n = heatAfterDecay (if (s.chan n).state = .held ∧ s.rehearsal = false
      then holdHeat (s.chan n).heat (s.ccfg n).holdDuty (s.ccfg n).gain else (s.chan n).heat) (s.ccfg n).cooling := by
    simp [State.heatAfterEvent, hold]
  have perf := s.heatTimed_perf n
  simp only [State.heatEvent, State.ccfg_of_perf perf, State.rehearsal_of_perf perf, hold, State.holdHeatEvent,
    State.heatTimed_chan, State.heatTimed_setHeat, ← after, State.setChanState_chan_same, State.heated_chan]

theorem State.heatEvent_unused (unused : (s.ccfg n).cls = .unused) :
    (s.heatTimed n).heatEvent n = s.heated n (s.heatAfterEvent n) := by
  have after : s.heatAfterEvent n = heatAfterDecay (s.chan n).heat (s.ccfg n).cooling := by simp [State.heatAfterEvent, unused]
  simp only [State.heatEvent, State.ccfg_of_perf (s.heatTimed_perf n), unused, State.heatTimed_chan, State.heatTimed_setHeat,
    ← after]
end

/-! ### What every class of heat event keeps -/

/-- Only cue memory, passes, the queue, slots, channels and attention flags differ. -/
abbrev State.heatFrame (s t : State) : Prop :=
  t = { s with mem := t.mem, passes := t.passes, fq := t.fq, fqSeq := t.fqSeq, slots := t.slots, chans := t.chans
               regs := { s.regs with flags := t.regs.flags } }

theorem State.heatFrame.trans {s t u : State} (h : s.heatFrame t) (k : t.heatFrame u) : s.heatFrame u :=
  Eq.trans k (by rw [h])

/-- What a heat event may do to a state whose channel has its new heat. -/
structure State.settlesHeat (s : State) (n : ChanId) (h : Nat) (t : State) : Prop where
  frame  : s.heatFrame t
  own    : ((s.heated n h).chan n).sameCounts (t.chan n)
  others : ∀ m, m ≠ n → grantedFrom s (s.chan m) (t.chan m)
  writes : s.writesOnly t fun a => published a ∨ queuedResult s a

section
variable {s t : State} {n : ChanId} {h : Nat}

theorem State.settlesHeat_heated (s : State) (n : ChanId) (h : Nat) : s.settlesHeat n h (s.heated n h) where
  frame := rfl
  own := ⟨rfl, rfl, rfl, rfl, rfl, rfl⟩
  others m other := .inl ((s.chan_setChan n m _).trans (if_neg other))
  writes := .of_eq rfl rfl

theorem State.settlesHeat.setChan (k : s.settlesHeat n h t) {c : Channel} (counts : (t.chan n).sameCounts c) :
    s.settlesHeat n h (t.setChan n c) where
  frame := k.frame.trans rfl
  own := by rw [State.setChan_chan_same]; exact k.own.trans counts
  others m other := by rw [State.chan_setChan, if_neg other]; exact k.others m other
  writes := k.writes.trans (.of_eq rfl rfl)

theorem State.settlesHeat.setChanState (k : s.settlesHeat n h t) (x : ChanState) : s.settlesHeat n h (t.setChanState n x) :=
  k.setChan ⟨rfl, rfl, rfl, rfl, rfl, rfl⟩

theorem State.settlesHeat.setFlag (k : s.settlesHeat n h t) (f : AttnFlag) : s.settlesHeat n h (t.setFlag f) where
  frame := k.frame.trans rfl
  own := k.own
  others := k.others
  writes := k.writes.trans (.of_eq rfl rfl)

theorem State.settlesHeat.grantTest (k : s.settlesHeat n h t) (queue : t.fq = s.fq) : s.settlesHeat n h t.grantTest := by
  have grants := t.grantsInto_grantTest
  have scu : t.scu = s.scu := by rw [k.frame]
  refine ⟨k.frame.trans (by apply State.eq_of_fields <;> simp), k.own.trans (grants.chans n).counts,
    fun m other => (k.others m other).trans scu (grants.chans m), k.writes.trans (grants.writes.mono fun a => ?_)⟩
  rintro (⟨e, he, area⟩ | table)
  · exact .inr ⟨e, queue ▸ he, area⟩
  · exact .inl (.inr (.inr table))

theorem State.settlesHeat.requestReengage (k : s.settlesHeat n h t) : s.settlesHeat n h (t.requestReengage n) := by
  unfold State.requestReengage
  split
  · have cleared := k.setChan (c := { t.chan n with standing := false }) ⟨rfl, rfl, rfl, rfl, rfl, rfl⟩
    exact ⟨cleared.frame.trans rfl, cleared.own, cleared.others, cleared.writes.trans (.of_eq rfl rfl)⟩
  · exact k.setChan ⟨rfl, rfl, rfl, rfl, rfl, rfl⟩

theorem State.settlesHeat_heatEvent (s : State) (n : ChanId) :
    s.settlesHeat n (s.heatAfterEvent n) ((s.heatTimed n).heatEvent n) := by
  have heated := s.settlesHeat_heated n (s.heatAfterEvent n)
  cases cls : (s.ccfg n).cls with
  | unused => rwa [State.heatEvent_unused cls]
  | strike =>
    rw [State.heatEvent_strike cls]
    split
    · exact (heated.setChanState .idle).grantTest rfl
    · exact heated
  | hold =>
    rw [State.heatEvent_hold cls]
    split
    · exact (heated.setChanState .cooldown).setFlag .channel
    · split
      · have released := heated.setChanState .released
        split
        · exact released.requestReengage
        · exact released
      · exact heated

/-! ### Where the channel goes -/

/-- A grant test leaves an IDLE channel IDLE, or puts it into DRIVE. -/
theorem State.grantTest_of_idle (idle : (s.chan n).state = .idle) :
    (s.grantTest.chan n).state = .idle ∨ (s.grantTest.chan n).state = .drive := by
  rcases s.grantsInto_grantTest.chans n with same | ⟨-, driven, -⟩ | ⟨released, -⟩
  · exact .inl (same ▸ idle)
  · exact .inr (by rw [driven])
  · rw [idle] at released; cases released

/-- A re-engage asked for stands, or waits in the queue; the channel stays RELEASED until then (R62, R114). -/
theorem State.requestReengage_asks (s : State) (n : ChanId) :
    ((s.requestReengage n).chan n).state = (s.chan n).state ∧
      (((s.requestReengage n).chan n).standing = true ∨ (s.requestReengage n).fq.length = s.fq.length + 1) := by
  unfold State.requestReengage
  split
  · have cleared : (s.placeStanding n).chan n = { s.chan n with standing := false } := s.setChan_chan_same n _
    exact ⟨by rw [cleared], .inr (length_fqInsert _ _)⟩
  · rw [State.setChan_chan_same]
    exact ⟨rfl, .inl rfl⟩

theorem State.heated_state (s : State) (n : ChanId) (h : Nat) : ((s.heated n h).chan n).state = (s.chan n).state := by
  rw [State.heated_chan]

theorem State.setChanState_state_same (s : State) (n : ChanId) (x : ChanState) : ((s.setChanState n x).chan n).state = x := by
  rw [State.setChanState_chan_same]

/-- The STRIKE channel's states (R102). -/
theorem State.heatEvent_strike_state (strike : (s.ccfg n).cls = .strike) (ht : (s.heatTimed n).heatEvent n = t) :
    ((s.chan n).state = .cooldown → s.heatAfterEvent n ≤ (s.ccfg n).resume →
        (t.chan n).state = .idle ∨ (t.chan n).state = .drive) ∧
      ((s.chan n).state ≠ .cooldown ∨ (s.ccfg n).resume < s.heatAfterEvent n →
        (t.chan n).state = (s.chan n).state ∧ t.slots = s.slots) := by
  rw [State.heatEvent_strike strike] at ht
  refine ⟨fun cooling cool => ?_, fun stays => ?_⟩
  · rw [← ht, if_pos ⟨cooling, cool⟩]
    exact State.grantTest_of_idle (State.setChanState_state_same _ n .idle)
  · have rests : ¬((s.chan n).state = .cooldown ∧ s.heatAfterEvent n ≤ (s.ccfg n).resume) := by
      rintro ⟨cooling, cool⟩
      exact stays.elim (fun h => h cooling) (Nat.not_lt.2 cool)
    rw [← ht, if_neg rests]
    exact ⟨s.heated_state n _, rfl⟩

/-- The HOLD channel's states (R113, R114). -/
theorem State.heatEvent_hold_state (hold : (s.ccfg n).cls = .hold) (ht : (s.heatTimed n).heatEvent n = t) :
    ((s.chan n).state = .held → (s.ccfg n).hot ≤ s.heatAfterEvent n →
        (t.chan n).state = .cooldown ∧ t.regs = s.regs.withFlag .channel) ∧
      ((s.chan n).state = .cooldown → s.heatAfterEvent n ≤ (s.ccfg n).resume → (t.chan n).state = .released ∧
        ((s.chan n).holdWanted = true → (t.chan n).standing = true ∨ t.fq.length = s.fq.length + 1)) ∧
      (¬((s.chan n).state = .held ∧ (s.ccfg n).hot ≤ s.heatAfterEvent n) →
        ¬((s.chan n).state = .cooldown ∧ s.heatAfterEvent n ≤ (s.ccfg n).resume) → (t.chan n).state = (s.chan n).state) := by
  rw [State.heatEvent_hold hold] at ht
  refine ⟨fun held hot => ?_, fun cooling cool => ?_, fun unheated uncooled => ?_⟩
  · rw [← ht, if_pos ⟨held, hot⟩, State.chan_setFlag, State.setChanState_state_same]
    exact ⟨rfl, rfl⟩
  · have unheld : ¬((s.chan n).state = .held ∧ (s.ccfg n).hot ≤ s.heatAfterEvent n) := by simp [cooling]
    rw [← ht, if_neg unheld, if_pos ⟨cooling, cool⟩]
    split
    · obtain ⟨state, asks⟩ := ((s.heated n (s.heatAfterEvent n)).setChanState n .released).requestReengage_asks n
      exact ⟨state.trans (State.setChanState_state_same _ n _), fun _ => asks⟩
    next unwanted => exact ⟨State.setChanState_state_same _ n _, fun wanted => absurd wanted unwanted⟩
  · rw [← ht, if_neg unheated, if_neg uncooled]
    exact s.heated_state n _
end

/-- Settles O38: what every class keeps, then the states class by class. -/
theorem aHeatEventDecaysTheHeat : Obligations.AHeatEventDecaysTheHeat := by
  unfold Obligations.AHeatEventDecaysTheHeat
  intro s n warmed h hn due hw hh
  obtain rfl : h = s.heatAfterEvent n := by
    rw [hh, hw]
    rfl
  have settles := s.settlesHeat_heatEvent n
  have taken := exec_heatEvent hn due
  generalize hx : (s.heatTimed n).heatEvent n = x at settles taken
  have kept : (publish s x).slots = x.slots ∧ (publish s x).regs = x.regs ∧ (publish s x).fq = x.fq := by simp
  have chan (m : ChanId) : (publish s x).chan m = x.chan m := by simp [State.chan]
  obtain ⟨slots, regs, fq⟩ := kept
  obtain ⟨heat, heatDue, trim, misses, strays, hits⟩ := settles.own
  rw [State.heated_chan] at heat heatDue trim misses strays hits
  have published : x.heatFrame (publish s x) := by apply State.eq_of_fields <;> simp
  refine ⟨publish s x, taken, settles.frame.trans published, ?_⟩
  simp only [chan, slots, regs, fq]
  refine ⟨heat, heatDue, trim, misses, strays, hits, settles.others, fun strike => State.heatEvent_strike_state strike hx,
    fun hold => State.heatEvent_hold_state hold hx, fun unused => ?_, fun a out => ?_⟩
  · rw [← hx, State.heatEvent_unused unused]
    exact s.heated_state n _
  · simp only [not_or] at out
    obtain ⟨outside, queued, count⟩ := out
    exact (read_publish s x (by simpa only [not_or] using outside)).trans
      (settles.writes.mem a (by simpa only [not_or] using ⟨outside, queued⟩) count)

end Sys2Proof.Machine

/-! PROOFS. The rotor's operations: a case of each as one equation. -/
namespace Sys2Proof.Machine
open Sys2Proof

/-! ### What a step publishes -/

/-- What a step makes of the state is what it publishes. -/
theorem publishes_of_eq (b : State) {x y : State} (made : y = x) : publishes x (publish b y) := made ▸ publishes_publish b y

/-- A change of the rotor that keeps its state shows nowhere in the status area, so nothing is written (R162, R164). -/
theorem publish_rot {s : State} {r : Rotor} (kept : r.state = s.rot.state) :
    publish s { s with rot := r } = { s with rot := r } :=
  publish_same (by simp only [State.lineA, kept]) rfl rfl rfl

/-- A flag that is set is all that changes (R168). -/
theorem State.setFlag_eq {s : State} {r : Regs} (f : AttnFlag) (regs : s.regs = r) :
    s.setFlag f = { s with regs := r.withFlag f } := by
  rw [← regs]
  rfl

/-! ### The test of a command (R120, R122) -/

/-- The command is one to keep turning at a target: FIXED or BEAT. -/
abbrev Rotor.turns (x : Rotor) : Prop := (∃ r, x.cmd = some (.fixed r)) ∨ ∃ b, x.cmd = some (.beat b)

section
variable {s : State}

/-- A FIXED or BEAT command is done at its target. -/
theorem State.rotorTest_turns (turns : s.rot.turns) :
    s.rotorTest = if s.rot.rate = s.rot.target then s.rotorResolve .done else s := by
  rcases turns with ⟨r, cmd⟩ | ⟨b, cmd⟩ <;> simp only [State.rotorTest, cmd]

/-- An OFF command is done at rate 0, and the rotor rests. -/
theorem State.rotorTest_off (off : s.rot.cmd = some .off) :
    s.rotorTest = if s.rot.state = .running ∧ s.rot.rate = 0 then (s.rotorRest .stopped).rotorResolve .done else s := by
  simp only [State.rotorTest, off]

theorem State.rotorTest_park (park : s.rot.cmd = some .park) : s.rotorTest = s.rotorArm := by
  simp only [State.rotorTest, park]

/-- In BROWN no search is armed (R124). -/
theorem State.rotorArm_brown (brown : s.csm.level = .brown) : s.rotorArm = s :=
  if_neg fun ⟨_, _, _, level⟩ => level brown

/-- A parking rotor arms its search at the park rate (R122). -/
theorem State.rotorArm_parking (parking : s.rot.state = .parking) (level : s.csm.level ≠ .brown) :
    s.rotorArm = { s with rot := { s.rot with
      search := if s.rot.search = none ∧ s.rot.rate = s.global.parkRate then some 0 else s.rot.search } } := by
  unfold State.rotorArm
  by_cases arms : s.rot.search = none ∧ s.rot.rate = s.global.parkRate
  · rw [if_pos ⟨parking, arms.2, arms.1, level⟩, if_pos arms]
    rfl
  · rw [if_neg fun ⟨_, rate, search, _⟩ => arms ⟨search, rate⟩, if_neg arms]

/-! ### Parking (R122) -/

/-- In rehearsal a PARK is complete at once. -/
theorem State.rotorPark_rehearsal (rehearsed : s.rehearsal = true) :
    s.rotorPark = State.rotorResolve { s with rot := { s.rot with
      cmd := some .park, state := .parked, rate := 0, target := 0, search := none, nextStep := none } } .done := by
  simp only [State.rotorPark, rehearsed, if_true]
  rfl

/-! ### Steps (R119, R122) -/

/-- The rotor one step on from a step due at a DT. -/
def State.rotAfterStep (s : State) (d : DevTime) : Rotor :=
  { s.rot with
    phase := if s.global.reverse then s.rot.phase - 1 else s.rot.phase + 1
    search := s.rot.search.map (· + 1)
    nextStep := if s.rot.rate = 0 then none else some (d + BitVec.ofNat 32 (1000000 / s.rot.rate)) }

/-- Outside a search a step moves the phase alone. -/
theorem State.rotorStepAt_unarmed (d : DevTime) (unarmed : s.rot.search = none) :
    s.rotorStepAt d = { s with rot := s.rotAfterStep d } := by
  simp only [State.rotorStepAt, unarmed]
  simp only [State.rotAfterStep, unarmed]
  rfl

section
variable {c : Nat} (d : DevTime) (armed : s.rot.search = some c)
include armed

/-- A search with steps left goes on. -/
theorem State.rotorStepAt_searches (more : c + 1 < s.global.stepsPerRev + s.global.stepsPerRev / 8) :
    s.rotorStepAt d = { s with rot := s.rotAfterStep d } := by
  have left : ¬homeLimit s.global.stepsPerRev ≤ c + 1 := Nat.not_le.2 more
  simp only [State.rotorStepAt, armed, Option.map_some]
  simp only [State.rotAfterStep, armed, Option.map_some]
  exact if_neg left

/-- A search that has run its steps is a HOME_FAULT. -/
theorem State.rotorStepAt_fails (spent : s.global.stepsPerRev + s.global.stepsPerRev / 8 ≤ c + 1) :
    s.rotorStepAt d = State.rotorHomeFault { s with rot := s.rotAfterStep d } := by
  simp only [State.rotorStepAt, armed, Option.map_some]
  simp only [State.rotAfterStep, armed, Option.map_some]
  exact if_pos spent
end

/-- The rotor comes to rest in HOME_FAULT, its cue says so, and CHANNEL is set (R122). -/
theorem State.rotorHomeFault_eq (s : State) :
    s.rotorHomeFault = { State.rotorResolve { s with rot := { s.rot with
      state := .homeFault, rate := 0, target := 0, search := none, nextStep := none } } .homeFault with
      regs := s.regs.withFlag .channel } :=
  State.setFlag_eq .channel (by simp)

/-! ### The rate event (R119, R120) -/

/-- The rotor's rate takes a value: from 0 it takes its first step at once, at 0 it takes no more. -/
def State.rotAtRate (s : State) (r : Nat) : Rotor :=
  { s.rot with
    rate := r
    phase := if s.rot.rate = 0 ∧ 0 < r then (if s.global.reverse then s.rot.phase - 1 else s.rot.phase + 1) else s.rot.phase
    nextStep := if r = 0 then none
                else if s.rot.rate = 0 then some (s.scu.dt + BitVec.ofNat 32 (1000000 / r)) else s.rot.nextStep }

/-- A rate is set, where no search is armed at rate 0. -/
theorem State.rotorSetRate_eq (r : Nat) (turning : s.rot.search = none ∨ s.rot.rate ≠ 0) :
    s.rotorSetRate r = { s with rot := s.rotAtRate r } := by
  simp only [State.rotorSetRate]
  by_cases starts : s.rot.rate = 0 ∧ 0 < r
  · obtain ⟨stood, moves⟩ := starts
    have unarmed : s.rot.search = none := turning.resolve_right fun moved => moved stood
    rw [if_pos ⟨stood, moves⟩, State.rotorStepAt_unarmed (s := s.setRot { s.rot with rate := r }) _ unarmed]
    have global (x : Rotor) : (s.setRot x).global = s.global := rfl
    simp [State.rotAfterStep, State.rotAtRate, global, stood, moves, moves.ne', unarmed]
  · rw [if_neg starts]
    by_cases stops : r = 0
    · simp [State.rotAtRate, stops, State.setRot]
    · have moved : s.rot.rate ≠ 0 := fun stood => starts ⟨stood, Nat.pos_of_ne_zero stops⟩
      simp [State.rotAtRate, stops, moved, State.setRot]

/-- The next rate event is due at a DT (R119). -/
def State.rateTimed (s : State) (d : DevTime) : State := s.setRot { s.rot with rateDue := d }

theorem exec_rotorRateEvent (hn : s.nrstLow = false) (due : reached s.scu.dt s.rot.rateDue = true) :
    exec .rotorRateEvent s = .next (publish s (s.rateTimed (s.rot.rateDue + 10000)).rotorAccelerate) := by
  have timed : exec .rotorRateEvent s = if s.nrstLow then .next (s.rateTimed (s.rot.rateDue + 10000))
      else .next (publish s (s.rateTimed (s.rot.rateDue + 10000)).rotorAccelerate) := if_pos due
  exact timed.trans (if_neg (by simp [hn]))

theorem State.rotorAccelerate_rests (running : s.rot.state ≠ .running) (parking : s.rot.state ≠ .parking) :
    s.rotorAccelerate = s := if_neg (not_or.2 ⟨running, parking⟩)

section
variable (turning : s.rot.state = .running ∨ s.rot.state = .parking)
include turning

theorem State.rotorAccelerate_brown (brown : s.csm.level = .brown) : s.rotorAccelerate = s.rotorTest :=
  (if_pos turning).trans (if_pos brown)

/-- Outside BROWN the rate moves, and then the command is tested. -/
theorem State.rotorAccelerate_moves (level : s.csm.level ≠ .brown) (steps : s.rot.search = none ∨ s.rot.rate ≠ 0) :
    s.rotorAccelerate = State.rotorTest
      { s with rot := s.rotAtRate (rateToward s.rot.rate s.rot.target s.global.acceleration) } := by
  rw [← State.rotorSetRate_eq _ steps]
  exact (if_pos turning).trans (if_neg level)
end
end

/-- Settles O43: the rate event at rest, in BROWN and outside it, command by command. -/
theorem aRateEventMovesTheRateTowardItsTarget : Obligations.ARateEventMovesTheRateTowardItsTarget := by
  unfold Obligations.ARateEventMovesTheRateTowardItsTarget
  intro s r hn due hr steps
  have taken := exec_rotorRateEvent hn due
  generalize s.rot.rateDue + 10000 = d at taken ⊢
  refine ⟨_, taken, fun ⟨running, parking⟩ => ?_, fun turning brown => ?_, fun turning level => ?_⟩
  · rw [State.rotorAccelerate_rests (s := s.rateTimed d) running parking]
    exact publish_rot rfl
  · rw [State.rotorAccelerate_brown (s := s.rateTimed d) turning brown]
    refine ⟨fun turns => ⟨fun short => ?_, fun there => ?_⟩, fun off running => ⟨fun moves => ?_, fun stands => ?_⟩,
      fun park => ?_⟩
    · rw [State.rotorTest_turns (s := s.rateTimed d) turns, if_neg (by exact short)]
      exact publish_rot rfl
    · exact publishes_of_eq s ((State.rotorTest_turns (s := s.rateTimed d) turns).trans (if_pos there))
    · rw [State.rotorTest_off (s := s.rateTimed d) off, if_neg fun ⟨_, rate⟩ => moves rate]
      exact publish_rot rfl
    · exact publishes_of_eq s ((State.rotorTest_off (s := s.rateTimed d) off).trans (if_pos ⟨running, stands⟩))
    · rw [State.rotorTest_park (s := s.rateTimed d) park, State.rotorArm_brown (s := s.rateTimed d) brown]
      exact publish_rot rfl
  · have rate : rateToward (s.rateTimed d).rot.rate (s.rateTimed d).rot.target (s.rateTimed d).global.acceleration = r :=
      hr.symm
    rw [State.rotorAccelerate_moves (s := s.rateTimed d) turning level steps, rate]
    refine ⟨fun turns => ⟨fun short => ?_, fun there => ?_⟩, fun off running => ⟨fun moves => ?_, fun stands => ?_⟩,
      fun park parking => ?_⟩
    · exact publishes_of_eq s ((State.rotorTest_turns (by exact turns)).trans (if_neg short))
    · exact publishes_of_eq s ((State.rotorTest_turns (by exact turns)).trans (if_pos there))
    · exact publishes_of_eq s ((State.rotorTest_off (by exact off)).trans (if_neg fun ⟨_, rate⟩ => moves rate))
    · exact publishes_of_eq s ((State.rotorTest_off (by exact off)).trans (if_pos ⟨running, stands⟩))
    · exact publishes_of_eq s ((State.rotorTest_park (by exact park)).trans (State.rotorArm_parking parking level))

/-! ### The HOME line (R122, R129) -/

section
variable {s : State} {q : Qual} {l : Latch}

/-- The HOME filter accepts the latched edge once it has been held for the filter time (R126, R129). -/
theorem edgeDue_home (latched : s.perf.latch = some l)
    (home : s.siu.home = { settled := l.global.homeFalling, qual := some q }) (clean : q.bounce = none)
    (held : reached s.scu.dt (q.holdStart + 1000) = true) : edgeDue .home s = true := by
  have accepted : s.accepts .home = some q.rawDt := by
    simp only [State.accepts, State.filter, home]
    exact if_pos ⟨clean, held⟩
  have delivered : s.delivers .home = true := by simp [State.delivers, State.filter, home, latched, State.global]
  simp [edgeDue, accepted, delivered]

/-- The HOME filter settles at its other level. -/
theorem State.settleLine_home {x : Bool} (home : s.siu.home = { settled := x, qual := some q }) :
    s.settleLine .home = { s with siu := { s.siu with home := { settled := !x, qual := none } } } := by
  simp only [State.settleLine, State.filter, home]
  rfl

theorem State.rotorHome_unarmed (unarmed : s.rot.search = none) : s.rotorHome = s := if_neg (by simp [unarmed])

/-- A HOME edge in a search parks the rotor, and its cue is DONE. -/
theorem State.rotorHome_armed {c : Nat} (armed : s.rot.search = some c) :
    s.rotorHome = (s.rotorRest .parked).rotorResolve .done := if_pos (by simp [armed])
end

/-- Settles O44: the step outside a search, in one, and at its end; the HOME edge; and the result. -/
theorem theRotorStepsAndFindsItsHome : Obligations.TheRotorStepsAndFindsItsHome := by
  unfold Obligations.TheRotorStepsAndFindsItsHome
  refine ⟨fun s d hn next due => ?_, fun s q l hn latched home clean held => ?_,
    fun s o => ⟨fun l owed => ?_, fun none_ => State.rotorResolve_of_none none_ o⟩⟩
  · have isDue : rotorStepDue s = true := by simpa only [rotorStepDue, next] using due
    have steps : s.rotorStepTaken = s.rotorStepAt d := by simp only [State.rotorStepTaken, next]
    have taken : exec .rotorStep s = .next (publish s s.rotorStepTaken) := onEvent_due State.rotorStepTaken hn isDue
    rw [steps] at taken
    refine ⟨_, taken, fun unarmed => ?_, fun c armed more => ?_, fun c armed spent => ?_⟩
    · rw [State.rotorStepAt_unarmed d unarmed]
      exact publish_rot rfl
    · rw [State.rotorStepAt_searches d armed more]
      exact publish_rot rfl
    · exact publishes_of_eq s ((State.rotorStepAt_fails d armed spent).trans (State.rotorHomeFault_eq _))
  · have taken : exec .homeEdge s = .next (publish s (s.settleLine .home).rotorHome) :=
      onEvent_due (fun s => (s.settleLine .home).rotorHome) hn (edgeDue_home latched home clean held)
    rw [State.settleLine_home home] at taken
    refine ⟨_, taken, fun unarmed => ?_, fun c armed => publishes_of_eq s (State.rotorHome_armed armed)⟩
    rw [State.rotorHome_unarmed (by exact unarmed)]
    exact publish_same rfl rfl rfl rfl
  · simp only [State.rotorResolve, owed]
    rfl

end Sys2Proof.Machine

/-! PROOFS. ROTOR commands: what each replaces, and what it takes as its own. -/
namespace Sys2Proof.Machine
open Sys2Proof

/-! ### A command taken up (R120) -/

/-- A command is taken up with its cue owed, the search disarmed. -/
def State.takesCommand (s : State) (l : CueLoc) (cmd : RotorCmd) : State :=
  { s with rot := { s.rot with owed := some l, cmd := some cmd, search := none } }

/-- A rotor turns toward a target. -/
def State.turnsToward (s : State) (rate : Nat) : State := { s with rot := { s.rot with target := rate, state := .running } }

/-- A rotor stands or turns (Table 6-4). -/
theorem RotorState.stands_or_turns (x : RotorState) :
    (x = .stopped ∨ x = .parked ∨ x = .homeFault) ∨ x = .running ∨ x = .parking := by cases x <;> simp

section
variable (s : State) (l : CueLoc)

theorem State.rotorCommand_fixed (r : Nat) :
    s.rotorCommand l (.fixed r) = (((s.rotorResolve .superseded).takesCommand l (.fixed r)).turnsToward r).rotorTest := rfl

theorem State.rotorCommand_beat (b : Nat) :
    s.rotorCommand l (.beat b) =
      (((s.rotorResolve .superseded).takesCommand l (.beat b)).turnsToward
        (beatTarget b (s.rotorResolve .superseded).scu.period)).rotorTest := rfl

theorem State.rotorResolve_state (o : CueOutcome) : (s.rotorResolve o).rot.state = s.rot.state := by
  rw [State.rotorResolve_rot]

variable {s}

/-- An OFF to a rotor that stands is done at once (R120). -/
theorem State.rotorCommand_off_stands (stands : s.rot.state = .stopped ∨ s.rot.state = .parked ∨ s.rot.state = .homeFault) :
    s.rotorCommand l .off =
      (((s.rotorResolve .superseded).takesCommand l .off).rotorRest .stopped).rotorResolve .done := by
  have state := s.rotorResolve_state .superseded
  rcases stands with stands | stands | stands <;> rw [stands] at state <;>
    simp only [State.rotorCommand, State.setRot, state] <;> rfl

/-- An OFF to a rotor that turns takes it toward rate 0 (R120). -/
theorem State.rotorCommand_off_turns (turns : s.rot.state = .running ∨ s.rot.state = .parking) :
    s.rotorCommand l .off = (((s.rotorResolve .superseded).takesCommand l .off).turnsToward 0).rotorTest := by
  have state := s.rotorResolve_state .superseded
  rcases turns with turns | turns <;> rw [turns] at state <;>
    simp only [State.rotorCommand, State.setRot, state] <;> rfl

/-- A PARK to a parked rotor is done at once (R122). -/
theorem State.rotorCommand_park_parked (parked : s.rot.state = .parked) :
    s.rotorCommand l .park = ((s.rotorResolve .superseded).takesCommand l .park).rotorResolve .done := by
  have state := s.rotorResolve_state .superseded
  rw [parked] at state
  simp only [State.rotorCommand, State.setRot, State.takesCommand, state]

theorem State.rotorCommand_park (unparked : s.rot.state ≠ .parked) :
    s.rotorCommand l .park = ((s.rotorResolve .superseded).takesCommand l .park).rotorPark := by
  have state := s.rotorResolve_state .superseded
  cases at_ : s.rot.state with
  | parked => exact absurd at_ unparked
  | stopped | running | parking | homeFault =>
    rw [at_] at state
    simp only [State.rotorCommand, State.setRot, state]
    rfl
end

/-- Settles O45: command by command, and for OFF and PARK by what the rotor was doing. -/
theorem aRotorCommandReplacesTheLast : Obligations.ARotorCommandReplacesTheLast := by
  unfold Obligations.ARotorCommandReplacesTheLast
  intro s l
  have rate : (s.rotorResolve .superseded).rot.rate = s.rot.rate := by rw [State.rotorResolve_rot]
  have period : (s.rotorResolve .superseded).scu.period = s.scu.period := by simp
  have perf : (s.rotorResolve .superseded).perf = s.perf := by simp
  have csm : (s.rotorResolve .superseded).csm = s.csm := by simp
  have fixed := s.rotorCommand_fixed l
  have beat := s.rotorCommand_beat l
  have stands := State.rotorCommand_off_stands (s := s) l
  have turns := State.rotorCommand_off_turns (s := s) l
  have parked := State.rotorCommand_park_parked (s := s) l
  have park := State.rotorCommand_park (s := s) l
  rw [period] at beat
  generalize s.rotorResolve .superseded = u at *
  rw [← rate, ← csm, ← State.rehearsal_of_perf perf, ← State.global_of_perf perf]
  refine ⟨fun r => ?_, fun b => ?_, fun rests => ?_, fun turning moves => ?_, parked, fun unparked rehearsed => ?_,
    fun unparked performed => ?_⟩
  · exact (fixed r).trans (State.rotorTest_turns (.inl ⟨r, rfl⟩))
  · exact (beat b).trans (State.rotorTest_turns (.inr ⟨b, rfl⟩))
  · rcases s.rot.state.stands_or_turns with standing | turning
    · exact stands standing
    · have stopped : u.rot.rate = 0 := by rcases turning with at_ | at_ <;> simpa [at_] using rests
      exact (turns turning).trans ((State.rotorTest_off rfl).trans (if_pos ⟨rfl, stopped⟩))
  · exact (turns turning).trans ((State.rotorTest_off rfl).trans (if_neg fun ⟨_, stopped⟩ => moves stopped))
  · exact (park unparked).trans (State.rotorPark_rehearsal (by exact rehearsed))
  · exact (park unparked).trans (State.rotorPark_searches (by exact performed))

end Sys2Proof.Machine

/-! PROOFS. The end of a drain: the rotor parked, the hold channels released, the performance ended. -/
namespace Sys2Proof.Machine
open Sys2Proof

/-! ### The drain park (R123) -/

theorem FqEntry.isRotor_iff (e : FqEntry) : e.isRotor = true ↔ ∃ c cmd, e.work = .rotor c cmd := by
  unfold FqEntry.isRotor
  split <;> simp_all

/-- A draining performance parks a running rotor that nothing claims. -/
theorem drainParkDue_of {s : State} (drains : s.perf.state = .draining)
    (unclaimed : ∀ e ∈ s.fq, ∀ c cmd, e.work ≠ .rotor c cmd)
    (owes : s.rot.owed = none) (running : s.rot.state = .running) : drainParkDue s = true := by
  have none_ : s.fq.any FqEntry.isRotor = false := by
    rw [List.any_eq_false]
    intro e he rotor
    obtain ⟨c, cmd, work⟩ := (e.isRotor_iff).1 rotor
    exact unclaimed e he c cmd work
  simp [drainParkDue, drains, none_, owes, running]

/-! ### The hold channels at the end (R116) -/

/-- A channel of a class as the end of the performance leaves it: a HOLD channel is not wanted any more, and holds no more. -/
def Channel.endedAs (c : Channel) (cls : ChanClass) : Channel :=
  if cls = .hold then { c with
    holdWanted := false, standing := false
    state := if c.state = .held then .released else c.state }
  else c

theorem Channel.endedAs_undriven {c : Channel} (undriven : c.state ≠ .engage) (cls : ChanClass) :
    (c.endedAs cls).state ≠ .engage := by
  unfold Channel.endedAs
  split
  · dsimp only
    split
    · nofun
    · exact undriven
  · exact undriven

/-- A hold channel with no engage to cut ends as a RELEASE would end it. -/
theorem State.endHold_eq {s : State} {n : ChanId} (undriven : (s.chan n).state ≠ .engage) (o : CueOutcome) :
    State.endHold o n s = s.setChan n ((s.chan n).endedAs (s.ccfg n).cls) := by
  have state : ((s.unwant n).chan n).state = (s.chan n).state := by rw [State.unwant, State.setChan_chan_same]
  have released : (s.unwant n).forceRelease n o .none = s.releaseHold n := by
    simp only [State.forceRelease, State.releaseHold, state]
    cases at_ : (s.chan n).state with
    | engage => exact absurd at_ undriven
    | _ => rfl
  unfold State.endHold Channel.endedAs
  split
  · rw [released, State.releaseHold_eq undriven]
  · exact (s.setChan_self n).symm

/-- Each channel of a list ends, and nothing else changes. -/
theorem State.foldl_endHold_undriven (o : CueOutcome) (l : List ChanId) {s : State} (once : l.Nodup)
    (undriven : ∀ n, (s.chan n).state ≠ .engage) :
    let t := l.foldl (fun u n => State.endHold o n u) s
    t = { s with chans := t.chans } ∧
      ∀ n, t.chan n = if n ∈ l then (s.chan n).endedAs (s.ccfg n).cls else s.chan n := by
  induction l generalizing s with
  | nil => exact ⟨rfl, fun n => (if_neg (by simp)).symm⟩
  | cons k l ih =>
    obtain ⟨fresh, once⟩ := List.nodup_cons.1 once
    generalize ended : (s.chan k).endedAs (s.ccfg k).cls = c
    have calm : c.state ≠ .engage := ended ▸ Channel.endedAs_undriven (undriven k) _
    have chan (n : ChanId) : (s.setChan k c).chan n = if n = k then c else s.chan n := s.chan_setChan k n c
    have config (n : ChanId) : (s.setChan k c).ccfg n = s.ccfg n := rfl
    obtain ⟨frame, each⟩ := ih (s := s.setChan k c) once fun n => by
      rw [chan]
      split
      · exact calm
      · exact undriven n
    simp only [List.foldl_cons, State.endHold_eq (undriven k), ended]
    refine ⟨frame.trans rfl, fun n => ?_⟩
    rw [each, chan, config]
    by_cases own : n = k
    · subst own
      simp [fresh, ended]
    · simp [own]

/-- Hold channels with no engage among them end, and nothing else changes. -/
theorem State.releaseHolds_undriven (o : CueOutcome) {s : State} (undriven : ∀ n, (s.chan n).state ≠ .engage) :
    s.releaseHolds o = { s with chans := (s.releaseHolds o).chans } ∧
      ∀ n, (s.releaseHolds o).chan n = (s.chan n).endedAs (s.ccfg n).cls := by
  obtain ⟨frame, each⟩ := State.foldl_endHold_undriven o allChans (List.nodup_finRange 64) undriven
  exact ⟨frame, fun n => (each n).trans (if_pos (List.mem_finRange n))⟩

/-! ### Drain completion (R153) -/

theorem drainCompleteDue_of {s : State} (drains : s.perf.state = .draining) (queue : s.fq = []) (agenda : s.scu.agenda = [])
    (passes : s.passes = []) (flight : ∀ n, (s.chan n).stroke = none ∧ (s.chan n).engage = none)
    (stands : s.rot.state = .parked ∨ s.rot.state = .stopped ∨ s.rot.state = .homeFault) : drainCompleteDue s = true := by
  have nothing : s.nothingInFlight = true := by simp [State.nothingInFlight, flight]
  have still : s.rot.state.still = true := by rcases stands with h | h | h <;> rw [h] <;> rfl
  simp [drainCompleteDue, drains, queue, agenda, passes, nothing, still]

/-- The performance ends with its end cause kept, and its hold channels end with it. -/
theorem State.drained_undriven {s : State} (undriven : ∀ n, (s.chan n).state ≠ .engage) :
    ∃ ended : Vector Channel 64, s.drained = { s with
        chans := ended, perf := { s.perf with state := .ended, prior := none }, regs := s.regs.withFlag .ended } ∧
      ∀ n : ChanId, ended[n] = (s.chan n).endedAs (s.ccfg n).cls := by
  obtain ⟨frame, each⟩ := State.releaseHolds_undriven .cancelled undriven
  refine ⟨(s.releaseHolds .cancelled).chans, ?_, each⟩
  generalize (s.releaseHolds .cancelled).chans = ended at frame
  rw [State.drained, frame]
  rfl

/-- Settles O46: the park in rehearsal and outside it, and the end with its hold channels. -/
theorem aDrainParksTheRotorAndCompletes : Obligations.ADrainParksTheRotorAndCompletes := by
  unfold Obligations.ADrainParksTheRotorAndCompletes
  refine ⟨fun s hn drains unclaimed owes running => ?_, fun s hn drains queue agenda passes idle stands => ?_⟩
  · refine ⟨_, onEvent_due State.rotorPark hn (drainParkDue_of drains unclaimed owes running), fun rehearsed => ?_,
      fun performed => publishes_of_eq s (State.rotorPark_searches performed)⟩
    exact publishes_of_eq s ((State.rotorPark_rehearsal rehearsed).trans (State.rotorResolve_of_none (by exact owes) _))
  · have due := drainCompleteDue_of drains queue agenda passes (fun n => ⟨(idle n).1, (idle n).2.1⟩) stands
    have taken : exec .drainComplete s = .next (publish s s.drained) := onEvent_due State.drained hn due
    obtain ⟨ended, ends, each⟩ := State.drained_undriven fun n => (idle n).2.2
    generalize s.drained = x at taken ends
    have chans : (publish s x).chans = ended := by simp [ends]
    refine ⟨_, taken, ?_, fun n => ?_⟩
    · rw [chans]
      exact publishes_of_eq s ends
    · rw [State.chan, chans]
      exact each n

end Sys2Proof.Machine

/-! PROOFS. The end of an engage. -/
namespace Sys2Proof.Machine
open Sys2Proof

/-! ### Where the channel goes (R110, R111) -/

section
variable {s : State} {n : ChanId}

theorem State.afterEngage_unwanted (unwanted : (s.chan n).holdWanted = false) :
    s.afterEngage n = s.setChanState n .released := if_pos unwanted

variable (wanted : (s.chan n).holdWanted = true)
include wanted

/-- A channel that is HOT cools down, with CHANNEL set. -/
theorem State.afterEngage_hot (hot : (s.ccfg n).hot ≤ (s.chan n).heat) :
    s.afterEngage n = { s.setChanState n .cooldown with regs := s.regs.withFlag .channel } :=
  (if_neg (by simp [wanted])).trans (if_pos hot)

/-- A channel that is not HOT is held, its PWM beginning now. -/
theorem State.afterEngage_holds (cool : (s.chan n).heat < (s.ccfg n).hot) :
    s.afterEngage n = s.setChan n { s.chan n with state := .held, heldSince := s.scu.dt } :=
  (if_neg (by simp [wanted])).trans (if_neg (Nat.not_le.2 cool))
end

/-- An engage that ends leaves its channel wanted, or not, as it was. -/
theorem State.engageOver_wanted {s : State} {n : ChanId} {g : EngageRun} (driven : (s.chan n).state = .engage)
    (held : (s.chan n).engage = some g) (till : DevTime) (o : CueOutcome) (d : DropCause) :
    ((s.engageOver n till o d).chan n).holdWanted = (s.chan n).holdWanted := by
  have kept (u : State) (c : Option CueRef) (result : List Byte) : (u.resolve? c result).chan n = u.chan n := by
    simp [State.chan]
  rw [State.engageOver_eq held]
  simp only [kept, State.setChan_chan_same]
  rw [State.pulseOver_chan (by simp [driven]) (by simp [driven])]

/-- Settles O37: the engage is over, and its channel goes where the hold and the heat say. -/
theorem anEngageEndsInItsHold : Obligations.AnEngageEndsInItsHold := by
  unfold Obligations.AnEngageEndsInItsHold
  intro s n g hn engaging held due u v
  have isDue : engageEndDue n s = true := by simp [engageEndDue, State.engageDue, engaging, held, due]
  have taken : exec (.engageEnd n) s = .next (publish s (s.engageEnds n)) := onEvent_due (fun s => s.engageEnds n) hn isDue
  have ends : s.engageEnds n = (s.engageOver n g.endDt .engaged .none).afterEngage n := by
    simp only [State.engageEnds, State.engageDue, held]
  have over_ : s.engageOver n g.endDt .engaged .none = v := State.engageOver_eq held g.endDt .engaged .none
  have wanted := State.engageOver_wanted engaging held g.endDt .engaged .none
  obtain ⟨perf, scu, regs⟩ : (s.engageOver n g.endDt .engaged .none).perf = s.perf ∧
      (s.engageOver n g.endDt .engaged .none).scu = s.scu ∧ (s.engageOver n g.endDt .engaged .none).regs = s.regs := by simp
  rw [ends] at taken
  rw [over_] at taken wanted perf scu regs
  rw [← wanted, ← State.ccfg_of_perf perf, ← scu, ← regs]
  exact ⟨_, taken, fun unwanted => publishes_of_eq s (State.afterEngage_unwanted unwanted),
    fun wanted hot => publishes_of_eq s (State.afterEngage_hot wanted hot),
    fun wanted cool => publishes_of_eq s (State.afterEngage_holds wanted cool)⟩

end Sys2Proof.Machine

/-! PROOFS. Samples and undelivered edges: filters and qualifiers alone. -/
namespace Sys2Proof.Machine
open Sys2Proof

/-! ### Nothing that the status area shows is moved (R163, R164) -/

/-- The inputs stand in no line of the status area. -/
theorem publish_setSiu (s : State) (x : Siu) : publish s (s.setSiu x) = s.setSiu x := publish_same rfl rfl rfl rfl

theorem publish_setFilter (s : State) (l : InLine) (f : Filter) : publish s (s.setFilter l f) = s.setFilter l f := by
  cases l <;> exact publish_setSiu s _

/-- A sample out of reset that changes nothing shown. -/
theorem onSample_quiet {f : State → State} {s : State} (hn : s.nrstLow = false) (quiet : publish s (f s) = f s) :
    onSample f s = .next (f s) := by
  unfold onSample
  rw [if_neg (by simp [hn]), quiet]

/-! ### The filters (R126, R127) -/

/-- A candidate held for the filter time is accepted with its raw-edge DT. -/
theorem State.accepts_held {s : State} {l : InLine} {q : Qual} (qual : (s.filter l).qual = some q) (steady : q.bounce = none)
    (held : reached s.scu.dt (q.holdStart + BitVec.ofNat 32 (s.filterTime l)) = true) : s.accepts l = some q.rawDt := by
  simp only [State.accepts, qual]
  exact if_pos ⟨steady, held⟩

/-- The contact filter time is that of the latched configuration. -/
theorem State.filterTime_sns (s : State) (n : ChanId) :
    s.filterTime (.sns n) = match s.perf.latch with
      | some l => l.global.contactFilter
      | none => 0 := by
  cases latched : s.perf.latch <;> simp [State.filterTime, State.global, latched]

/-! ### The quiet qualifier (R130) -/

/-- While both stop lines are asserted a qualification begins or goes on, and otherwise none stands. -/
theorem QuietQual.sample_eq (q : QuietQual) (both : Bool) (dt : DevTime) :
    q.sample both dt = if both = true then (if q = .opened then .qualifying dt else q) else .opened := by
  cases both
  · rfl
  · cases q <;> rfl

/-- STOPA is asserted high and STOPB low. -/
theorem Siu.bothStops_iff (x : Siu) : x.bothStops = true ↔ x.stopA = true ∧ x.stopB = false := by
  simp [Siu.bothStops, Siu.stopAAsserted, Siu.stopBAsserted]

theorem State.sampleStops_eq (s : State) (a b : Bool) :
    s.sampleStops a b = { s with siu := { s.siu with
      stopA := a, stopB := b
      quiet := if a = true ∧ b = false then (if s.siu.quiet = .opened then .qualifying s.scu.dt else s.siu.quiet)
               else .opened } } := by
  have sampled : s.sampleStops a b = { s with siu := { s.siu with
      stopA := a, stopB := b, quiet := s.siu.quiet.sample ({ s.siu with stopA := a, stopB := b } : Siu).bothStops s.scu.dt } } := rfl
  rw [sampled, QuietQual.sample_eq]
  simp only [Siu.bothStops_iff]

/-- Settles O47: each sample or undelivered edge moves one filter or qualifier, which no line of the status area shows. -/
theorem samplesMoveFiltersAndQualifiersAlone : Obligations.SamplesMoveFiltersAndQualifiersAlone := by
  unfold Obligations.SamplesMoveFiltersAndQualifiersAlone
  refine ⟨fun s l hn => ?_, fun s l q hn qual steady held undelivered => ?_, fun s l q b hn qual bounced back => ?_,
    fun s => ⟨rfl, rfl, rfl, s.filterTime_sns⟩, fun s a b hn => ?_, fun s hn => ?_, fun s hn seen => ?_⟩
  · have sampled : exec (.lineTransition l) s = .next (s.setFilter l ((s.filter l).transition s.scu.dt)) :=
      onSample_quiet (f := fun s => s.setFilter l ((s.filter l).transition s.scu.dt)) hn (publish_setFilter s l _)
    rw [sampled]
    cases qual : (s.filter l).qual with
    | none => simp only [Filter.transition, qual]
    | some q => cases bounce : q.bounce <;> simp [Filter.transition, qual, bounce]
  · have due : returnEdgeDue l s = true := by simp [returnEdgeDue, State.accepts_held qual steady held, undelivered]
    have taken : exec (.returnEdgeAccepted l) s = .next (publish s (s.settleLine l)) := onEvent_due (fun s => s.settleLine l) hn due
    exact taken.trans (congrArg _ (publish_setFilter s l _))
  · have due : abandonDue l s = true := by simp only [abandonDue, qual, bounced, back]
    have taken : exec (.filterQualificationAbandoned l) s = .next (publish s (s.abandon l)) := onEvent_due (fun s => s.abandon l) hn due
    exact taken.trans (congrArg _ (publish_setFilter s l _))
  · have sampled : exec (.quietQualifierChange a b) s = .next (s.sampleStops a b) :=
      onSample_quiet (f := fun s => s.sampleStops a b) hn (publish_setSiu s _)
    rw [sampled, State.sampleStops_eq]
  · exact onSample_quiet (f := fun s => s.setSiu { s.siu with dflt := false, dfltSeen := false }) hn (publish_setSiu s _)
  · have still : s.takeDflt = s := if_pos seen
    have sampled : exec .dfltAssertion s = .next s.takeDflt :=
      onSample_quiet hn (by rw [still]; exact publish_same rfl rfl rfl rfl)
    rw [sampled, still]

end Sys2Proof.Machine

/-! PROOFS. The housekeeping event where the level stays and where it changes: what VSENSE is judged to be, and line B. -/
namespace Sys2Proof.Machine
open Sys2Proof

/-! ### Channels cut one after another -/

theorem State.covered_anywhere (s : State) : s.covered fun _ => True := fun _ _ _ => trivial

theorem State.cuts_forChans (s : State) {f : ChanId → State → State} {w : Nat → Prop}
    (each : ∀ (u : State) n, u.noneWaits → u.cuts (f n u) w) (none_ : s.noneWaits) : s.cuts (s.forChans f) w := by
  unfold State.forChans
  generalize allChans = l
  induction l generalizing s with
  | nil => exact .refl s w
  | cons n l ih =>
    have cut := each s n none_
    exact cut.trans (ih _ (cut.noneWaits none_))

/-! ### Reading on keeps cue memory in its canonical form -/

section
variable {s : State} (wf : Memory.wf s.mem = true)
include wf

theorem State.wf_leavePass : Memory.wf s.leavePass.mem = true := (s.writesOnly_leavePass fun _ => False).wf wf

theorem State.wf_handFault (i : FaultInfo) : Memory.wf (s.handFault i).mem = true := by
  have flag (u : State) : (u.setFlag .fault).mem = u.mem := rfl
  rw [State.handFault, flag]
  split <;> exact State.wf_poke s _ _ wf

theorem State.wf_chainFault (d : FaultDetail) (b : Addr) (i k : Nat) : Memory.wf (s.chainFault d b i k).mem = true :=
  State.wf_handFault (State.wf_leavePass (s := s.setReader { s.reader with state := .faulted, pending := .none }) wf) _

theorem State.wf_takeEnd : Memory.wf s.takeEnd.mem = true :=
  State.wf_leavePass (s := s.setReader { s.reader with state := .finished, pending := .none }) wf

theorem State.wf_enterLinkWait : Memory.wf s.enterLinkWait.mem = true := by
  unfold State.enterLinkWait State.starvedTest
  split <;> exact wf

theorem State.wf_readSlot (k : Nat) : Memory.wf (s.readSlot k).mem = true := by
  simp only [State.readSlot]
  split
  · exact wf
  · exact State.wf_chainFault wf _ _ _ _

theorem State.wf_stallEntry (a : Addr) (how : Entry) (x : ReaderState) : Memory.wf (s.stallEntry a how x).mem = true := by
  cases how <;> exact wf

theorem State.wf_entryFault (a : Addr) (how : Entry) (d : FaultDetail) : Memory.wf (s.entryFault a how d).mem = true := by
  unfold State.entryFault
  split
  · exact State.wf_chainFault wf _ _ _ _
  · cases how <;> exact State.wf_chainFault wf _ _ _ _

theorem State.wf_commitEntry (a : Addr) (how : Entry) : Memory.wf (s.commitEntry a how).mem = true := State.wf_leavePass wf

theorem State.wf_enterBlock (a : Addr) (how : Entry) (fuel : Nat) : Memory.wf (s.enterBlock a how fuel).mem = true := by
  induction fuel generalizing s a how with
  | zero => exact State.wf_stallEntry wf _ _ _
  | succ fuel ih =>
    have committed := State.wf_commitEntry wf a how
    simp only [State.enterBlock]
    split
    · exact State.wf_stallEntry wf _ _ _
    split
    · exact State.wf_entryFault wf _ _ _
    split
    · split
      · exact ih committed _ _
      · exact State.wf_enterLinkWait committed
      · exact State.wf_takeEnd committed
      · exact State.wf_chainFault committed _ _ _ _
    · exact State.wf_readSlot committed _

theorem State.wf_pollLink : Memory.wf s.pollLink.mem = true := by
  unfold State.pollLink
  split
  · split
    · exact wf
    · exact State.wf_enterBlock wf _ _ _
    · exact State.wf_takeEnd wf
    · exact State.wf_chainFault wf _ _ _ _
  · exact wf

/-! ### A level's actions keep it too -/

/-- BROWN's cuts write results and completion counts alone (R77, R88, R115, R124). -/
theorem State.wf_takeBrown : Memory.wf s.takeBrown.mem = true := by
  have taken : s.takeBrown = ((s.dropWaiting.forChans fun n u => u.truncatePulse n).forChans State.brownHold).rotorBrown := rfl
  have strikes := s.dropWaiting.cuts_forChans (f := fun n u => u.truncatePulse n)
    (fun _ n none_ => (State.cuts_truncatePulse none_ (State.covered_anywhere _) n).1) s.dropWaiting_fq.1
  have holds := State.cuts_forChans _ (f := State.brownHold)
    (fun _ n none_ => (State.cuts_brownHold none_ (State.covered_anywhere _) n).1) (strikes.noneWaits s.dropWaiting_fq.1)
  rw [taken]
  exact (State.writesOnly_rotorBrown _).wf (holds.writes.wf (strikes.writes.wf (s.writesOnly_dropWaiting.wf wf)))

theorem State.wf_takeLevel (old new : SupplyLevel) : Memory.wf (s.takeLevel old new).mem = true := by
  cases new with
  | brown =>
    rw [State.takeLevel]
    exact State.wf_takeBrown wf
  | normal =>
    rw [State.takeLevel]
    exact s.grantsInto_grantTest.writes.wf wf
  | sag =>
    simp only [State.takeLevel]
    split
    · simpa using wf
    · exact wf
end

/-! ### What a level's actions leave -/

/-- The level itself and what VSENSE read are the sample's. -/
@[simp] theorem State.takeLevel_csm (s : State) (old new : SupplyLevel) : (s.takeLevel old new).csm = s.csm := by
  cases new with
  | brown => simp [State.takeLevel]
  | normal => simp [State.takeLevel]
  | sag => simp only [State.takeLevel]; split <;> simp

/-! ### The sample (R136 to R138, R176) -/

/-- The level that a sample finds: that of R138's table, or with no thresholds latched the present one (R137). -/
def State.foundLevel (s : State) (v : Nat) : SupplyLevel :=
  match s.perf.latch with
  | none => s.csm.level
  | some l => nextLevel l.global s.csm.level (vsenseReading v)

/-- VSENSE is read, and a level that differs is acted on with SUPPLY set (R138, R139). -/
def State.judged (s : State) (v : Nat) : State :=
  if s.foundLevel v = s.csm.level then s.sampled v s.csm.level
  else ((s.sampled v (s.foundLevel v)).takeLevel s.csm.level (s.foundLevel v)).setFlag .supply

/-- A sample that finds the level it was (R136, R138). -/
theorem State.sampleSupply_stays {s : State} {v : Nat} {l : Latch} (latched : s.perf.latch = some l)
    (finds : nextLevel l.global s.csm.level (vsenseReading v) = s.csm.level) :
    s.sampleSupply v = s.setCsm { s.csm with vsense := v, reading := BitVec.ofNat 8 (vsenseReading v) } := by
  simp only [State.sampleSupply, State.setCsm_perf, latched, State.setCsm_csm, finds, if_true]

/-- With the next housekeeping set, the sample judges. -/
theorem State.sampleSupply_judged (s : State) (v : Nat) :
    (s.setSched { s.sched with houseDue := s.sched.houseDue + 1000 }).sampleSupply v = s.judged v := by
  unfold State.judged State.sampled
  generalize ({ s.sched with houseDue := s.sched.houseDue + 1000 } : Sched) = schedule
  cases latched : s.perf.latch with
  | none =>
    have stays : s.foundLevel v = s.csm.level := by simp only [State.foundLevel, latched]
    rw [if_pos stays]
    simp only [State.sampleSupply, State.setCsm_perf, State.setSched_perf, latched]
    rfl
  | some l =>
    have finds : s.foundLevel v = nextLevel l.global s.csm.level (vsenseReading v) := by simp only [State.foundLevel, latched]
    have twice (u : State) (x y : Csm) : (u.setCsm x).setCsm y = u.setCsm y := rfl
    split
    next stays =>
      exact State.sampleSupply_stays (s := s.setSched schedule) latched (finds.symm.trans stays)
    next changes =>
      refine (State.sampleSupply_changes (s := s.setSched schedule) latched finds.symm fun same => changes same.symm).trans ?_
      rw [State.changeLevel_eq, twice]
      rfl

theorem State.judged_csm (s : State) (v : Nat) :
    (s.judged v).csm = { vsense := v, reading := BitVec.ofNat 8 (vsenseReading v), level := s.foundLevel v } := by
  have flag (u : State) : (u.setFlag .supply).csm = u.csm := rfl
  unfold State.judged
  split
  next stays => rw [stays]; rfl
  next => rw [flag, State.takeLevel_csm]; rfl

theorem State.judged_scu (s : State) (v : Nat) : (s.judged v).scu = s.scu := by
  rw [← State.sampleSupply_judged]
  simp

theorem State.wf_judged {s : State} (wf : Memory.wf s.mem = true) (v : Nat) : Memory.wf (s.judged v).mem = true := by
  have sampled (new : SupplyLevel) : Memory.wf (s.sampled v new).mem = true := by
    obtain ⟨c, d, is, -⟩ := s.sampled_eq v new
    rw [is]
    exact wf
  have flag (u : State) : (u.setFlag .supply).mem = u.mem := rfl
  unfold State.judged
  split
  · exact sampled _
  · rw [flag]
    exact State.wf_takeLevel (sampled _) _ _

/-- SUPPLY is set where the level changes (R138). -/
theorem State.flag_judged {s : State} {v : Nat} (changes : s.foundLevel v ≠ s.csm.level) : (s.judged v).flag .supply = true := by
  rw [State.judged, if_neg changes]
  exact State.flag_setFlag _ _

/-! ### The poll (R39) -/

/-- A link found WAIT changes nothing, and any other is acted on as at the end of a pass (R25, R39). -/
theorem State.pollLink_eq (s : State) :
    s.pollLink = if s.perf.state = .running ∧ s.reader.state = .linkWait ∧ s.linkKind ≠ 2 then s.linkTaken entryFuel else s := by
  by_cases waits : s.perf.state = .running ∧ s.reader.state = .linkWait
  · obtain ⟨running, waiting⟩ := waits
    unfold State.pollLink
    rw [if_pos ⟨running, waiting⟩]
    rcases s.currentLink_cases with ⟨link, kind⟩ | ⟨link, kind⟩ | ⟨link, kind⟩ | ⟨link, kind⟩
    · rw [State.linkTaken_end _ kind]
      simp [link, running, waiting, kind]
    · simp [link, kind]
    · rw [State.linkTaken_next _ kind]
      simp [link, running, waiting, kind]
    · rw [State.linkTaken_bad _ kind]
      simp [link, running, waiting, kind, State.chainFault_eq]
  · rw [State.pollLink_of_notWaiting waits, if_neg fun h => waits ⟨h.1, h.2.1⟩]

/-! ### The event -/

theorem exec_housekeepingEvent_due {s : State} (v : Nat) (hn : s.nrstLow = false)
    (due : reached s.scu.dt s.sched.houseDue = true) :
    exec (.housekeepingEvent v) s =
      .next (publish s ((s.setSched { s.sched with houseDue := s.sched.houseDue + 1000 }).housekeeping v)) := by
  have isDue : housekeepingDue s = true := due
  have taken : exec (.housekeepingEvent v) s = execHousekeepingEvent v s := rfl
  simp only [taken, execHousekeepingEvent, isDue, if_true]
  exact if_neg (by simp [hn])

/-- Line B, written last, shows the score clock (R163). -/
theorem readBytes_lineB_housekeeping {b x : State} (wf : Memory.wf x.mem = true) :
    Memory.readBytes (publish b x.writeLineB).mem 0x20 16 = x.lineB := by
  have unpublished : Memory.readBytes (publish b x.writeLineB).mem 0x20 16 = Memory.readBytes x.writeLineB.mem 0x20 16 :=
    Memory.readBytes_congr fun i hi => read_publish b _ (by simp only [published]; omega)
  have poked (bs : List Byte) : (x.poke 0x20 bs).mem = Memory.writeBytes x.mem 0x20 bs := rfl
  have reads := readBytes_writeBytes_same wf (a := 0x20) x.lineB (by rw [State.lineB_length]; omega)
  rw [State.lineB_length] at reads
  rw [unpublished, State.writeLineB, poked, reads]

/-- Where the level stays, the event polls the link and writes line B and what is published, and that is all. -/
theorem housekeeping_stays {s t : State} {v : Nat} (is : t = publish s (s.judged v).pollLink.writeLineB)
    (stays : s.foundLevel v = s.csm.level) :
    let u : State := { s with csm := t.csm, sched := t.sched }
    t = { u.pollLink with mem := t.mem } ∧ sameOutside u.pollLink t fun a => published a ∨ (0x20 ≤ a ∧ a < 0x30) := by
  have judged : s.judged v = s.sampled v s.csm.level := if_pos stays
  obtain ⟨c, d, sampled, -⟩ := s.sampled_eq v s.csm.level
  rw [judged, sampled] at is
  have csm : t.csm = c := by rw [is]; simp
  have sched : t.sched = d := by rw [is]; simp
  simp only [csm, sched]
  rw [is]
  exact ⟨publish_writeLineB _ _, sameOutside_housekeeping _ _⟩

/-- Settles O40: the sample is judged, the link polled and line B written last. -/
theorem housekeepingJudgesTheSupply : Obligations.HousekeepingJudgesTheSupply := by
  unfold Obligations.HousekeepingJudgesTheSupply
  intro s v r hn due wf reads
  have answer := exec_housekeepingEvent_due v hn due
  generalize ht : publish s ((s.setSched { s.sched with houseDue := s.sched.houseDue + 1000 }).housekeeping v) = t at answer
  have is : t = publish s (s.judged v).pollLink.writeLineB := by rw [← ht, State.housekeeping, State.sampleSupply_judged]
  have csm : t.csm = (s.judged v).csm := by rw [is]; simp
  have sched : t.sched = { s.sched with houseDue := s.sched.houseDue + 1000 } := by rw [← ht]; simp
  have scu : (s.judged v).pollLink.scu = s.scu := by simp [State.judged_scu]
  have reading : vsenseReading v = r := reads.symm
  have level : t.csm.level = s.foundLevel v := by rw [csm, State.judged_csm]
  refine ⟨t, answer, sched, ?_, ?_, ?_, fun changes => ?_, ?_, fun stays => ?_, ?_⟩
  · rw [csm, State.judged_csm]
  · rw [csm, State.judged_csm, reading]
    exact Nat.mod_eq_of_lt (by omega)
  · rw [level, State.foundLevel, reading]
    cases s.perf.latch with
    | none => rfl
    | some l => cases s.csm.level <;> rfl
  · have polled := (s.judged v).pollLink_goesOnTo.flags .supply (State.flag_judged (level ▸ changes))
    exact State.flag_of_regs (by rw [is]; simp) polled
  · have line : (s.judged v).pollLink.lineB = s.lineB := by simp only [State.lineB, scu]
    rw [is, readBytes_lineB_housekeeping (State.wf_pollLink (State.wf_judged wf v)), line]
  · have all := housekeeping_stays is (level.symm.trans stays)
    simp only [State.pollLink_eq] at all
    exact all
  · rw [← ht]
    apply State.eq_of_fields <;> simp

end Sys2Proof.Machine

/-! PROOFS. Commands of CONTROL: what a refused one leaves, and those that only move the performance state. -/
namespace Sys2Proof.Machine
open Sys2Proof

/-! ### Verdicts (R142, Table 8-3) -/

/-- A verdict by condition refuses where the condition fails. -/
theorem acceptIf_refused {b : Bool} (h : b = false) : acceptIf b = .refusedState := by rw [h]; rfl

/-- The performance is at rest in IDLE and ENDED. -/
theorem State.atRest_iff (s : State) : s.atRest = true ↔ s.perf.state = .idle ∨ s.perf.state = .ended := by
  simp [State.atRest]

theorem stopVerdict_refused {s : State} (h : s.perf.state = .idle ∨ s.perf.state = .ended ∨ s.perf.state = .frozen) :
    stopVerdict s = .refusedState := by
  rcases h with e | e | e <;> simp only [stopVerdict, e]

theorem clearVerdict_accepted_iff (s : State) :
    clearVerdict s = .accepted ↔ s.perf.state = .frozen ∧ s.siu.quiet = .opened ∧ s.siu.dflt = false := by
  refine ⟨fun h => ?_, fun ⟨frozen, open_, dflt⟩ => by simp [clearVerdict, acceptIf, frozen, open_, dflt]⟩
  simpa [and_assoc] using acceptIf_accepted h

/-- The holding holdpoint enables the CONTINUE command where the entry at the head of the agenda does (R13). -/
theorem State.holdByCommand_iff (s : State) :
    s.holdByCommand = true ↔
      ∃ c timeout delay, s.scu.agenda.head?.map AgendaEntry.body = some (.holdpoint c true timeout delay) := by
  unfold State.holdByCommand State.holdpoint
  cases s.scu.agenda with
  | nil => simp
  | cons e es => cases body : e.body <;> simp [body]

/-- CLEAR_CHANNEL names a FAULTED STRIKE channel (R100). -/
theorem State.faultedChan_isSome_iff (s : State) (b : Byte) :
    (s.faultedChan b).isSome = true ↔
      ∃ n : ChanId, b.toNat = n.val ∧ (s.ccfg n).cls = .strike ∧ (s.chan n).state = .faulted := by
  refine ⟨fun some_ => ?_, fun ⟨n, named, strike, faulted⟩ => by rw [State.faultedChan_eq named strike faulted]; rfl⟩
  unfold State.faultedChan at some_
  split at some_
  next n found =>
    obtain ⟨named, strike⟩ := (s.chanOf_eq_some b .strike n).1 found
    split at some_
    next faulted => exact ⟨n, named, strike, faulted⟩
    next => cases some_
  next => cases some_

/-! ### Refused commands (R142, Table 8-3) -/

/-- Each command that Table 8-3 refuses is a CONTROL write with that code and that verdict. -/
theorem exec_refused {c : Instr} {s : State} {code : Byte} {o : CmdOutcome} (refusal : commandRefusal s c = some (code, o)) :
    o ≠ .accepted ∧ ∃ verdict f, verdict s = o ∧ exec c s = onControl code verdict f s := by
  cases c <;> simp only [commandRefusal, reduceCtorEq, Option.ite_none_left_eq_some, Option.ite_none_right_eq_some,
    Option.some.injEq, Prod.mk.injEq] at refusal
  case start =>
    obtain ⟨busy, rfl, rfl⟩ := refusal
    exact ⟨nofun, startVerdict, State.startLoading, acceptIf_refused (by rwa [← Bool.not_eq_true, State.atRest_iff]), rfl⟩
  case pause =>
    obtain ⟨still, rfl, rfl⟩ := refusal
    exact ⟨nofun, pauseVerdict, State.takePause, acceptIf_refused (by rwa [← Bool.not_eq_true, PerfState.advances_iff]), rfl⟩
  case resume =>
    obtain ⟨playing, rfl, rfl⟩ := refusal
    exact ⟨nofun, resumeVerdict, State.takeResume, acceptIf_refused (by simpa using playing), rfl⟩
  case stop =>
    obtain ⟨done, rfl, rfl⟩ := refusal
    exact ⟨nofun, stopVerdict, State.takeStop, stopVerdict_refused done, rfl⟩
  case cont =>
    split at refusal
    next away =>
      cases refusal
      exact ⟨nofun, continueVerdict, fun s => s.releaseHeld .cont, if_neg away, rfl⟩
    next holds =>
      split at refusal
      · cases refusal
      next other =>
        cases refusal
        have disabled : ¬s.holdByCommand = true := by
          rw [State.holdByCommand_iff]
          exact fun ⟨c, timeout, delay, head⟩ => other c timeout delay head
        exact ⟨nofun, continueVerdict, fun s => s.releaseHeld .cont, by rw [continueVerdict, if_pos (not_not.1 holds), if_neg disabled], rfl⟩
  case clear =>
    obtain ⟨shut, rfl, rfl⟩ := refusal
    refine ⟨nofun, clearVerdict, State.enterEnded, acceptIf_refused ?_, rfl⟩
    rw [← Bool.not_eq_true]
    simpa [and_assoc] using shut
  case clearChannel n =>
    obtain ⟨unnamed, rfl, rfl⟩ := refusal
    exact ⟨nofun, clearChannelVerdict n, fun s => s.clearFaulted n, if_neg (by rwa [State.faultedChan_isSome_iff]), rfl⟩
  case lockConfig =>
    split at refusal
    next rests =>
      obtain ⟨unlatched, h⟩ := Option.ite_none_left_eq_some.1 refusal
      cases h
      exact ⟨nofun, lockVerdict, State.setLock, by rw [lockVerdict, if_pos (s.atRest_iff.2 rests), if_neg unlatched], rfl⟩
    next busy =>
      cases refusal
      exact ⟨nofun, lockVerdict, State.setLock, if_neg (by rwa [State.atRest_iff]), rfl⟩
  case unknownCommand code =>
    obtain ⟨unknown, rfl, rfl⟩ := refusal
    exact ⟨nofun, fun _ => .refusedArg, id, rfl, if_neg unknown⟩

/-- Settles O6: a refused command is a CONTROL write whose verdict is no acceptance, and such a write is recorded alone. -/
theorem refusedCommandsChangeControlAlone : Obligations.RefusedCommandsChangeControlAlone := by
  unfold Obligations.RefusedCommandsChangeControlAlone
  have recorded (c : Instr) (s : State) (code : Byte) (o : CmdOutcome) (refusal : commandRefusal s c = some (code, o))
      (hn : s.nrstLow = false) :
      exec c s = .next { s with port := s.wrotePort regControl, regs := { s.regs with code := code, outcome := o } } := by
    obtain ⟨refused, verdict, f, judged, write⟩ := exec_refused refusal
    exact write.trans (onControl_refused f hn judged refused)
  refine ⟨recorded, fun s code hn unknown => recorded (.unknownCommand code) s code .refusedArg ?_ hn⟩
  have other : isCommandCode code = false := by
    simpa [Instr.wellFormed] using (Laws.WellFormed.unknownCommand code).2 unknown
  simp [commandRefusal, other]

/-! ### Commands that only move the performance -/

/-- An accepted command whose effect leaves the registers to be recorded: its next state is that effect, published. -/
theorem exec_accepted {s x : State} (c : Instr) {code : Byte} {verdict : State → CmdOutcome} {f : State → State}
    (hn : s.nrstLow = false) (write : exec c s = onControl code verdict f s) (taken : verdict s = .accepted)
    (made : f { s with port := s.wrotePort regControl } = x) :
    ∃ t, exec c s = .next t ∧ publishes { x with regs := x.regs.accepted code } t := by
  refine ⟨_, write.trans (onControl_accepted f hn taken), ?_⟩
  rw [made]
  exact publishes_publish s _

/-- Settles O7: each of the five is accepted and its effect is one change of the performance. -/
theorem aCommandThatOnlyMovesThePerformanceChangesNothingElse :
    Obligations.ACommandThatOnlyMovesThePerformanceChangesNothingElse := by
  unfold Obligations.ACommandThatOnlyMovesThePerformanceChangesNothingElse
  refine ⟨fun s hn rests => ?_, fun s hn plays => ?_, fun s hn loads => ?_, fun s hn frozen open_ dflt => ?_,
    fun s hn rests latched => ?_⟩
  · exact exec_accepted .start (code := 1) (verdict := startVerdict) (f := State.startLoading) hn rfl (by simp [startVerdict, acceptIf, (s.atRest_iff).2 rests]) rfl
  · exact exec_accepted .pause (code := 2) (verdict := pauseVerdict) (f := State.takePause) hn rfl
      (by simp [pauseVerdict, acceptIf, (PerfState.advances_iff _).2 plays]) rfl
  · exact exec_accepted .stop (code := 4) (verdict := stopVerdict) (f := State.takeStop) hn rfl (by simp only [stopVerdict, loads]) (if_pos loads)
  · exact exec_accepted .clear (code := 6) (verdict := clearVerdict) (f := State.enterEnded) hn rfl ((clearVerdict_accepted_iff s).2 ⟨frozen, open_, dflt⟩) rfl
  · exact exec_accepted .lockConfig (code := 8) (verdict := lockVerdict) (f := State.setLock) hn rfl (by rw [lockVerdict, if_pos ((s.atRest_iff).2 rests), if_pos latched]) rfl

end Sys2Proof.Machine

/-! PROOFS. Every command completes, and what the bytes of a transaction spell is a command of its row. -/
namespace Sys2Proof.Machine
open Sys2Proof

/-! ### How a command answers -/

/-- The command answers a next state with the waiting commands as they were. -/
def completes (s : State) (a : Answer) : Prop := ∃ t, a = .next t ∧ t.pending = s.pending

theorem completes_next {s t : State} (kept : t.pending = s.pending) : completes s (.next t) := ⟨t, rfl, kept⟩

theorem onEvent_completes (due : Bool) {f : State → State} (kept : ∀ u, (f u).pending = u.pending) (s : State) :
    completes s (onEvent due f s) := by
  unfold onEvent
  split
  · exact completes_next (by simp [kept])
  · exact completes_next rfl

theorem onPort_completes {f : State → State} (kept : ∀ u, (f u).pending = u.pending) (s : State) :
    completes s (onPort f s) := by
  unfold onPort
  split
  · exact completes_next rfl
  · exact completes_next (kept s)

theorem onGroup_completes (r : BitVec 2) {f : State → State} (kept : ∀ u, (f u).pending = u.pending) (s : State) :
    completes s (onGroup r f s) :=
  onPort_completes (f := fun s => f (s.shiftGroup r)) (fun u => kept (u.shiftGroup r)) s

theorem onControl_completes (code : Byte) (verdict : State → CmdOutcome) {f : State → State}
    (kept : ∀ u, (f u).pending = u.pending) (s : State) : completes s (onControl code verdict f s) := by
  refine onGroup_completes regControl (fun u => ?_) s
  cases verdict s <;> simp [kept]

theorem onSample_completes {f : State → State} (kept : ∀ u, (f u).pending = u.pending) (s : State) :
    completes s (onSample f s) := by
  unfold onSample
  split
  · exact completes_next rfl
  · exact completes_next (by simp [kept])

theorem scheduled_completes {due low : Bool} {s m x : State} (moved : m.pending = s.pending) (taken : x.pending = s.pending) :
    completes s (if due = true then if low = true then .next m else .next x else .next s) := by
  split
  · split
    · exact completes_next moved
    · exact completes_next taken
  · exact completes_next rfl

/-! ### Every command of a row (R142, R170) -/

theorem exec_completes {c : Instr} (formed : c.wellFormed = true) (s : State) : completes s (exec c s) := by
  cases c <;> simp only [exec]
  case start | pause | resume | stop | cont | clear | clearChannel | lockConfig =>
    exact onControl_completes _ _ (fun u => by simp) s
  case perfReset => exact onControl_completes _ _ (fun u => by simp [State.perfReset, State.perfCleared]) s
  case unknownCommand code =>
    have unknown : ¬isCommandCode code = true := by simpa [Instr.wellFormed] using formed
    rw [execUnknownCommand, if_neg unknown]
    exact onControl_completes _ _ (fun _ => rfl) s
  case attnFlagsWrite | attnEnableWrite => exact onGroup_completes _ (fun u => by simp) s
  case statusWriteIgnored w =>
    unfold execStatusWriteIgnored
    rw [if_pos (show w.wellFormed = true from formed)]
    cases w
    case status => exact onGroup_completes _ (fun _ => rfl) s
    all_goals exact onPort_completes (fun u => by simp) s
  case memRead | memWrite | regRead => exact onPort_completes (fun u => by simp) s
  case unknownInstruction code n =>
    rw [execUnknownInstruction, if_pos (show reachesNoData code n = true from formed)]
    exact onPort_completes (fun u => by simp) s
  case powerOnReset | pinReset | nrstAssertion => exact completes_next (by simp)
  case housekeepingEvent | heatEvent | reportEvent | rotorRateEvent => exact scheduled_completes (by simp) (by simp)
  case quietQualifierChange | dfltAssertion | dfltDeassertion | lineTransition =>
    exact onSample_completes (fun u => by simp) s
  all_goals exact onEvent_completes _ (fun u => by simp) s

/-- Only the three rows whose operands are limited have terms that are no command, and these are refused (log entry 28). -/
theorem exec_illFormed {c : Instr} (ill : c.wellFormed = false) (s : State) : exec c s = .refused .illFormed := by
  cases c <;> simp only [Instr.wellFormed, reduceCtorEq] at ill
  case unknownCommand code => exact if_pos (by simpa using ill)
  case unknownInstruction code n => exact if_neg (by simp [ill])
  case statusWriteIgnored w => exact if_neg (by simp [ill])

/-! ### What a transaction spells (R170, Table 10-1) -/

theorem controlCommand_wellFormed (code argument : Byte) : (controlCommand code argument).wellFormed = true := by
  unfold controlCommand
  split
  case h_10 n1 n2 n3 n4 n5 n6 n7 n8 n9 =>
    simp only [Instr.wellFormed, isCommandCode, Bool.not_eq_true', Bool.and_eq_false_iff, decide_eq_false_iff_not]
    grind
  all_goals rfl

theorem groupCommand_wellFormed (r : BitVec 2) (lo hi : Byte) : (groupCommand r lo hi).wellFormed = true := by
  unfold groupCommand
  split
  case h_2 => exact controlCommand_wellFormed lo hi
  all_goals rfl

theorem registerGroups_wellFormed (r : BitVec 2) (data : List Byte) {c : Instr} (spelt : c ∈ registerGroups r data) :
    c.wellFormed = true := by
  induction r, data using registerGroups.induct with
  | case1 r lo hi rest ih =>
    rcases List.mem_cons.1 spelt with rfl | later
    · exact groupCommand_wellFormed r lo hi
    · exact ih later
  | case2 r b => rw [List.mem_singleton.1 spelt]; rfl
  | case3 r => rw [List.mem_singleton.1 spelt]; rfl

theorem registerWrite_wellFormed (index : Byte) (data : List Byte) {c : Instr} (spelt : c ∈ registerWrite index data) :
    c.wellFormed = true := by
  unfold registerWrite at spelt
  split at spelt
  next above => rw [List.mem_singleton.1 spelt]; exact decide_eq_true above
  next named =>
    split at spelt
    next short =>
      rw [List.mem_singleton.1 spelt]
      simp [Instr.wellFormed, IgnoredWrite.wellFormed, short, Nat.not_lt.1 named]
    next => exact registerGroups_wellFormed _ data spelt

section
variable {α : Type} {l : List α}

theorem length_lt_one (h : ∀ a r, l ≠ a :: r) : l.length < 1 := by
  cases l with
  | nil => simp
  | cons a r => exact absurd rfl (h a r)

theorem length_lt_two (h : ∀ a b r, l ≠ a :: b :: r) : l.length < 2 := by
  cases l with
  | nil => simp
  | cons a l => exact Nat.succ_lt_succ (length_lt_one fun b r e => h a b r (by rw [e]))

theorem length_lt_three (h : ∀ a b c r, l ≠ a :: b :: c :: r) : l.length < 3 := by
  cases l with
  | nil => simp
  | cons a l => exact Nat.succ_lt_succ (length_lt_two fun b c r e => h a b c r (by rw [e]))
end

/-- A transaction that no other row takes has come to no data: its code is none of the four, or too few bytes follow. -/
theorem decodeTransaction_wellFormed (mosi : List Byte) {c : Instr} (spelt : c ∈ decodeTransaction mosi) :
    c.wellFormed = true := by
  cases mosi with
  | nil => cases spelt
  | cons code rest =>
    simp only [decodeTransaction] at spelt
    split at spelt
    case h_4 index data _ => exact registerWrite_wellFormed index data spelt
    case h_5 read write readReg writeReg =>
      rw [List.mem_singleton.1 spelt]
      refine (Laws.WellFormed.unknownInstruction code _).2 ⟨fun is => ?_, fun is => ?_, fun is => ?_, fun is => ?_⟩
      · exact length_lt_three fun hi lo b data => read hi lo b data (by rw [is]; rfl)
      · exact length_lt_two fun hi lo data => write hi lo data (by rw [is]; rfl)
      · exact length_lt_two fun index b data => readReg index b data (by rw [is]; rfl)
      · exact length_lt_one fun index data => writeReg index data (by rw [is]; rfl)
    all_goals rw [List.mem_singleton.1 spelt]; rfl

/-- Settles O2. -/
theorem everyCommandOfTheTableCompletes : Obligations.EveryCommandOfTheTableCompletes := by
  unfold Obligations.EveryCommandOfTheTableCompletes
  exact ⟨fun c s => ⟨fun formed => exec_completes formed s, fun ill => exec_illFormed ill s⟩,
    fun mosi c spelt => decodeTransaction_wellFormed mosi spelt⟩

end Sys2Proof.Machine

/-! PROOFS. The moves of the performance state: what each command's effect can make of it, and the table of R154. -/
namespace Sys2Proof.Machine
open Sys2Proof

/-! ### Reading on while the score runs (R25, R41) -/

section
variable (s : State)

theorem State.placeAsk_readsTo (a : Ask) (onset : Int) : s.perf.readsTo (s.placeAsk a onset).perf := by
  have on {u : State} (same : u.perf = s.perf) : s.perf.readsTo u.readNext.perf := same ▸ u.readNext_readsTo
  cases a with
  | strike n v r => exact on (by simp)
  | hold n op => cases op <;> exact on (by simp)
  | rotor cmd => exact on (by simp)
  | mark r => exact on (by simp)
  | agenda body =>
    cases body with
    | tempo p n => exact on (by simp)
    | holdpoint x y d k => exact ⟨by simp [State.placeAsk], .inl (by simp [State.placeAsk])⟩
  | map n a r => exact on (by simp)
  | repeatJump a k => exact s.takeRepeat_readsTo a k

theorem State.passHorizon_readsTo : s.perf.readsTo s.passHorizon.perf := by
  unfold State.passHorizon
  split
  next c onset _ =>
    unfold State.takeOn
    split
    next a _ =>
      unfold State.roomAndAdmit
      split
      · exact s.placeAsk_readsTo a onset
      · exact Perf.readsTo_refl _
    next => exact State.readNext_readsTo (s.writeResult s.cueLoc (s.refusal c.body))
  next => exact Perf.readsTo_refl _

theorem State.releaseStall_readsTo : s.perf.readsTo s.releaseStall.perf := by
  unfold State.releaseStall
  split
  · exact s.enterBlock_readsTo _ _ _
  · exact s.passHorizon_readsTo
  · exact Perf.readsTo_refl _

/-- A WAIT link is polled while the score runs (R39). -/
theorem State.pollLink_perf : s.pollLink.perf = s.perf ∨ s.perf.state = .running ∧ s.perf.readsTo s.pollLink.perf := by
  unfold State.pollLink
  split
  next waits =>
    refine .inr ⟨waits.1, ?_⟩
    split
    · exact Perf.readsTo_refl _
    · exact s.enterBlock_readsTo _ _ _
    · exact s.takeEnd_readsTo
    · exact s.chainFault_readsTo _ _ _ _
  next => exact .inl rfl
end

/-! ### The table's arrows (R154) -/

/-- A command leaves the performance state or moves it along an arrow of the table. -/
abbrev moves (c : Instr) (x y : PerfState) : Prop := y = x ∨ perfArrow c x y = true

theorem moves_of_perf {c : Instr} {s t : State} (kept : t.perf = s.perf) : moves c s.perf.state t.perf.state :=
  .inl (by rw [kept])

theorem onEvent_moves {c : Instr} {due : Bool} {f : State → State} {s t : State} (h : onEvent due f s = .next t)
    (hf : due = true → moves c s.perf.state (f s).perf.state) : moves c s.perf.state t.perf.state := by
  rcases onEvent_next h with rfl | ⟨-, hd, rfl⟩
  · exact .inl rfl
  · simpa using hf hd

theorem onControl_moves {c : Instr} {code : Byte} {verdict : State → CmdOutcome} {f : State → State} {s t : State}
    (h : onControl code verdict f s = .next t)
    (hf : ∀ p, verdict s = .accepted → moves c s.perf.state (f { s with port := p }).perf.state) :
    moves c s.perf.state t.perf.state := by
  rcases onControl_next h with rfl | ⟨p, r, rfl⟩ | ⟨hv, p, r, rfl⟩
  · exact .inl rfl
  · exact moves_of_perf (by simp)
  · simpa using hf p hv

/-- A command whose arrows lead from RUNNING to DRAINING may have the reader go on in RUNNING. -/
theorem Perf.readsTo.moves {a b : Perf} {c : Instr} (reads : a.readsTo b) (runs : a.state = .running)
    (arrow : perfArrow c .running .draining = true) : moves c a.state b.state :=
  reads.2.imp_right fun drains => by rw [runs, drains]; exact arrow

/-! ### Commands of CONTROL (R149 to R153) -/

/-- STOP in LOADING ends the performance; a pause goes on; otherwise it drains, or has ended (R149, R151). -/
theorem State.takeStop_state (s : State) :
    if s.perf.state = .loading then s.takeStop.perf.state = .ended
    else if s.perf.state = .paused then s.takeStop.perf.state = .paused
    else s.takeStop.perf.state = .draining ∨ s.takeStop.perf.state = .ended := by
  unfold State.takeStop
  split
  · rfl
  · have stopped := s.stopPlaying_perf.2
    split
    next paused => rw [if_pos paused] at stopped; exact stopped.1
    next plays => rw [if_neg plays] at stopped; exact stopped.imp_right And.left

theorem State.takeStop_moves {s : State} (taken : stopVerdict s = .accepted) (p : Port) :
    moves .stop s.perf.state (State.takeStop { s with port := p }).perf.state := by
  have stopped := State.takeStop_state { s with port := p }
  unfold stopVerdict at taken
  cases state : s.perf.state <;> simp only [state, reduceCtorEq, if_false, if_true] at taken stopped
  case paused => exact .inl stopped
  case draining => exact stopped.imp_right fun e => by rw [e]; rfl
  all_goals right
  case loading => rw [stopped]; rfl
  case running | holding => rcases stopped with e | e <;> rw [e] <;> rfl

/-- RESUME returns to the state remembered, or ends a drain that is complete (R150). -/
theorem State.takeResume_moves {s : State} (ok : s.scoreOk) (paused : s.perf.state = .paused) (p : Port) :
    moves .resume s.perf.state (State.takeResume { s with port := p }).perf.state := by
  obtain ⟨x, prior, advances⟩ := ok.paused paused
  rw [PerfState.advances_iff] at advances
  unfold State.takeResume
  simp only [prior, Option.getD_some]
  generalize back : State.grantTest _ = u
  have state : u.perf.state = x := by rw [← back]; simp
  right
  rw [paused]
  rcases u.drainCheck_perf with same | ⟨-, ended, -⟩
  · rw [same, state]
    rcases advances with rfl | rfl | rfl <;> rfl
  · rw [ended]; rfl

/-- A released holdpoint leaves the performance RUNNING, or DRAINING where the reader comes to an end (R13). -/
theorem State.releaseHeld_moves {c : Instr} {s : State} (holds : s.perf.state = .holding) (src : ReleaseSource)
    (arrows : perfArrow c .holding .running = true ∧ perfArrow c .holding .draining = true) :
    moves c s.perf.state (s.releaseHeld src).perf.state := by
  unfold State.releaseHeld
  split
  next e _ =>
    split
    next d _ =>
      right
      rw [holds]
      rcases (s.releaseHoldpoint_readsTo e src d).2 with runs | drains
      · rw [runs]; exact arrows.1
      · rw [drains]; exact arrows.2
    next => exact .inl rfl
  next => exact .inl rfl

theorem continueVerdict_accepted {s : State} (taken : continueVerdict s = .accepted) : s.perf.state = .holding := by
  unfold continueVerdict at taken
  split at taken
  · assumption
  · cases taken

/-! ### Score time (R6, R12) -/

/-- A boundary may hold the performance, but not while it drains, where no holdpoint waits (R20). -/
theorem State.boundaryAt_moves {s : State} (ok : s.scoreOk) (plays : s.perf.state.scores = true) (b : Int) :
    moves .tickBoundary s.perf.state (s.boundaryAt b).perf.state := by
  rw [State.boundaryAt_eq]
  obtain ⟨rest, suffix, -, same | ⟨holds, -, e, head, isHold⟩⟩ := State.agendaAt_cases
    (s.setScu { s.scu with tick := s.tickAhead, tempo := s.scu.tempo.discard s.tickAhead }) s.tickAhead b s.scu.agenda
  · exact moves_of_perf (by simp [same])
  · have waits : s.holdpointWaits = true := List.any_eq_true.2 ⟨e, suffix.subset (List.mem_of_head? head), isHold⟩
    right
    rcases (PerfState.scores_iff _).1 plays with runs | drains
    · simp [holds, runs, perfArrow]
    · simp [ok.draining (.inl drains)] at waits

/-! ### LOADING, the freeze and the supply (R131, R146, R147) -/

theorem State.loadingCompletes_moves {s : State} (loads : s.perf.state = .loading) :
    moves .loadingComplete s.perf.state s.loadingCompletes.perf.state := by
  right
  rw [loads]
  unfold State.loadingCompletes
  split
  · rfl
  · obtain ⟨-, -, -, state, -⟩ := s.stageLast.loadingSucceeds_started
    rcases state with e | e <;> rw [e] <;> rfl

/-- A freeze leaves the performance FROZEN (R131, R133). -/
theorem State.freeze_state (s : State) (c : EndCause) : (s.freeze c).perf.state = .frozen := by
  unfold State.freeze
  split
  case h_8 => assumption
  all_goals rfl

theorem State.housekeeping_moves (s : State) (v : Nat) :
    moves (.housekeepingEvent v) s.perf.state (s.housekeeping v).perf.state := by
  have line : (s.housekeeping v).perf = (s.sampleSupply v).pollLink.perf := by simp [State.housekeeping]
  have sampled : (s.sampleSupply v).perf = s.perf := by simp
  rw [line, ← sampled]
  rcases (s.sampleSupply v).pollLink_perf with same | ⟨runs, reads⟩
  · exact .inl (by rw [same])
  · exact reads.moves runs rfl

/-! ### Every command -/

theorem exec_moves {c : Instr} {s t : State} (ok : s.scoreOk) (h : exec c s = .next t) :
    moves c s.perf.state t.perf.state := by
  cases c <;> simp only [exec] at h
  case start =>
    refine onControl_moves h fun p taken => .inr ?_
    rcases s.atRest_iff.1 (acceptIf_accepted taken) with e | e <;> rw [e] <;> rfl
  case pause =>
    refine onControl_moves h fun p taken => .inr ?_
    rcases (PerfState.advances_iff _).1 (acceptIf_accepted taken) with e | e | e <;> rw [e] <;> rfl
  case resume =>
    exact onControl_moves h fun p taken => State.takeResume_moves ok (by simpa using acceptIf_accepted taken) p
  case stop => exact onControl_moves h fun p taken => State.takeStop_moves taken p
  case cont =>
    exact onControl_moves h fun p taken =>
      State.releaseHeld_moves (s := { s with port := p }) (continueVerdict_accepted taken) .cont ⟨rfl, rfl⟩
  case clear =>
    refine onControl_moves h fun p taken => .inr ?_
    rw [((clearVerdict_accepted_iff s).1 taken).1]
    rfl
  case clearChannel | lockConfig => exact onControl_moves h fun p _ => .inl (by simp [State.setLock])
  case perfReset =>
    refine onControl_moves h fun p _ => .inr ?_
    rw [State.perfReset_eq]
    cases s.perf.state <;> rfl
  case unknownCommand =>
    unfold execUnknownCommand at h
    split at h
    · cases h
    · exact onControl_moves h fun p _ => .inl rfl
  case powerOnReset =>
    rw [powerOnReset_next h]
    right
    simp only [State.initStatusArea_keeps]
    cases s.perf.state <;> rfl
  case pinReset =>
    rw [pinReset_next h]
    right
    simp only [State.initStatusArea_keeps]
    cases s.perf.state <;> rfl
  case attnFlagsWrite | attnEnableWrite => rcases onGroup_next h with rfl | ⟨p, rfl⟩ <;> exact moves_of_perf (by simp)
  case statusWriteIgnored w =>
    unfold execStatusWriteIgnored at h
    split at h
    · cases w
      case status => rcases onGroup_next h with rfl | ⟨p, rfl⟩ <;> exact moves_of_perf rfl
      all_goals rcases onPort_next h with rfl | rfl <;> exact moves_of_perf (by simp)
    · cases h
  case memRead | memWrite | regRead => rcases onPort_next h with rfl | rfl <;> exact moves_of_perf (by simp)
  case unknownInstruction =>
    unfold execUnknownInstruction at h
    split at h
    · rcases onPort_next h with rfl | rfl <;> exact moves_of_perf (by simp)
    · cases h
  case nrstAssertion => cases h; exact .inl rfl
  case housekeepingEvent v =>
    rcases scheduled_next h with rfl | rfl | rfl
    · exact .inl rfl
    · exact .inl rfl
    · simpa using State.housekeeping_moves (s.setSched { s.sched with houseDue := s.sched.houseDue + 1000 }) v
  case heatEvent | reportEvent | rotorRateEvent =>
    rcases scheduled_next h with rfl | rfl | rfl <;> exact moves_of_perf (by simp)
  case quietQualifierChange | dfltDeassertion | lineTransition =>
    rcases onSample_next h with rfl | rfl <;> exact moves_of_perf (by simp)
  case dfltAssertion =>
    rcases onSample_next h with rfl | rfl
    · exact .inl rfl
    · unfold State.takeDflt
      split
      · exact moves_of_perf (by simp)
      · right
        simp only [publish_keeps, State.handFault_keeps, State.freeze_state]
        cases s.perf.state <;> rfl
  case quietRequest =>
    refine onEvent_moves h fun _ => .inr ?_
    rw [State.takeQuiet, State.freeze_state]
    cases s.perf.state <;> rfl
  case tickBoundary =>
    refine onEvent_moves h fun due => ?_
    unfold State.boundary
    unfold tickBoundaryDue at due
    split
    next b hb =>
      simp only [hb, Bool.and_eq_true] at due
      exact State.boundaryAt_moves ok due.1 b
    next => exact .inl rfl
  case holdpointTimeout =>
    refine onEvent_moves h fun due => State.releaseHeld_moves ?_ .timeout ⟨rfl, rfl⟩
    unfold holdpointTimeoutDue at due
    split at due
    · simp_all
    · cases due
  case cueiEdge =>
    refine onEvent_moves h fun _ => ?_
    unfold State.cueEdge
    split
    next taken => exact State.releaseHeld_moves taken.1 .cue ⟨rfl, rfl⟩
    next => exact .inl rfl
  case loadingComplete =>
    exact onEvent_moves h fun due => State.loadingCompletes_moves (by simpa [loadingCompleteDue] using due)
  case horizonPassed =>
    refine onEvent_moves h fun due => ?_
    simp only [horizonPassedDue, Bool.and_eq_true, beq_iff_eq] at due
    obtain ⟨⟨runs, -⟩, -⟩ := due
    exact s.passHorizon_readsTo.moves runs rfl
  case stallReleased =>
    refine onEvent_moves h fun due => ?_
    simp only [stallReleasedDue, Bool.and_eq_true, beq_iff_eq] at due
    obtain ⟨⟨runs, -⟩, -⟩ := due
    exact s.releaseStall_readsTo.moves runs rfl
  case drainComplete =>
    refine onEvent_moves h fun due => .inr ?_
    simp only [drainCompleteDue, Bool.and_eq_true, beq_iff_eq] at due
    obtain ⟨⟨⟨⟨⟨drains, -⟩, -⟩, -⟩, -⟩, -⟩ := due
    rw [drains]
    rfl
  all_goals exact onEvent_moves h fun _ => .inl (by simp)

/-- Settles O5: what each command's effect can make of the performance state is an arrow of the table. -/
theorem performanceMovesOnlyAlongItsArrows : Obligations.PerformanceMovesOnlyAlongItsArrows := by
  unfold Obligations.PerformanceMovesOnlyAlongItsArrows
  exact fun _ _ _ => exec_moves

end Sys2Proof.Machine

/-! PROOFS. The resets: the status area and the inputs they leave, the part held in reset, and the invariants at State.reset. -/
namespace Sys2Proof.Machine
open Sys2Proof

/-! ### Lines read after a line write -/

section
variable {s : State} {a b n : Nat} {bs : List Byte}

/-- A line written reads as written. -/
theorem State.readBytes_poke_same (wf : Memory.wf s.mem = true) (fits : a + bs.length ≤ 0x10000) :
    Memory.readBytes (s.poke a bs).mem a bs.length = bs :=
  readBytes_writeBytes_same wf bs fits

/-- A line apart from the one written reads as before. -/
theorem State.readBytes_poke_apart (apart : b + n ≤ a ∨ a + bs.length ≤ b) :
    Memory.readBytes (s.poke a bs).mem b n = Memory.readBytes s.mem b n :=
  Memory.readBytes_congr fun i hi => s.read_poke_ne bs (by omega)

/-- The upper part of a line of 0x00 reads 0x00. -/
theorem readBytes_zero_upper {m : Memory} {k : Nat} (zeros : Memory.readBytes m a (k + n) = List.replicate (k + n) 0) :
    Memory.readBytes m (a + k) n = List.replicate n 0 := by
  rw [Memory.readBytes_append, List.replicate_add] at zeros
  exact (List.append_inj zeros (by rw [Memory.readBytes_length, List.length_replicate])).2
end

/-! ### The status area (R157, R161, R163, R165) -/

theorem zeroBytes_length (n : Nat) : (zeroBytes n).length = n := List.length_replicate
theorem identityBytes_length : identityBytes.length = 7 := rfl

/-- The identity line's bytes as R161 gives them. -/
theorem identityBytes_eq : identityBytes = [0x4E, 0x4F, 0x08, 0x19, 0x01, 0x40, 0x40] := by decide

/-- What the snapshot lines show stands outside cue memory. -/
theorem State.snapshot_poke (s : State) (a : Nat) (bs : List Byte) :
    (s.poke a bs).lineA = s.lineA ∧ (s.poke a bs).lineB = s.lineB ∧ (s.poke a bs).lineC = s.lineC := ⟨rfl, rfl, rfl⟩

section
variable (s : State)

/-- The first 0x80 bytes and the channel report table, zeroed. -/
def State.zeroed : State := (s.poke 0 (zeroBytes 0x80)).poke 0x540 (zeroBytes 0x200)

theorem State.snapshot_zeroed : s.zeroed.lineA = s.lineA ∧ s.zeroed.lineB = s.lineB ∧ s.zeroed.lineC = s.lineC := by
  simp only [State.zeroed, State.snapshot_poke, and_self]

theorem State.initStatusArea_eq :
    s.initStatusArea = (((s.zeroed.poke 0 identityBytes).poke 0x10 s.lineA).poke 0x20 s.lineB).poke 0x30 s.lineC := by
  simp only [State.initStatusArea, State.zeroed, State.writeLineA, State.writeLineB, State.writeLineC, State.snapshot_poke]

/-- The status area is written again in its own bytes alone. -/
theorem State.sameOutside_initStatusArea : sameOutside s s.initStatusArea fun a => a < 0x80 ∨ (0x540 ≤ a ∧ a < 0x740) := by
  intro a out
  rw [not_or] at out
  rw [State.initStatusArea_eq, State.zeroed]
  repeat rw [State.read_poke_ne]
  all_goals simp only [zeroBytes_length, identityBytes_length, State.lineA_length, State.lineB_length, State.lineC_length]
  all_goals omega

variable {s} (wf : Memory.wf s.mem = true)
include wf

theorem State.wf_zeroed : Memory.wf s.zeroed.mem = true := State.wf_poke _ _ _ (State.wf_poke s _ _ wf)

theorem State.wf_initStatusArea : Memory.wf s.initStatusArea.mem = true :=
  State.wf_poke _ _ _ (State.wf_poke _ _ _ (State.wf_poke _ _ _ (State.wf_poke _ _ _ (State.wf_zeroed wf))))

theorem State.readBytes_zeroed :
    Memory.readBytes s.zeroed.mem 0x40 64 = List.replicate 64 0 ∧ Memory.readBytes s.zeroed.mem 0x540 512 = List.replicate 512 0 := by
  have low := State.readBytes_poke_same (bs := zeroBytes 0x80) wf (a := 0) (by rw [zeroBytes_length]; omega)
  have table := State.readBytes_poke_same (bs := zeroBytes 0x200) (State.wf_poke s 0 (zeroBytes 0x80) wf) (a := 0x540)
    (by rw [zeroBytes_length]; omega)
  rw [zeroBytes_length] at low table
  refine ⟨?_, table⟩
  rw [State.zeroed, State.readBytes_poke_apart (.inl (by omega))]
  exact readBytes_zero_upper (a := 0) (k := 64) low

/-- After a reset the status area is fresh: each line reads as written, and the rest 0x00 (R157). -/
theorem State.initStatusArea_fresh : s.initStatusArea.statusAreaFresh := by
  have wf0 := State.wf_poke s.zeroed 0 identityBytes (State.wf_zeroed wf)
  have wfA := State.wf_poke _ 0x10 s.lineA wf0
  have wfB := State.wf_poke _ 0x20 s.lineB wfA
  have identity := State.readBytes_poke_same (a := 0) (bs := identityBytes) (State.wf_zeroed wf) (by rw [identityBytes_length]; omega)
  have lineA := State.readBytes_poke_same (a := 0x10) (bs := s.lineA) wf0 (by rw [State.lineA_length]; omega)
  have lineB := State.readBytes_poke_same (a := 0x20) (bs := s.lineB) wfA (by rw [State.lineB_length]; omega)
  have lineC := State.readBytes_poke_same (a := 0x30) (bs := s.lineC) wfB (by rw [State.lineC_length]; omega)
  obtain ⟨zeros, table⟩ := State.readBytes_zeroed wf
  rw [identityBytes_length] at identity
  rw [State.lineA_length] at lineA
  rw [State.lineB_length] at lineB
  rw [State.lineC_length] at lineC
  have apart (k n : Nat) (low : 0x40 ≤ k) : Memory.readBytes s.initStatusArea.mem k n = Memory.readBytes s.zeroed.mem k n :=
    Memory.readBytes_congr fun i _ => by
      rw [State.initStatusArea_eq]
      repeat rw [State.read_poke_ne]
      all_goals simp only [identityBytes_length, State.lineA_length, State.lineB_length, State.lineC_length]
      all_goals omega
  refine ⟨?_, ?_, ?_, ?_, (apart _ _ (by omega)).trans zeros, (apart _ _ (by omega)).trans table⟩
  all_goals simp only [identityShows, State.initStatusArea_eq, State.snapshot_poke, State.snapshot_zeroed]
  · rw [State.readBytes_poke_apart (.inl (by omega)), State.readBytes_poke_apart (.inl (by omega)),
      State.readBytes_poke_apart (.inl (by omega)), identity, identityBytes_eq]
  · rw [State.readBytes_poke_apart (.inl (by omega)), State.readBytes_poke_apart (.inl (by omega)), lineA]
  · rw [State.readBytes_poke_apart (.inl (by omega)), lineB]
  · rw [lineC]
end

/-! ### The inputs after a reset (R127, R130, R133) -/

theorem siuAfterReset_settledAt (i : InputLevels) (dt : DevTime) : (siuAfterReset i dt).settledAt i dt := by
  refine ⟨fun n => by simp [siuAfterReset, Siu.restart, Siu.ofLevels, freshFilter, Filter.level], rfl, rfl, rfl, rfl, rfl, ?_, rfl, rfl⟩
  have quiet : (siuAfterReset i dt).quiet = QuietQual.sample .opened (Siu.ofLevels i).bothStops dt := rfl
  simp only [quiet, QuietQual.sample_eq, Siu.bothStops_iff, if_true]
  rfl

/-! ### The resets (R157, R176) -/

/-- Settles O16: each reset sets the state's fields and writes the status area again. -/
theorem resetsLeaveTheResetState : Obligations.ResetsLeaveTheResetState := by
  unfold Obligations.ResetsLeaveTheResetState
  refine ⟨fun s i => ⟨(s.powerOn i).initStatusArea, rfl, ?_, ?_, State.wf_initStatusArea rfl, State.initStatusArea_fresh rfl, ?_⟩,
    fun s i wf => ⟨(s.pinRelease i).initStatusArea, rfl, ?_, fun n => ?_, ?_, State.wf_initStatusArea wf, State.initStatusArea_fresh wf, ?_⟩⟩
  · apply State.eq_of_fields <;> simp only [State.initStatusArea_keeps] <;> rfl
  · simp only [State.initStatusArea_keeps]
    exact siuAfterReset_settledAt i 0
  · exact fun a out => (s.powerOn i).sameOutside_initStatusArea a (by omega)
  · apply State.eq_of_fields <;> simp only [State.initStatusArea_keeps] <;> rfl
  · simp [State.chan, State.pinRelease]
  · simp only [State.initStatusArea_keeps]
    exact siuAfterReset_settledAt i s.scu.dt
  · exact (s.pinRelease i).sameOutside_initStatusArea

/-! ### The part held in reset (R157, R170, R176) -/

/-- Nothing has moved but the schedules on DT (log entry 5). -/
abbrev State.onlySchedules (s t : State) : Prop :=
  t = { s with sched := t.sched, chans := t.chans, rot := { s.rot with rateDue := t.rot.rateDue } } ∧
    ∀ n, t.chan n = { s.chan n with heatDue := (t.chan n).heatDue }

theorem State.onlySchedules_refl (s : State) : s.onlySchedules s := ⟨rfl, fun _ => rfl⟩

theorem State.onlySchedules_setSched (s : State) (x : Sched) : s.onlySchedules (s.setSched x) := ⟨rfl, fun _ => rfl⟩

theorem State.onlySchedules_rateDue (s : State) (d : DevTime) : s.onlySchedules (s.setRot { s.rot with rateDue := d }) :=
  ⟨rfl, fun _ => rfl⟩

theorem State.onlySchedules_heatDue (s : State) (n : ChanId) (d : DevTime) :
    s.onlySchedules (s.setChan n { s.chan n with heatDue := d }) := by
  refine ⟨rfl, fun k => ?_⟩
  rw [State.chan_setChan]
  split
  next own => rw [own]
  next => rfl

/-- The command answers with the schedules alone moved. -/
def heldAnswer (s : State) (a : Answer) : Prop := ∃ t, a = .next t ∧ s.onlySchedules t

theorem heldAnswer_same (s : State) : heldAnswer s (.next s) := ⟨s, rfl, s.onlySchedules_refl⟩

section
variable {s : State} (low : s.nrstLow = true)
include low

theorem onEvent_held (due : Bool) (f : State → State) : heldAnswer s (onEvent due f s) := by
  rw [onEvent_idle (by simp [low])]
  exact heldAnswer_same s

theorem onPort_held (f : State → State) : heldAnswer s (onPort f s) := by
  rw [onPort, if_pos low]
  exact heldAnswer_same s

theorem onGroup_held (r : BitVec 2) (f : State → State) : heldAnswer s (onGroup r f s) := onPort_held low _

theorem onControl_held (code : Byte) (verdict : State → CmdOutcome) (f : State → State) :
    heldAnswer s (onControl code verdict f s) := onGroup_held low _ _

theorem onSample_held (f : State → State) : heldAnswer s (onSample f s) := by
  rw [onSample, if_pos low]
  exact heldAnswer_same s

/-- A schedule on DT moves on where its event is due. -/
theorem scheduled_held {due : Bool} {m x : State} (moved : s.onlySchedules m) :
    heldAnswer s (if due = true then if s.nrstLow = true then .next m else .next x else .next s) := by
  rw [if_pos low]
  split
  · exact ⟨m, rfl, moved⟩
  · exact heldAnswer_same s

theorem exec_held {c : Instr} (formed : c.wellFormed = true) (kept : isFullReset c = false) (other : c ≠ .nrstAssertion) :
    heldAnswer s (exec c s) := by
  cases c <;> simp only [exec]
  case nrstAssertion => exact absurd rfl other
  case powerOnReset | pinReset => cases kept
  case start | pause | resume | stop | cont | clear | clearChannel | lockConfig | perfReset => exact onControl_held low _ _ _
  case unknownCommand code =>
    rw [execUnknownCommand, if_neg (by simpa [Instr.wellFormed] using formed)]
    exact onControl_held low _ _ _
  case attnFlagsWrite | attnEnableWrite => exact onGroup_held low _ _
  case memRead | memWrite | regRead => exact onPort_held low _
  case statusWriteIgnored w =>
    unfold execStatusWriteIgnored
    rw [if_pos (show w.wellFormed = true from formed)]
    cases w
    case status => exact onGroup_held low _ _
    all_goals exact onPort_held low _
  case unknownInstruction code n =>
    rw [execUnknownInstruction, if_pos (show reachesNoData code n = true from formed)]
    exact onPort_held low _
  case housekeepingEvent | reportEvent => exact scheduled_held low (s.onlySchedules_setSched _)
  case rotorRateEvent => exact scheduled_held low (s.onlySchedules_rateDue _)
  case heatEvent n => exact scheduled_held low (s.onlySchedules_heatDue n _)
  case quietQualifierChange | dfltAssertion | dfltDeassertion | lineTransition => exact onSample_held low _
  all_goals exact onEvent_held low _ _
end

/-- Settles O17. -/
theorem theAssertedResetPinHoldsThePart : Obligations.TheAssertedResetPinHoldsThePart := by
  unfold Obligations.TheAssertedResetPinHoldsThePart
  refine ⟨fun _ => rfl, fun s low => ⟨fun n => ?_, ?_, ?_, ?_, low⟩, fun c s low formed kept other => exec_held low formed kept other⟩
  · simp [State.drvOut, low]
  · simp [State.phOut, low]
  · simp [State.syncoOut, low]
  · simp [State.attnDrivenLow, low]

/-! ### The invariants at State.reset (R82, R108, R141, R157, R161) -/

theorem reset_chan (n : ChanId) : State.reset.chan n = Channel.atPowerOn := by simp [State.chan, State.reset]

theorem reset_ccfg (n : ChanId) : State.reset.ccfg n = ChannelConfig.unlatched := rfl

/-- Beyond the identity line and line B cue memory reads 0x00 after a power-on reset. -/
theorem Memory.read_atPowerOn {a : Nat} (high : 0x30 ≤ a) : Memory.read Memory.atPowerOn a = 0 := by
  simp only [Memory.atPowerOn, Memory.read]
  repeat rw [if_neg (by omega)]

theorem reset_refsInBlocks : State.reset.refsInBlocks where
  passes := nofun
  queue := nofun
  agenda := nofun
  stroke n := by rw [reset_chan]; nofun
  engage n := by rw [reset_chan]; nofun
  rotor := nofun
  reader := Reader.inBlock_outside rfl nofun (by decide)

theorem reset_fullDrive : State.reset.fullDrive = 0 := by
  simp [State.fullDrive, reset_chan, Channel.fullDrive, Channel.atPowerOn]

theorem reset_driveOk : State.reset.driveOk where
  slots := reset_fullDrive.symm
  count := by decide
  limit := reset_fullDrive ▸ Nat.zero_le _
  queue := nofun
  chans n := by
    rw [reset_chan, reset_ccfg]
    decide
  rest _ := ⟨rfl, reset_fullDrive, fun n => by rw [reset_chan]; rfl, fun n _ => by rw [reset_chan]; exact ⟨rfl, rfl⟩⟩

theorem reset_periodsOk : State.reset.periodsOk where
  period := by decide
  base := by decide
  ramp := nofun
  agenda := nofun
  initial := by decide

theorem reset_tableShows : State.reset.tableShows := by
  intro n j _ _
  rw [reset_chan, show State.reset.mem = Memory.atPowerOn from rfl, Memory.read_atPowerOn (by omega)]
  revert j
  decide

/-- Settles O18. -/
theorem theInvariantsHoldAtReset : Obligations.TheInvariantsHoldAtReset := by
  unfold Obligations.TheInvariantsHoldAtReset
  exact ⟨Memory.wf_atPowerOn, reset_refsInBlocks, by decide, by decide, reset_tableShows, ⟨by decide, by decide, by decide, by decide⟩,
    ⟨List.nodup_nil, nofun⟩, List.Pairwise.nil, fun n => by rw [reset_chan]; decide, fun n => by rw [reset_ccfg]; decide,
    reset_periodsOk, scoreOk_of_idle rfl rfl rfl, reset_driveOk⟩

end Sys2Proof.Machine

/-! PROOFS. LOADING's checks of its staging copy, what the copy holds, and a LOADING that fails. -/
namespace Sys2Proof.Machine
open Sys2Proof

/-! ### The fault record (R166) -/

/-- Bytes within a run of bytes that reads as a list are those of the list. -/
theorem Memory.readBytes_slice {m : Memory} {a n : Nat} {l : List Byte} (h : Memory.readBytes m a n = l) {i k : Nat}
    (inside : i + k ≤ n) : Memory.readBytes m (a + i) k = (l.drop i).take k := by
  obtain ⟨j, rfl⟩ : ∃ j, n = i + (k + j) := ⟨n - (i + k), by omega⟩
  rw [← h, Memory.readBytes_append, Memory.readBytes_append, List.drop_left' (Memory.readBytes_length m a i),
    List.take_left' (Memory.readBytes_length m (a + i) k)]

section
variable {s : State} (f : FaultInfo)

theorem State.handFault_regs : (s.handFault f).regs = s.regs.withFlag .fault := by
  unfold State.handFault
  split <;> rfl

theorem State.faultRecord_length : (s.faultRecord f).length = 64 := by simp [State.faultRecord]

/-- An EMPTY record takes the fault. -/
theorem State.handFault_empty (wf : Memory.wf s.mem = true) (empty : Memory.read s.mem 0x70 ≠ 1) :
    Memory.readBytes (s.handFault f).mem 0x40 64 = s.faultRecord f := by
  have written : (s.handFault f).mem = (s.poke 0x40 (s.faultRecord f)).mem := by
    rw [State.handFault, if_neg (by simpa [State.faultHeld] using empty), (State.setFlag_keeps _ _).1]
  have record := State.readBytes_poke_same (a := 0x40) (bs := s.faultRecord f) wf (by rw [State.faultRecord_length]; omega)
  rwa [State.faultRecord_length, ← written] at record

/-- A HELD record has its overlap flag set, and no other byte of it changes. -/
theorem State.handFault_held (wf : Memory.wf s.mem = true) (held : Memory.read s.mem 0x70 = 1) :
    Memory.read (s.handFault f).mem 0x71 = 1 ∧ ∀ a, a ≠ 0x71 → Memory.read (s.handFault f).mem a = Memory.read s.mem a := by
  have written : (s.handFault f).mem = (s.poke 0x71 [1]).mem := by
    rw [State.handFault, if_pos (by simpa [State.faultHeld] using held), (State.setFlag_keeps _ _).1]
  rw [written]
  refine ⟨Memory.read_writeBytes_same (a := 0x71) (i := 0) [1] (by simp) (by simp) wf, fun a other => s.read_poke_ne [1] ?_⟩
  simp only [List.length_singleton]
  omega

/-- The bytes of a record: HELD with overlap clear, the kind and the detail; the place; PT and DT (Table 10-12). -/
theorem State.readBytes_handFault (wf : Memory.wf s.mem = true) (empty : Memory.read s.mem 0x70 ≠ 1) :
    Memory.readBytes (s.handFault f).mem 0x70 4 = [1, 0, BitVec.ofNat 8 f.kind.code, BitVec.ofNat 8 f.detail.code] ∧
      Memory.readBytes (s.handFault f).mem 0x40 8 =
        leBytes 2 f.block.toNat ++ [BitVec.ofNat 8 f.slot, BitVec.ofNat 8 f.kindByte, BitVec.ofNat 8 f.depth, 0, 0, 0] ∧
      Memory.readBytes (s.handFault f).mem 0x50 12 =
        leBytes 6 (s.scu.pt.toNat / 16) ++ [0, 0] ++ leBytes 4 s.scu.dt.toNat := by
  have record := State.handFault_empty f wf empty
  exact ⟨(Memory.readBytes_slice record (i := 0x30) (by omega)).trans rfl, (Memory.readBytes_slice record (i := 0) (by omega)).trans rfl,
    (Memory.readBytes_slice record (i := 0x10) (by omega)).trans rfl⟩

/-- Publication leaves the fault record. -/
theorem readBytes_publish_fault (b x : State) {a n : Nat} (low : 0x40 ≤ a) (high : a + n ≤ 0x80) :
    Memory.readBytes (publish b x).mem a n = Memory.readBytes x.mem a n :=
  Memory.readBytes_congr fun i _ => read_publish b x (by unfold published; omega)
end

/-! ### Class codes and thresholds (R81, R137, R145) -/

/-- A record's class code: 0 to 2 name the three classes, 3 none. -/
theorem readClass_eq (r : List Byte) :
    readClass r = if (byteAt r 0).toNat % 4 = 0 then some .unused else if (byteAt r 0).toNat % 4 = 1 then some .strike
      else if (byteAt r 0).toNat % 4 = 2 then some .hold else none := by
  unfold readClass u8
  split <;> simp_all

theorem readClass_strike_iff (r : List Byte) : readClass r = some .strike ↔ (byteAt r 0).toNat % 4 = 1 := by
  rw [readClass_eq]
  grind

theorem readSyncMode_none_iff (c : Nat) : readSyncMode c = none ↔ ¬c ≤ 2 := by
  unfold readSyncMode
  split <;> simp_all
  omega

theorem ChannelConfig.badHeat_false_iff (k : ChannelConfig) : k.badHeat = false ↔ k.warm ≤ k.hot ∧ k.resume < k.hot := by
  simp [ChannelConfig.badHeat]

/-! ### Each check (R145) -/

section
variable (s : State)

theorem State.globalError_none_iff :
    s.globalError = none ↔
      (byteAt s.stagedGlobal 2).toNat ≤ 2 ∧ (byteAt s.stagedGlobal 0x19).toNat < (byteAt s.stagedGlobal 0x1A).toNat ∧
      (byteAt s.stagedGlobal 0x1B).toNat < (byteAt s.stagedGlobal 0x1C).toNat ∧
      (byteAt s.stagedGlobal 0x1C).toNat ≤ (byteAt s.stagedGlobal 0x19).toNat := by
  have thresholds : supplyThresholdsOk (readGlobal s.stagedGlobal) = true ↔
      (byteAt s.stagedGlobal 0x19).toNat < (byteAt s.stagedGlobal 0x1A).toNat ∧
      (byteAt s.stagedGlobal 0x1B).toNat < (byteAt s.stagedGlobal 0x1C).toNat ∧
      (byteAt s.stagedGlobal 0x1C).toNat ≤ (byteAt s.stagedGlobal 0x19).toNat := by
    simp only [supplyThresholdsOk, Bool.and_eq_true, decide_eq_true_eq, and_assoc]
    rfl
  rw [← thresholds, ← not_not (a := _ ≤ 2), ← readSyncMode_none_iff]
  unfold State.globalError u8
  split
  next bad => simp [bad]
  next good => split <;> simp_all

/-- A partner, where one is named, is another channel of class STRIKE. -/
theorem State.badPartner_false_iff (n : ChanId) :
    s.badPartner n = false ↔
      ∀ p, (readChannel (s.stagedChan n)).partner = some p → p ≠ n ∧ (byteAt (s.stagedChan p) 0).toNat % 4 = 1 := by
  unfold State.badPartner
  cases (readChannel (s.stagedChan n)).partner with
  | none => simp
  | some p => simp [← readClass_strike_iff]

/-- What R145 asks of a channel's staged record. -/
def State.chanGood (n : ChanId) : Prop :=
  (byteAt (s.stagedChan n) 0).toNat % 4 ≠ 3 ∧
    ((byteAt (s.stagedChan n) 0).toNat % 4 = 1 ∨ (byteAt (s.stagedChan n) 0).toNat % 4 = 2 →
      (readChannel (s.stagedChan n)).badHeat = false) ∧
    ((byteAt (s.stagedChan n) 0).toNat % 4 = 1 → s.badPartner n = false ∧ ∃ m, s.stagedMap n = .ok m)

theorem State.chanError_none_iff (n : ChanId) : s.chanError n = none ↔ s.chanGood n := by
  have four : (byteAt (s.stagedChan n) 0).toNat % 4 < 4 := Nat.mod_lt _ (by omega)
  have codes : (byteAt (s.stagedChan n) 0).toNat % 4 = 0 ∨ (byteAt (s.stagedChan n) 0).toNat % 4 = 1 ∨
      (byteAt (s.stagedChan n) 0).toNat % 4 = 2 ∨ (byteAt (s.stagedChan n) 0).toNat % 4 = 3 := by omega
  unfold State.chanError State.chanGood
  rw [readClass_eq]
  rcases codes with unused | strike | hold | other
  · simp [unused]
  · cases s.badPartner n <;> cases heat : (readChannel (s.stagedChan n)).badHeat <;> cases s.stagedMap n <;> simp [strike, heat]
  · cases heat : (readChannel (s.stagedChan n)).badHeat <;> simp [hold, heat]
  · simp [other]

/-- The signature is the header's first two bytes. -/
theorem u16_header (h : List Byte) : u16 h 0 = leNat (h.take 2) := by
  match h with
  | [] => rfl
  | [b] => rfl
  | b :: c :: rest => rfl

theorem State.startError_none_iff :
    s.startError = none ↔ validBlockAddr s.stagedStart = true ∧ leNat (s.stagedHeader.take 2) = 0x5A43 ∧
      (byteAt s.stagedHeader 2).toNat ≤ 15 := by
  rw [State.startError, Option.map_eq_none_iff, headerFault, u16_header, u8, blockSignature]
  split
  next invalid => simp [invalid]
  next valid =>
    split
    next bad => simp [bad]
    next signed => split <;> simp_all

theorem State.loadingError_none_iff :
    s.loadingError = none ↔
      (s.perf.lock = false → s.globalError = none ∧ ∀ n, s.chanError n = none) ∧ s.startError = none := by
  unfold State.loadingError
  split
  next locked => simp [locked]
  next unlocked =>
    have chans : allChans.findSome? s.chanError = none ↔ ∀ n, s.chanError n = none := by simp [allChans]
    rw [Bool.not_eq_true] at unlocked
    rw [← chans]
    split
    next e bad => simp [bad, unlocked]
    next good => split <;> simp_all

/-- Every check of R145, in the terms of the staged bytes. -/
theorem State.loadingError_checks :
    s.loadingError = none ↔
      (s.perf.lock = false →
        (byteAt s.stagedGlobal 2).toNat ≤ 2 ∧
        (byteAt s.stagedGlobal 0x19).toNat < (byteAt s.stagedGlobal 0x1A).toNat ∧
        (byteAt s.stagedGlobal 0x1B).toNat < (byteAt s.stagedGlobal 0x1C).toNat ∧
        (byteAt s.stagedGlobal 0x1C).toNat ≤ (byteAt s.stagedGlobal 0x19).toNat ∧ ∀ n, s.chanGood n) ∧
      validBlockAddr s.stagedStart = true ∧
      leNat (s.stagedHeader.take 2) = 0x5A43 ∧ (byteAt s.stagedHeader 2).toNat ≤ 15 := by
  simp only [State.loadingError_none_iff, State.globalError_none_iff, State.chanError_none_iff, State.startError_none_iff, and_assoc]

/-! ### What the staging copy holds (R144) -/

/-- Four lines read one after another are 64 bytes. -/
theorem readBytes_fourLines (m : Memory) (a : Nat) :
    (List.range 4).flatMap (fun j => Memory.line m (a + 16 * j)) = Memory.readBytes m a 64 := by
  rw [show 64 = 16 + (16 + (16 + 16)) from rfl]
  simp only [Memory.readBytes_append]
  simp [List.range, List.range.loop, Memory.line, Nat.add_assoc]

theorem readBytes_two (m : Memory) (a : Nat) : Memory.readBytes m a 2 = [Memory.read m a, Memory.read m (a + 1)] := rfl

section
variable {s} (unread : s.perf.staged = [])
include unread

theorem State.stagedOr_nothing (k : Nat) (line : List Byte) : s.stagedOr k line = line := by simp [State.stagedOr, unread]

theorem State.stagedStart_unread : s.stagedStart = BitVec.ofNat 16 (leNat (Memory.readBytes s.mem 0x100 2)) := by
  have first : s.stagedGlobal = Memory.line s.mem 0x100 ++ (List.range' 1 3).flatMap s.stagedGlobalLine := by
    have line : s.stagedGlobalLine 0 = Memory.line s.mem 0x100 := by simp [State.stagedGlobalLine, State.stagedOr_nothing unread]
    rw [← line]
    rfl
  rw [State.stagedStart, first]
  rfl

theorem State.stagedGlobal_unread (unlocked : s.perf.lock = false) : s.stagedGlobal = Memory.readBytes s.mem 0x100 64 := by
  rw [← readBytes_fourLines]
  exact List.flatMap_congr fun j _ => by simp [State.stagedGlobalLine, State.stagedOr_nothing unread, unlocked]

theorem State.stagedHeader_unread (valid : validBlockAddr s.stagedStart = true) :
    s.stagedHeader = Memory.readBytes s.mem s.stagedStart.toNat 16 := by
  simp [State.stagedHeader, State.stagedOr_nothing unread, valid, Memory.line]

theorem State.stagedChan_unread (unlocked : s.perf.lock = false) (n : ChanId) :
    s.stagedChan n = Memory.readBytes s.mem (0x140 + 16 * n.val) 16 := by
  simp [State.stagedChan, State.stagedOr_nothing unread, unlocked, Memory.line, chanRecordAddr]

theorem State.stagedRecord_unread (unlocked : s.perf.lock = false) {n : ChanId}
    (strike : (byteAt (s.stagedChan n) 0).toNat % 4 = 1) (valid : validMapAddr (readChannel (s.stagedChan n)).mapAddr = true) :
    s.stagedRecord n = Memory.readBytes s.mem (readChannel (s.stagedChan n)).mapAddr.toNat 64 := by
  have reads : s.readsMap n = true := by
    simp [State.readsMap, unlocked, (readClass_strike_iff _).2 strike, State.stagedMapAddr, valid]
  rw [← readBytes_fourLines]
  exact List.flatMap_congr fun j _ => by simp [State.stagedMapLine, State.stagedOr_nothing unread, reads, State.stagedMapAddr]
end

end

/-- With all its lines read, the staging copy is what was read, whatever else has changed. -/
theorem State.staging_fixed {s t : State} (read : 325 ≤ s.perf.staged.length) (perf : t.perf = s.perf) :
    t.stagedGlobal = s.stagedGlobal ∧ (∀ n, t.stagedChan n = s.stagedChan n) ∧ (∀ n, t.stagedRecord n = s.stagedRecord n) ∧
      t.stagedHeader = s.stagedHeader := by
  have item (k : Nat) (low : k < 325) (l l' : List Byte) : t.stagedOr k l = s.stagedOr k l' := by
    simp only [State.stagedOr, perf]
    rw [List.getD_eq_getElem _ _ (by omega), List.getD_eq_getElem _ _ (by omega)]
  refine ⟨?_, fun n => item _ (by omega) _ _, fun n => ?_, item _ (by omega) _ _⟩
  · exact List.flatMap_congr fun j hj => item j (by have := List.mem_range.1 hj; omega) _ _
  · exact List.flatMap_congr fun j hj => item _ (by have := List.mem_range.1 hj; omega) _ _

/-- The checks look at the staging copy and the lock alone. -/
theorem State.loadingError_of_staging {s t : State} (lock : t.perf.lock = s.perf.lock) (global : t.stagedGlobal = s.stagedGlobal)
    (chan : ∀ n, t.stagedChan n = s.stagedChan n) (record : ∀ n, t.stagedRecord n = s.stagedRecord n)
    (header : t.stagedHeader = s.stagedHeader) : t.loadingError = s.loadingError := by
  have chans : t.chanError = s.chanError := by
    funext n
    have partner : t.badPartner n = s.badPartner n := by
      unfold State.badPartner
      rw [chan n]
      split
      · rw [chan]
      · rfl
    have map : t.stagedMap n = s.stagedMap n := by rw [State.stagedMap, State.stagedMapAddr, chan, record, State.stagedMap, State.stagedMapAddr]
    unfold State.chanError
    rw [chan n, partner, map]
  simp only [State.loadingError, State.globalError, State.startError, State.stagedStart, lock, global, header, chans]

/-! ### A LOADING that fails (R146) -/

/-- What a failed LOADING hands to the Status Writer. -/
def ConfigError.info (e : ConfigError) : FaultInfo :=
  { kind := .config, block := e.block, slot := e.slot, kindByte := 0, readerTick := 0, depth := 0, detail := e.detail }

theorem exec_loadingComplete_fails {s : State} {e : ConfigError} (hn : s.nrstLow = false) (loads : s.perf.state = .loading)
    (bad : s.loadingError = some e) : exec .loadingComplete s = .next (publish s (s.stageLast.loadingFails e)) := by
  have fails : s.loadingCompletes = s.stageLast.loadingFails e := by rw [State.loadingCompletes, bad]
  rw [← fails]
  exact onEvent_due State.loadingCompletes hn (by simp [loadingCompleteDue, loads])

section
variable (s : State) (e : ConfigError)

theorem State.loadingFails_eq :
    s.loadingFails e = { s with
      mem := (s.loadingFails e).mem
      perf := { s.perf with state := .ended, endCause := .configError, prior := none, staged := [] }
      regs := (s.regs.withFlag .fault).withFlag .ended } := by
  have regs : (s.loadingFails e).regs = (s.regs.withFlag .fault).withFlag .ended :=
    congrArg (Regs.withFlag · .ended) (State.handFault_regs e.info)
  refine State.eq_of_fields rfl ?_ ?_ ?_ ?_ ?_ ?_ ?_ ?_ ?_ ?_ ?_ ?_ ?_ ?_ regs ?_ ?_ ?_ ?_
  all_goals simp [State.loadingFails, State.enterEnded, State.dropLoading]

theorem State.loadingFails_mem : (s.loadingFails e).mem = ((s.dropLoading .configError).handFault e.info).mem :=
  (State.enterEnded_keeps _).1

end

/-- Settles O49: the checks one by one; what is not read yet is read as it stands, and what is read stays. -/
theorem loadingChecksTheConfiguration : Obligations.LoadingChecksTheConfiguration := by
  unfold Obligations.LoadingChecksTheConfiguration
  refine ⟨fun s => ?_, fun s unread => ⟨State.stagedStart_unread unread, State.stagedHeader_unread unread, fun unlocked =>
      ⟨State.stagedGlobal_unread unread unlocked, fun n => ?_⟩⟩,
    fun s t read perf => ?_, fun s e hn loads bad wf => ?_⟩
  · rw [State.loadingError_checks]
    simp only [State.chanGood, ChannelConfig.badHeat_false_iff, State.badPartner_false_iff]
    rfl
  · have record := State.stagedChan_unread unread unlocked n
    refine ⟨record, fun strike valid => ?_⟩
    rw [← record] at strike valid ⊢
    exact State.stagedRecord_unread unread unlocked strike valid
  · obtain ⟨global, chan, record, header⟩ := State.staging_fixed read perf
    exact ⟨State.loadingError_of_staging (by rw [perf]) global chan record header, global, fun n => ⟨chan n, record n⟩⟩
  · obtain ⟨x, cut⟩ : ∃ x, x = s.stageLast.dropLoading .configError := ⟨_, rfl⟩
    have mem : x.mem = s.mem := by simp [cut]
    have failed : (s.stageLast.loadingFails e).mem = (x.handFault e.info).mem := by rw [State.loadingFails_mem, cut]
    have fault {a n : Nat} (low : 0x40 ≤ a) (high : a + n ≤ 0x80) :
        Memory.readBytes (publish s (s.stageLast.loadingFails e)).mem a n = Memory.readBytes (x.handFault e.info).mem a n := by
      rw [readBytes_publish_fault s _ low high, failed]
    rw [← mem] at wf
    refine ⟨_, exec_loadingComplete_fails hn loads bad, ?_, fun empty => ?_, fun held => ?_, fun a out => ?_⟩
    · rw [publish_eq, State.loadingFails_eq]
      apply State.eq_of_fields <;> simp
    · rw [← mem] at empty
      obtain ⟨kinds, place, -⟩ := State.readBytes_handFault e.info wf empty
      exact ⟨(fault (by omega) (by omega)).trans kinds,
        (fault (by omega) (by omega)).trans (Memory.readBytes_slice place (i := 0) (k := 3) (by omega))⟩
    · rw [← mem] at held
      rw [read_publish _ _ (by simp only [published]; omega), failed]
      exact (State.handFault_held e.info wf held).1
    · rw [read_publish _ _ (fun h => out (.inl h)), failed, State.read_handFault _ _ (fun h => out (.inr h)), mem]

end Sys2Proof.Machine

/-! PROOFS. What a freeze does in each block (Table 7-2): the queues, the channels one by one, and the rotor. -/
namespace Sys2Proof.Machine
open Sys2Proof

/-! ### Work that ends on one channel -/

/-- From `s` to `t` work has ended on channel `n`, whose heat may have risen; of the queue and the channels nothing else
has changed. -/
structure State.endsOn (s t : State) (n : ChanId) : Prop where
  fq     : t.fq = s.fq
  own    : t.chan n = { s.chan n with heat := (t.chan n).heat, stroke := (t.chan n).stroke, engage := (t.chan n).engage }
  others : ∀ m, m ≠ n → t.chan m = s.chan m

section
variable {s t u : State} {n : ChanId}

theorem State.endsOn.trans (h : s.endsOn t n) (k : t.endsOn u n) : s.endsOn u n where
  fq := k.fq.trans h.fq
  own := k.own.trans (by rw [h.own])
  others m hm := (k.others m hm).trans (h.others m hm)

theorem State.endsOn_of_chans (n : ChanId) (fq : t.fq = s.fq) (chans : t.chans = s.chans) : s.endsOn t n where
  fq := fq
  own := by simp only [State.chan, chans]
  others m _ := by simp only [State.chan, chans]

theorem State.endsOn_setChan {c : Channel}
    (own : c = { s.chan n with heat := c.heat, stroke := c.stroke, engage := c.engage }) : s.endsOn (s.setChan n c) n where
  fq := by simp
  own := by rw [State.setChan_chan_same]; exact own
  others m hm := by rw [State.chan_setChan, if_neg hm]

theorem State.endsOn_addHeat (s : State) (n : ChanId) (d : Nat) : s.endsOn (s.addHeat n d) n := by
  unfold State.addHeat
  split
  · exact State.endsOn_of_chans n rfl rfl
  · exact State.endsOn_setChan rfl

theorem State.endsOn_freeSlot (empty : s.fq = []) (n : ChanId) : s.endsOn s.freeSlot n := by
  rw [State.freeSlot_of_empty empty]
  exact State.endsOn_of_chans n rfl rfl

theorem State.endsOn_pulseOff (empty : s.fq = []) (n : ChanId) (till : DevTime) : s.endsOn (s.pulseOff n till) n := by
  unfold State.pulseOff
  split
  next k _ =>
    have ended : s.endsOn (s.setChan n { s.chan n with stroke := some { k with pulseEnd := till } }) n :=
      State.endsOn_setChan rfl
    exact (ended.trans (State.endsOn_freeSlot (ended.fq.trans empty) n)).trans (State.endsOn_addHeat _ n _)
  next => exact State.endsOn_freeSlot empty n

theorem State.endsOn_strokeLeaves (s : State) (n : ChanId) : s.endsOn (s.strokeLeaves n) n := by
  unfold State.strokeLeaves
  split
  next k _ =>
    have gone : s.endsOn (s.setChan n { s.chan n with stroke := none }) n := State.endsOn_setChan rfl
    exact gone.trans (State.endsOn_of_chans n (by simp) (by simp))
  next => exact State.endsOn_of_chans n rfl rfl

theorem State.endsOn_engageOver (empty : s.fq = []) (n : ChanId) (till : DevTime) (o : CueOutcome) (d : DropCause) :
    s.endsOn (s.engageOver n till o d) n := by
  have freed := State.endsOn_freeSlot empty n
  unfold State.engageOver
  split
  next g _ =>
    have heated := freed.trans (State.endsOn_addHeat _ n (g.driven till))
    have left : s.endsOn ((s.freeSlot.addHeat n (g.driven till)).setChan n
        { (s.freeSlot.addHeat n (g.driven till)).chan n with engage := none }) n :=
      heated.trans (State.endsOn_setChan rfl)
    exact left.trans (State.endsOn_of_chans n (by simp) (by simp))
  next => exact freed
end

/-! ### One channel (R105, R116) -/

/-- What a freeze leaves of a channel, by its class. -/
structure Channel.quietedTo (cls : ChanClass) (c d : Channel) : Prop where
  strike : cls = .strike → d.stroke = none ∧
           d.state = (if c.state = .drive ∨ c.state = .flight then .recover else c.state)
  hold   : cls = .hold → d.holdWanted = false ∧ d.standing = false ∧
           d.state = (if c.state = .engage ∨ c.state = .held then .released else c.state)
  unused : cls = .unused → d = c
  counts : d.trim = c.trim ∧ d.misses = c.misses ∧ d.strays = c.strays ∧ d.hits = c.hits

theorem Channel.quietedTo_strike {c d : Channel} (gone : d.stroke = none)
    (state : d.state = if c.state = .drive ∨ c.state = .flight then .recover else c.state)
    (counts : d.trim = c.trim ∧ d.misses = c.misses ∧ d.strays = c.strays ∧ d.hits = c.hits) : c.quietedTo .strike d :=
  ⟨fun _ => ⟨gone, state⟩, nofun, nofun, counts⟩

theorem Channel.quietedTo_hold {c d : Channel} (wanted : d.holdWanted = false ∧ d.standing = false)
    (state : d.state = if c.state = .engage ∨ c.state = .held then .released else c.state)
    (counts : d.trim = c.trim ∧ d.misses = c.misses ∧ d.strays = c.strays ∧ d.hits = c.hits) : c.quietedTo .hold d :=
  ⟨nofun, fun _ => ⟨wanted.1, wanted.2, state⟩, nofun, counts⟩

theorem Channel.quietedTo_unused (c : Channel) : c.quietedTo .unused c := ⟨nofun, nofun, fun _ => rfl, rfl, rfl, rfl, rfl⟩

/-- From `s` to `t` each channel of the list has been quieted, with an empty queue: nothing else of the channels has changed,
and only the results of their work are written. -/
structure State.quiets (s t : State) (l : List ChanId) : Prop where
  fq     : t.fq = []
  own    : ∀ n ∈ l, (s.chan n).quietedTo (s.ccfg n).cls (t.chan n)
  others : ∀ n, n ∉ l → t.chan n = s.chan n
  writes : s.writesOnly t fun a => ∃ n ∈ l, channelResult s n a

section
variable {s : State}

/-- The pulse of a channel in drive ends. -/
def State.pulseQuieted (s : State) (n : ChanId) : State := if (s.chan n).state = .drive then s.pulseOff n s.scu.dt else s

/-- The stroke of a channel is resolved where it is not, and leaves. -/
def State.strokeQuieted (s : State) (n : ChanId) : State :=
  match (s.chan n).stroke with
  | some k =>
    (if k.resolved then s
      else s.writeResult k.cue.loc (s.strikeResult .quieted .none k.second k.rerouted k.fireDelay 0 0)).strokeLeaves n
  | none => s

theorem State.quietStrike_eq (s : State) (n : ChanId) :
    s.quietStrike n =
      let t := (s.pulseQuieted n).strokeQuieted n
      if (s.chan n).state = .drive ∨ (s.chan n).state = .flight then
        t.setChan n { t.chan n with state := .recover, recoveryEnd := t.scu.dt + BitVec.ofNat 32 (t.ccfg n).recovery }
      else t := rfl

theorem State.pulseQuieted_endsOn (empty : s.fq = []) (n : ChanId) :
    s.endsOn (s.pulseQuieted n) n ∧ s.cuts (s.pulseQuieted n) (channelResult s n) := by
  unfold State.pulseQuieted
  split
  · exact ⟨State.endsOn_pulseOff empty n _, State.cuts_pulseOff (by simp [State.noneWaits, empty]) n _⟩
  · exact ⟨State.endsOn_of_chans n rfl rfl, .refl s _⟩

theorem State.strokeQuieted_endsOn (s : State) (n : ChanId) :
    s.endsOn (s.strokeQuieted n) n ∧ ((s.strokeQuieted n).chan n).stroke = none := by
  unfold State.strokeQuieted
  split
  next k held =>
    refine ⟨.trans ?_ (State.endsOn_strokeLeaves _ n), by rw [State.strokeLeaves_chan]⟩
    split
    · exact State.endsOn_of_chans n rfl rfl
    · exact State.endsOn_of_chans n (by simp) (by simp)
  next none => exact ⟨State.endsOn_of_chans n rfl rfl, none⟩

theorem State.strokeQuieted_writesOnly (s : State) (n : ChanId) {w : Nat → Prop}
    (area : ∀ k, (s.chan n).stroke = some k → ∀ a, resultArea k.cue.loc a → w a) : s.writesOnly (s.strokeQuieted n) w := by
  unfold State.strokeQuieted
  split
  next k held =>
    refine .trans ?_ (State.cuts_strokeLeaves n).writes
    split
    · exact .refl s w
    · exact s.writesOnly_writeResult (by simp [State.strikeResult, StrikeResult.bytes, leSigned16]) (area k held)
  next => exact .refl s w

/-- A STRIKE channel's stroke is gone, and where it was in drive or flight the channel recovers (R105). -/
theorem State.quiets_quietStrike (empty : s.fq = []) {n : ChanId} (strike : (s.ccfg n).cls = .strike) :
    s.quiets (s.quietStrike n) [n] := by
  obtain ⟨pulse, cut⟩ := State.pulseQuieted_endsOn empty n
  obtain ⟨stroke, gone⟩ := (s.pulseQuieted n).strokeQuieted_endsOn n
  have ends := pulse.trans stroke
  have area (k : Stroke) (held : ((s.pulseQuieted n).chan n).stroke = some k) (a : Nat) (ha : resultArea k.cue.loc a) :
      ∃ m ∈ [n], channelResult s m a := by
    obtain ⟨j, was, cue⟩ := (cut.chans n).stroke k held
    exact ⟨n, List.mem_singleton_self n, .inl ⟨j, was, by rwa [cue]⟩⟩
  have writes := (cut.writes.mono fun a ha => ⟨n, List.mem_singleton_self n, ha⟩).trans
    ((s.pulseQuieted n).strokeQuieted_writesOnly n area)
  rw [State.quietStrike_eq]
  generalize (s.pulseQuieted n).strokeQuieted n = t at ends gone writes
  have own := ends.own
  dsimp only
  split
  next works =>
    refine ⟨by simpa [ends.fq], fun m hm => ?_, fun m hm => ?_, writes.trans (.of_eq (by simp) (by simp))⟩
    · obtain rfl := List.mem_singleton.1 hm
      rw [State.setChan_chan_same, strike]
      exact Channel.quietedTo_strike gone (if_pos works).symm (by rw [own]; simp)
    · have other := fun same => hm (List.mem_singleton.2 same)
      rw [State.chan_setChan, if_neg other, ends.others m other]
  next rests =>
    refine ⟨by rwa [ends.fq], fun m hm => ?_, fun m hm => ends.others m fun same => hm (List.mem_singleton.2 same), writes⟩
    obtain rfl := List.mem_singleton.1 hm
    rw [strike]
    exact Channel.quietedTo_strike gone (by rw [if_neg rests, own]) (by rw [own]; simp)

theorem State.forceRelease_endsOn (empty : s.fq = []) (n : ChanId) (o : CueOutcome) (d : DropCause) :
    ∃ v, s.endsOn v n ∧ s.forceRelease n o d =
      if (s.chan n).state = .engage ∨ (s.chan n).state = .held then v.setChanState n .released else v := by
  have stays : s.endsOn s n := State.endsOn_of_chans n rfl rfl
  unfold State.forceRelease State.cutEngage
  cases (s.chan n).state with
  | engage => exact ⟨_, State.endsOn_engageOver empty n _ o d, rfl⟩
  | held => exact ⟨s, stays, rfl⟩
  | _ => exact ⟨s, stays, rfl⟩

/-- A HOLD channel is let go, and where it was engaging or held it is RELEASED (R116). -/
theorem State.quiets_endHold (empty : s.fq = []) {n : ChanId} (hold : (s.ccfg n).cls = .hold) :
    s.quiets (State.endHold .quieted n s) [n] := by
  have writes := State.endHold_writesOnly (w := fun a => ∃ m ∈ [n], channelResult s m a) empty .quieted n
    fun g x _ hg hx a ha => ⟨n, List.mem_singleton_self n, .inr ⟨g, x, hg, hx, ha⟩⟩
  have unwanted : (s.unwant n).chan n = { s.chan n with holdWanted := false, standing := false } := s.setChan_chan_same n _
  obtain ⟨v, ends, released⟩ := State.forceRelease_endsOn (s := s.unwant n) (by simpa [State.unwant]) n .quieted .none
  have ended : State.endHold .quieted n s =
      if (s.chan n).state = .engage ∨ (s.chan n).state = .held then v.setChanState n .released else v := by
    rw [State.endHold, if_pos hold, released, unwanted]
  have own := ends.own
  rw [unwanted] at own
  have others (m : ChanId) (hm : m ∉ [n]) : v.chan m = s.chan m := by
    have other : m ≠ n := fun same => hm (List.mem_singleton.2 same)
    rw [ends.others m other, State.unwant, State.chan_setChan, if_neg other]
  have queue : v.fq = [] := ends.fq.trans (by simpa [State.unwant])
  rw [ended] at writes ⊢
  split
  next drives =>
    rw [if_pos drives] at writes
    refine ⟨by simpa [State.setChanState], fun m hm => ?_, fun m hm => ?_, writes⟩
    · obtain rfl := List.mem_singleton.1 hm
      rw [State.setChanState, State.setChan_chan_same, own, hold]
      exact Channel.quietedTo_hold ⟨rfl, rfl⟩ (if_pos drives).symm ⟨rfl, rfl, rfl, rfl⟩
    · rw [State.setChanState, State.chan_setChan, if_neg fun same => hm (List.mem_singleton.2 same), others m hm]
  next rests =>
    rw [if_neg rests] at writes
    refine ⟨queue, fun m hm => ?_, others, writes⟩
    obtain rfl := List.mem_singleton.1 hm
    rw [own, hold]
    exact Channel.quietedTo_hold ⟨rfl, rfl⟩ (if_neg rests).symm ⟨rfl, rfl, rfl, rfl⟩

theorem State.quiets_quietChannel (empty : s.fq = []) (n : ChanId) : s.quiets (State.quietChannel n s) [n] := by
  unfold State.quietChannel
  split
  next strike => exact State.quiets_quietStrike empty strike
  next hold => exact State.quiets_endHold empty hold
  next unused =>
    refine ⟨empty, fun m hm => ?_, fun _ _ => rfl, .refl s _⟩
    obtain rfl := List.mem_singleton.1 hm
    rw [unused]
    exact Channel.quietedTo_unused _

/-- The channels of a list in turn. -/
theorem State.quiets_foldl {l : List ChanId} (once : l.Nodup) (empty : s.fq = []) :
    s.quiets (l.foldl (fun u n => State.quietChannel n u) s) l := by
  induction l generalizing s with
  | nil => exact ⟨empty, nofun, fun _ _ => rfl, .refl s _⟩
  | cons n l ih =>
    obtain ⟨out, once⟩ := List.nodup_cons.1 once
    have first := State.quiets_quietChannel empty n
    have rest := ih once first.fq
    have config (m : ChanId) : (State.quietChannel n s).ccfg m = s.ccfg m := State.ccfg_of_perf (by simp) m
    have apart {m : ChanId} (hm : m ∈ l) : (State.quietChannel n s).chan m = s.chan m :=
      first.others m fun same => out (List.mem_singleton.1 same ▸ hm)
    refine ⟨rest.fq, fun m hm => ?_, fun m hm => ?_, ?_⟩
    · rcases List.mem_cons.1 hm with rfl | hm
      · rw [List.foldl_cons, rest.others m out]
        exact first.own m (List.mem_singleton_self m)
      · have own := rest.own m hm
        rwa [apart hm, config] at own
    · obtain ⟨other, out'⟩ := not_or.1 (fun h => hm (List.mem_cons.2 h))
      rw [List.foldl_cons, rest.others m out', first.others m (by simpa using other)]
    · have leads {m : ChanId} (hm : m ∈ [n]) : m ∈ n :: l := List.mem_cons.2 (.inl (List.mem_singleton.1 hm))
      refine (first.writes.mono fun a ⟨m, hm, ha⟩ => ⟨m, leads hm, ha⟩).trans (rest.writes.mono fun a ⟨m, hm, ha⟩ => ?_)
      refine ⟨m, List.mem_cons_of_mem n hm, ?_⟩
      rwa [channelResult, apart hm] at ha
end

/-! ### Every block -/

/-- A freeze empties the fire queue (R80). -/
theorem State.quietQueue_fq (s : State) : s.quietQueue.fq = [] := by
  rw [State.quietQueue, State.foldl_fqResolve_fq, List.filter_eq_nil_iff]
  intro e he all
  exact absurd (List.all_eq_true.1 all e he) (by simp)

theorem State.writesOnly_quietQueue (s : State) : s.writesOnly s.quietQueue (queuedResult s) :=
  State.writesOnly.foldl _ s fun u e he => u.writesOnly_fqResolve _ _ _ fun c hc _ area => ⟨e, he, c, hc, area⟩

/-- The rotor is STOPPED without a command (R124). -/
theorem State.rotorQuiet_rot (s : State) : s.rotorQuiet.rot = s.rot.quieted := by
  have owes := s.rotorResolve_rot .quieted
  unfold State.rotorQuiet State.rotorRest
  simp only [State.setRot_rot, owes]

theorem State.writesOnly_rotorQuiet (s : State) : s.writesOnly s.rotorQuiet (rotorResultArea s) :=
  (s.rotorResolve_writesOnly .quieted).trans (.of_eq rfl rfl)

/-- The results a freeze writes. -/
def State.quietResults (s : State) (a : Nat) : Prop :=
  queuedResult s a ∨ agendaResult s a ∨ rotorResultArea s a ∨ ∃ n, channelResult s n a

/-- What a freeze leaves of the blocks of a performance that was playing. -/
theorem State.quietBlocks_spec (s : State) :
    s.quietBlocks.fq = [] ∧ s.quietBlocks.reader = s.endReading.reader ∧ s.quietBlocks.rot = s.rot.quieted ∧
      (∀ n, (s.chan n).quietedTo (s.ccfg n).cls (s.quietBlocks.chan n)) ∧ s.writesOnly s.quietBlocks s.quietResults := by
  have emptied := (s.endReading.agendaEnds .quieted).quietQueue_fq
  have read : s.writesOnly s.endReading s.quietResults := s.writesOnly_endReading _
  have agenda := (s.endReading.writesOnly_agendaEnds .quieted).mono (v := s.quietResults) fun a ⟨e, he, h⟩ =>
    .inr (.inl ⟨e, by simpa using he, h⟩)
  have queue := (s.endReading.agendaEnds .quieted).writesOnly_quietQueue.mono (v := s.quietResults) fun a ⟨e, he, h⟩ =>
    .inl ⟨e, by simpa using he, h⟩
  have before := read.trans (agenda.trans queue)
  have quieted := State.quiets_foldl (List.nodup_finRange 64) emptied
  have blocks : s.quietBlocks = ((s.endReading.agendaEnds .quieted).quietQueue.forChans State.quietChannel).rotorQuiet := rfl
  have forChans (u : State) :
      u.forChans State.quietChannel = (List.finRange 64).foldl (fun u n => State.quietChannel n u) u := rfl
  have keeps : (s.endReading.agendaEnds .quieted).quietQueue.reader = s.endReading.reader ∧
      (s.endReading.agendaEnds .quieted).quietQueue.rot = s.rot ∧ (s.endReading.agendaEnds .quieted).quietQueue.perf = s.perf ∧
      (s.endReading.agendaEnds .quieted).quietQueue.chans = s.chans := by simp
  obtain ⟨reader, rot, perf, chans⟩ := keeps
  have chan (n : ChanId) : (s.endReading.agendaEnds .quieted).quietQueue.chan n = s.chan n := by simp only [State.chan, chans]
  rw [← forChans] at quieted
  rw [blocks]
  generalize (s.endReading.agendaEnds .quieted).quietQueue = u at *
  have rotor : (u.forChans State.quietChannel).rot = s.rot := (fold_keep State.rot (by simp) rfl).trans rot
  refine ⟨by simpa using quieted.fq, ?_, by rw [State.rotorQuiet_rot, rotor], fun n => ?_, before.trans ?_⟩
  · simp only [State.rotorQuiet_keeps]
    exact (fold_keep State.reader (by simp) rfl).trans reader
  · have own := quieted.own n (List.mem_finRange n)
    rw [chan, State.ccfg_of_perf perf] at own
    simpa [State.chan] using own
  · refine (quieted.writes.mono fun a ⟨n, _, h⟩ => .inr (.inr (.inr ⟨n, ?_⟩))).trans
      ((u.forChans State.quietChannel).writesOnly_rotorQuiet.mono fun a h => .inr (.inr (.inl ?_)))
    · rwa [rotorResultArea, rotor] at h
    · rwa [channelResult, chan] at h

theorem State.writesOnly_quietBlocks (s : State) : s.writesOnly s.quietBlocks s.quietResults := by
  obtain ⟨-, -, -, -, writes⟩ := s.quietBlocks_spec
  exact writes

end Sys2Proof.Machine

/-! PROOFS. A quiet request and DFLT: the performance FROZEN, and the drive fault handed over. -/
namespace Sys2Proof.Machine
open Sys2Proof

/-! ### The freeze by the performance state (R131, R133) -/

section
variable {s : State} (c : EndCause)

theorem State.freeze_of_plays (plays : s.perf.state.plays) : s.freeze c = s.quietBlocks.enterFrozen c := by
  rcases plays with h | h | h | h <;> simp only [State.freeze, h]

theorem State.freeze_of_rests (rests : s.perf.state = .idle ∨ s.perf.state = .loading ∨ s.perf.state = .ended) :
    s.freeze c = s.freezeResting c := by
  rcases rests with h | h | h <;> simp only [State.freeze, h]

theorem State.freeze_of_frozen (frozen : s.perf.state = .frozen) : s.freeze c = s := by simp only [State.freeze, frozen]

/-- A performance plays, rests or is FROZEN. -/
theorem PerfState.plays_rests_or_frozen (x : PerfState) :
    x.plays ∨ (x = .idle ∨ x = .loading ∨ x = .ended) ∨ x = .frozen := by
  cases x <;> simp [PerfState.plays]

/-- A freeze where nothing plays moves the rotor, the performance state and a flag (R124, R149). -/
theorem State.freezeResting_eq (s : State) (c : EndCause) :
    s.freezeResting c = { s.rotorResolve .quieted with
      rot := s.rot.quieted, perf := { s.perf with state := .frozen, endCause := c, prior := none, staged := [] }
      regs := s.regs.withFlag .frozen } := by
  have resolved : (s.dropLoading c).rotorResolve .quieted = (s.rotorResolve .quieted).dropLoading c := by
    unfold State.rotorResolve
    cases owed : s.rot.owed <;> simp [State.dropLoading, owed, State.writeResult]
    rfl
  rw [State.freezeResting, State.rotorQuiet, resolved]
  have rot := s.rotorResolve_rot .quieted
  have perf : (s.rotorResolve .quieted).perf = s.perf := by simp
  have regs : (s.rotorResolve .quieted).regs = s.regs := by simp
  rw [← perf, ← regs]
  generalize s.rotorResolve .quieted = u at *
  apply State.eq_of_fields <;> simp [State.rotorRest, State.enterFrozen, State.dropLoading, rot]
  rfl

/-- What a freeze leaves of a performance that was playing. -/
theorem State.freeze_frozenFrom (plays : s.perf.state.plays) : frozenFrom s (s.freeze c) c := by
  obtain ⟨fq, reader, rot, chans, writes⟩ := s.quietBlocks_spec
  have reads : s.quietBlocks.reader =
      if s.reader.state = .finished ∨ s.reader.state = .faulted ∨ s.reader.state = .stopped then s.reader
      else { s.reader with state := .stopped, pending := .none, pass := none } := by
    have ended := s.endReading_reader
    rw [reader]
    split at ended
    next stood => rw [ended, if_pos stood]
    next reads => rw [ended, if_neg reads]
  rw [State.freeze_of_plays c plays]
  have chan (n : ChanId) : (s.quietBlocks.enterFrozen c).chan n = s.quietBlocks.chan n := by simp [State.chan]
  have same : (s.quietBlocks.enterFrozen c).mem = s.quietBlocks.mem := by simp
  exact {
    frame := by apply State.eq_of_fields <;> simp [fq]
    perf := by simp [State.enterFrozen]
    scu := by simp
    reader := by simpa using reads
    strike n := by rw [chan]; exact (chans n).strike
    hold n := by rw [chan]; exact (chans n).hold
    unused n := by rw [chan]; exact (chans n).unused
    counts n := by rw [chan]; exact (chans n).counts
    rotor := by simpa using rot
    regs := ⟨by simp, by simp, by simp, State.flag_setFlag _ _⟩
    mem a out := by
      rw [same]
      refine writes.mem a (fun h => out <| by
        rcases h with h | h | h | h
        · exact .inl h
        · exact .inr (.inl h)
        · exact .inr (.inr (.inl h))
        · exact .inr (.inr (.inr (.inr (.inr (.inl h))))))
        fun h => out (.inr (.inr (.inr (.inl h)))) }

/-! ### What a freeze writes -/

theorem State.read_rotorResolve (s : State) (o : CueOutcome) {a : Nat} (out : ¬rotorResultArea s a) :
    Memory.read (s.rotorResolve o).mem a = Memory.read s.mem a := by
  unfold State.rotorResolve
  split
  next l owed => exact State.read_writeResult (by simp [rotorResult]) fun h => out ⟨l, owed, h⟩
  next => rfl

/-- Where nothing plays, a freeze writes the rotor's result alone. -/
theorem State.freeze_mem_of_not_plays (still : ¬s.perf.state.plays) :
    (s.freeze c).mem = (s.rotorResolve .quieted).mem ∨ (s.freeze c).mem = s.mem := by
  rcases s.perf.state.plays_rests_or_frozen with h | h | h
  · exact absurd h still
  · rw [State.freeze_of_rests c h, State.freezeResting_eq]
    exact .inl rfl
  · rw [State.freeze_of_frozen c h]
    exact .inr rfl

theorem State.read_freeze_of_not_plays (still : ¬s.perf.state.plays) {a : Nat} (out : ¬rotorResultArea s a) :
    Memory.read (s.freeze c).mem a = Memory.read s.mem a := by
  rcases State.freeze_mem_of_not_plays c still with h | h <;> rw [h]
  exact s.read_rotorResolve _ out

theorem State.wf_freeze (wf : Memory.wf s.mem = true) : Memory.wf (s.freeze c).mem = true := by
  by_cases plays : s.perf.state.plays
  · rw [State.freeze_of_plays c plays, (State.enterFrozen_keeps _ c).1]
    exact s.writesOnly_quietBlocks.wf wf
  · rcases State.freeze_mem_of_not_plays c plays with h | h <;> rw [h]
    · exact (s.rotorResolve_writesOnly _).wf wf
    · exact wf

/-- The results a freeze writes and the passes it counts lie in block space (R158). -/
theorem State.quietResults_high (refs : s.refsInBlocks) {a : Nat} (h : s.quietResults a ∨ passCount s a) : 0x1000 ≤ a := by
  have area {l : CueLoc} (placed : l.inBlock) (ha : resultArea l a) : 0x1000 ≤ a := by
    have bounds := CueLoc.inBlock.bounds placed
    simp only [resultArea] at ha
    omega
  rcases h with (⟨e, he, x, hx, ha⟩ | ⟨e, he, ha⟩ | ⟨l, hl, ha⟩ | ⟨n, ⟨k, hk, ha⟩ | ⟨g, x, hg, hx, ha⟩⟩) | ⟨p, hp, ha⟩
  · exact area (refs.queue e he x hx) ha
  · exact area (refs.agenda e he) ha
  · exact area (refs.rotor l hl) ha
  · exact area (refs.stroke n k hk) ha
  · exact area (refs.engage n g hg x hx) ha
  · obtain ⟨-, low, -⟩ := (validBlockAddr_iff _).1 (refs.passes p hp)
    omega

/-- A freeze leaves cue memory below block space. -/
theorem State.read_freeze_low (placed : ∀ l, s.rot.owed = some l → l.inBlock) (refs : ¬s.perf.state.plays ∨ s.refsInBlocks)
    {a : Nat} (low : a < 0x1000) : Memory.read (s.freeze c).mem a = Memory.read s.mem a := by
  by_cases plays : s.perf.state.plays
  · have refs := refs.resolve_left (not_not_intro plays)
    have high := State.quietResults_high refs (a := a)
    rw [State.freeze_of_plays c plays, (State.enterFrozen_keeps _ c).1]
    exact s.writesOnly_quietBlocks.mem a (fun h => by have := high (.inl h); omega) fun h => by have := high (.inr h); omega
  · refine State.read_freeze_of_not_plays c plays fun ⟨l, owed, ha⟩ => ?_
    have bounds := CueLoc.inBlock.bounds (placed l owed)
    simp only [resultArea] at ha
    omega

end

/-! ### The two events -/

/-- The sample itself, registers and what is published may follow a freeze. -/
theorem frozenFrom.followed {s u t : State} {x : Siu} {c : EndCause} (h : frozenFrom (s.setSiu x) u c)
    (same : t = { u with mem := t.mem, regs := t.regs })
    (regs : t.regs.code = u.regs.code ∧ t.regs.outcome = u.regs.outcome ∧ t.regs.enable = u.regs.enable)
    (flag : t.flag .frozen = true)
    (mem : ∀ a, ¬published a → ¬(c = .driveFault ∧ faultBytes a) → Memory.read t.mem a = Memory.read u.mem a) :
    frozenFrom s t c := by
  have chan (n : ChanId) : t.chan n = u.chan n := by rw [same]; rfl
  obtain ⟨code, outcome, enable⟩ := regs
  obtain ⟨code', outcome', enable', -⟩ := h.regs
  exact {
    frame := by rw [same, h.frame]; rfl
    perf := by rw [same]; exact h.perf
    scu := by rw [same]; exact h.scu
    reader := by rw [same]; exact h.reader
    strike := fun n => by rw [chan]; exact h.strike n
    hold := fun n => by rw [chan]; exact h.hold n
    unused := fun n => by rw [chan]; exact h.unused n
    counts := fun n => by rw [chan]; exact h.counts n
    rotor := by rw [same]; exact h.rotor
    regs := ⟨code.trans code', outcome.trans outcome', enable.trans enable', flag⟩
    mem := fun a out => (mem a (fun h => out (.inr (.inr (.inr (.inr (.inl h))))))
      fun h => out (.inr (.inr (.inr (.inr (.inr (.inr h))))))).trans (h.mem a out) }

theorem exec_quietRequest {s : State} {d : DevTime} (hn : s.nrstLow = false) (qualifies : s.siu.quiet = .qualifying d)
    (held : reached s.scu.dt (d + 50000) = true) :
    exec .quietRequest s = .next (publish s ((s.setSiu { s.siu with quiet := .taken }).freeze .quiet)) :=
  onEvent_due State.takeQuiet hn (by simpa [quietRequestDue, qualifies] using held)

theorem exec_dfltAssertion {s : State} (hn : s.nrstLow = false) (unseen : s.siu.dfltSeen = false) :
    exec .dfltAssertion s = .next (publish s
      (((s.setSiu { s.siu with dflt := true, dfltSeen := true }).freeze .driveFault).handFault driveFaultInfo)) := by
  have taken : s.takeDflt =
      ((s.setSiu { s.siu with dflt := true, dfltSeen := true }).freeze .driveFault).handFault driveFaultInfo := by
    simp [State.takeDflt, unseen]
  rw [← taken]
  exact if_neg (by simp [hn])

section
variable {s : State} {x : Siu}

theorem frozenFrom.frozenFlag {t : State} {c : EndCause} (h : frozenFrom s t c) : t.flag .frozen = true := h.regs.2.2.2

/-- The freeze at a quiet request, published. -/
theorem frozenFrom_publish (plays : s.perf.state.plays) : frozenFrom s (publish s ((s.setSiu x).freeze .quiet)) .quiet := by
  have frozen := State.freeze_frozenFrom (s := s.setSiu x) .quiet plays
  refine frozen.followed (by rw [publish_eq]) (by simp) ?_ fun a out _ => read_publish s _ out
  exact State.flag_of_regs (by simp) frozen.frozenFlag

/-- The freeze at a DFLT assertion, its fault handed over and published. -/
theorem frozenFrom_publish_handFault (plays : s.perf.state.plays) :
    frozenFrom s (publish s (((s.setSiu x).freeze .driveFault).handFault driveFaultInfo)) .driveFault := by
  have frozen := State.freeze_frozenFrom (s := s.setSiu x) .driveFault plays
  have flag := State.flag_handFault_of driveFaultInfo frozen.frozenFlag
  refine frozen.followed ?_ (by simp) (State.flag_of_regs (by simp) flag) fun a out record => ?_
  · rw [publish_eq]
    apply State.eq_of_fields <;> simp
  · rw [read_publish s _ out, State.read_handFault _ _ fun h => record ⟨rfl, h⟩]

/-- The sample is none of the rotor's business. -/
theorem State.rotorResolve_setSiu (o : CueOutcome) : (s.setSiu x).rotorResolve o = (s.rotorResolve o).setSiu x := by
  unfold State.rotorResolve
  cases owed : s.rot.owed
  · simp [owed]
  · simp [owed]
    rfl

/-- A freeze where nothing plays, with the sample that led to it. -/
theorem State.freeze_setSiu_of_rests (c : EndCause)
    (rests : s.perf.state = .idle ∨ s.perf.state = .loading ∨ s.perf.state = .ended) :
    (s.setSiu x).freeze c = { s.rotorResolve .quieted with
      siu := x, rot := s.rot.quieted
      perf := { s.perf with state := .frozen, endCause := c, prior := none, staged := [] }
      regs := s.regs.withFlag .frozen } := by
  rw [State.freeze_of_rests (s := s.setSiu x) c rests, State.freezeResting_eq, State.rotorResolve_setSiu]
  rfl
end

/-- Settles O48: the freeze by what the performance was doing, and the fault record that DFLT leaves. -/
theorem aQuietRequestOrDfltFreezesThePerformance : Obligations.AQuietRequestOrDfltFreezesThePerformance := by
  unfold Obligations.AQuietRequestOrDfltFreezesThePerformance
  refine ⟨fun s d hn qualifies held => ?_, fun s hn unseen wf placed => ?_⟩
  · have answer := exec_quietRequest hn qualifies held
    generalize { s.siu with quiet := .taken } = x at answer ⊢
    have siu : (publish s ((s.setSiu x).freeze .quiet)).siu = x := by simp
    refine ⟨_, answer, siu, fun plays => frozenFrom_publish plays, fun rests => ?_, fun frozen => ?_⟩
    · rw [siu, State.freeze_setSiu_of_rests _ rests]
      exact publishes_publish s _
    · rw [siu, State.freeze_of_frozen (s := s.setSiu x) _ frozen, publish_setSiu]
      rfl
  · have answer := exec_dfltAssertion hn unseen
    generalize { s.siu with dflt := true, dfltSeen := true } = x at answer ⊢
    have siu : (publish s (((s.setSiu x).freeze .driveFault).handFault driveFaultInfo)).siu = x := by simp
    have flag := State.flag_handFault ((s.setSiu x).freeze .driveFault) driveFaultInfo
    have wf' := State.wf_freeze (s := s.setSiu x) .driveFault wf
    have low {a : Nat} (refs : ¬s.perf.state.plays ∨ s.refsInBlocks) (h : a < 0x1000) :
        Memory.read ((s.setSiu x).freeze .driveFault).mem a = Memory.read s.mem a :=
      State.read_freeze_low (s := s.setSiu x) .driveFault placed (refs.imp_right fun r => r.same (by simp)) h
    refine ⟨_, answer, siu, State.flag_of_regs (by simp) flag, fun plays => frozenFrom_publish_handFault plays,
      fun rests => ?_, fun frozen => ?_, fun still a out => ?_, fun refs empty => ?_, fun refs held => ?_⟩
    · rw [siu, State.freeze_setSiu_of_rests _ rests]
      apply State.eq_of_fields <;> simp [State.handFault_regs]
    · rw [siu, State.freeze_of_frozen (s := s.setSiu x) _ frozen]
      apply State.eq_of_fields <;> simp [State.handFault_regs]
    · rw [read_publish _ _ fun h => out (.inl h), State.read_handFault _ _ fun h => out (.inr (.inl h))]
      exact State.read_freeze_of_not_plays (s := s.setSiu x) _ still fun h => out (.inr (.inr h))
    · rw [← low refs (by omega)] at empty
      obtain ⟨kinds, place, time⟩ := State.readBytes_handFault driveFaultInfo wf' empty
      rw [readBytes_publish_fault _ _ (by omega) (by omega), readBytes_publish_fault _ _ (by omega) (by omega),
        readBytes_publish_fault _ _ (by omega) (by omega)]
      exact ⟨kinds, place, time.trans (by simp)⟩
    · rw [← low refs (by omega)] at held
      obtain ⟨overlap, rest⟩ := State.handFault_held driveFaultInfo wf' held
      refine ⟨(read_publish _ _ (by simp [published])).trans overlap, fun a fault other => ?_⟩
      obtain ⟨above, below⟩ := fault
      rw [read_publish _ _ (by simp only [published]; omega), rest a other, low refs (by omega)]

end Sys2Proof.Machine

/-! PROOFS. The host's commits: which bytes of cue memory a MEM_WRITE leaves, which it puts, and the fault record it frees. -/
namespace Sys2Proof.Machine
open Sys2Proof

theorem partOwned_iff (a : Nat) : partOwned a = true ↔ statusArea a := by
  simp only [partOwned, statusArea, Bool.or_eq_true, Bool.and_eq_true, decide_eq_true_eq]
  omega

/-- The address of byte `k + 1` of a transaction is that of byte `k` from the next address (R170). -/
theorem nextAddr_toNat (a : Addr) (k : Nat) : ((a + 1).toNat + k) % 65536 = (a.toNat + (k + 1)) % 65536 := by
  rw [BitVec.toNat_add, show (1 : Addr).toNat = 1 from rfl]
  omega

/-! ### One byte -/

section
variable {m : Memory} {a x : Nat} {v : Byte}

/-- A byte for the fault record's state byte frees the record or does nothing (R167). -/
theorem commitByte_fault : commitByte m 0x70 v = if v = 0 then freeFaultRecord m else m := if_pos rfl

theorem commitByte_owned (other : a ≠ faultStateAddr) (owned : statusArea a) : commitByte m a v = m := by
  rw [commitByte, if_neg other, if_pos ((partOwned_iff a).2 owned)]

theorem commitByte_free (free : ¬statusArea a) : commitByte m a v = Memory.write m a v := by
  have other : a ≠ faultStateAddr := fun e => free (by rw [e]; decide)
  rw [commitByte, if_neg other, if_neg fun owned => free ((partOwned_iff a).1 owned)]

/-- A commit leaves the part-owned bytes, those of the fault record's state apart, and every byte it is not for. -/
theorem read_commitByte_kept (record : x ≠ 0x70 ∧ x ≠ 0x71) (kept : statusArea x ∨ a ≠ x) :
    Memory.read (commitByte m a v) x = Memory.read m x := by
  obtain ⟨state, overlap⟩ := record
  by_cases fault : a = 0x70
  · rw [fault, commitByte_fault]
    split
    · rw [freeFaultRecord, Memory.read_write_ne _ _ overlap.symm, Memory.read_write_ne _ _ state.symm]
    · rfl
  · by_cases owned : statusArea a
    · rw [commitByte_owned fault owned]
    · have apart : a ≠ x := kept.elim (fun area e => owned (e ▸ area)) id
      rw [commitByte_free owned, Memory.read_write_ne _ _ apart]

/-- The two bytes that 0x00 for the state byte clears are cleared (R167). -/
theorem read_freeFaultRecord (wf : Memory.wf m = true) :
    Memory.read (freeFaultRecord m) 0x70 = 0 ∧ Memory.read (freeFaultRecord m) 0x71 = 0 := by
  have wf' := Memory.wf_write 0 (a := 0x70) (by omega) wf
  exact ⟨(Memory.read_write_ne _ _ (by omega)).trans (Memory.read_write_same 0 wf), Memory.read_write_same 0 wf'⟩

/-- Any other byte leaves the two. -/
theorem read_commitByte_record (other : ¬(a = 0x70 ∧ v = 0)) :
    Memory.read (commitByte m a v) 0x70 = Memory.read m 0x70 ∧ Memory.read (commitByte m a v) 0x71 = Memory.read m 0x71 := by
  by_cases fault : a = 0x70
  · rw [fault, commitByte_fault, if_neg fun zero => other ⟨fault, zero⟩]
    exact ⟨rfl, rfl⟩
  · by_cases owned : statusArea a
    · rw [commitByte_owned fault owned]
      exact ⟨rfl, rfl⟩
    · rw [commitByte_free owned]
      exact ⟨Memory.read_write_ne _ _ (by omega), Memory.read_write_ne _ _ (by omega)⟩
end

/-! ### A whole MEM_WRITE -/

/-- A MEM_WRITE has 0x00 among its bytes for the fault record's state byte (R167). -/
def hostFrees (a : Addr) : List Byte → Prop
  | [] => False
  | v :: vs => (a.toNat = 0x70 ∧ v = 0) ∨ hostFrees (a + 1) vs

theorem hostFrees_iff (a : Addr) (data : List Byte) :
    hostFrees a data ↔ ∃ k, ∃ h : k < data.length, (a.toNat + k) % 65536 = 0x70 ∧ data[k] = 0 := by
  induction data generalizing a with
  | nil => simp [hostFrees]
  | cons v vs ih =>
    simp only [hostFrees, ih, nextAddr_toNat]
    constructor
    · rintro (⟨place, zero⟩ | ⟨k, hk, rest⟩)
      · exact ⟨0, Nat.succ_pos _, by omega, zero⟩
      · exact ⟨k + 1, Nat.succ_lt_succ hk, rest⟩
    · rintro ⟨k, hk, place, zero⟩
      cases k with
      | zero => exact .inl ⟨by have := a.isLt; omega, zero⟩
      | succ k => exact .inr ⟨k, Nat.lt_of_succ_lt_succ hk, place, zero⟩

section
variable {m : Memory} {a : Addr} {x : Nat} {data : List Byte}

theorem read_commitBytes_kept (record : x ≠ 0x70 ∧ x ≠ 0x71)
    (kept : statusArea x ∨ ∀ k < data.length, (a.toNat + k) % 65536 ≠ x) :
    Memory.read (commitBytes m a data) x = Memory.read m x := by
  induction data generalizing m a with
  | nil => rfl
  | cons v vs ih =>
    refine (ih (kept.imp_right fun apart k hk => ?_)).trans (read_commitByte_kept record (kept.imp_right fun apart => ?_))
    · rw [nextAddr_toNat]
      exact apart (k + 1) (Nat.succ_lt_succ hk)
    · have first := apart 0 (Nat.succ_pos _)
      have := a.isLt
      omega

/-- The last byte for an address of the host's stands there (R170, R172). -/
theorem read_commitBytes_last (wf : Memory.wf m = true) {k : Nat} (hk : k < data.length)
    (free : ¬statusArea ((a.toNat + k) % 65536))
    (last : ∀ j < data.length, k < j → (a.toNat + j) % 65536 ≠ (a.toNat + k) % 65536) :
    Memory.read (commitBytes m a data) ((a.toNat + k) % 65536) = data[k] := by
  induction data generalizing m a k with
  | nil => cases hk
  | cons v vs ih =>
    have wf' := wf_commitByte a.toNat v a.isLt wf
    cases k with
    | zero =>
      have place : (a.toNat + 0) % 65536 = a.toNat := by have := a.isLt; omega
      rw [place] at free last ⊢
      refine (read_commitBytes_kept (m := commitByte m a.toNat v) (a := a + 1) (data := vs) ?_ (.inr fun j hj => ?_)).trans ?_
      · exact ⟨fun e => free (by omega), fun e => free (by omega)⟩
      · rw [nextAddr_toNat]
        exact last (j + 1) (Nat.succ_lt_succ hj) (Nat.succ_pos j)
      · rw [commitByte_free free]
        exact Memory.read_write_same v wf
    | succ k =>
      have same := ih (m := commitByte m a.toNat v) (a := a + 1) (k := k) wf' (Nat.lt_of_succ_lt_succ hk)
      simp only [nextAddr_toNat] at same
      exact same free fun j hj later => last (j + 1) (Nat.succ_lt_succ hj) (Nat.succ_lt_succ later)

/-- Without 0x00 for its state byte the fault record keeps state and overlap. -/
theorem read_commitBytes_record (none_ : ¬hostFrees a data) :
    Memory.read (commitBytes m a data) 0x70 = Memory.read m 0x70 ∧
      Memory.read (commitBytes m a data) 0x71 = Memory.read m 0x71 := by
  induction data generalizing m a with
  | nil => exact ⟨rfl, rfl⟩
  | cons v vs ih =>
    obtain ⟨head, tail⟩ := not_or.1 none_
    obtain ⟨state, overlap⟩ := ih (m := commitByte m a.toNat v) tail
    obtain ⟨state', overlap'⟩ := read_commitByte_record (m := m) head
    exact ⟨state.trans state', overlap.trans overlap'⟩

/-- With 0x00 for its state byte, once, the fault record is EMPTY, overlap clear, and stays so (R167). -/
theorem read_commitBytes_freed (wf : Memory.wf m = true)
    (freed : hostFrees a data ∨ Memory.read m 0x70 = 0 ∧ Memory.read m 0x71 = 0) :
    Memory.read (commitBytes m a data) 0x70 = 0 ∧ Memory.read (commitBytes m a data) 0x71 = 0 := by
  induction data generalizing m a with
  | nil => exact freed.resolve_left id
  | cons v vs ih =>
    refine ih (wf_commitByte a.toNat v a.isLt wf) ?_
    by_cases head : a.toNat = 0x70 ∧ v = 0
    · rw [head.1, commitByte_fault, if_pos head.2]
      exact .inr (read_freeFaultRecord wf)
    · obtain ⟨state, overlap⟩ := read_commitByte_record (m := m) head
      rw [state, overlap]
      exact freed.imp_left fun frees => frees.resolve_left head
end

end Sys2Proof.Machine

/-! PROOFS. The bytes the part writes for itself: what each operation on the queue, the channels and the rotor leaves of cue memory. -/
namespace Sys2Proof.Machine
open Sys2Proof

/-! ### The part's own bytes -/

/-- The bytes an operation inside the part may write: completion counts and result areas in block space, the fault record, snapshot
line B and the channel report table (R158, R162 to R166). -/
def ownByte (a : Nat) : Prop :=
  partByteOfBlock a ∨ faultBytes a ∨ (0x20 ≤ a ∧ a < 0x30) ∨ (0x540 ≤ a ∧ a < 0x740)

theorem CueLoc.inBlock.ownByte {l : CueLoc} (placed : l.inBlock) {a : Nat} (area : resultArea l a) : ownByte a := by
  have bounds := CueLoc.inBlock.bounds placed
  simp only [cueAddr, resultArea] at bounds area
  obtain ⟨line, -, -⟩ := (validBlockAddr_iff _).1 placed.1
  exact .inl (by omega)

theorem ownByte_completion {b : Addr} (valid : validBlockAddr b = true) : ownByte (b.toNat + 3) := by
  obtain ⟨line, low, -⟩ := (validBlockAddr_iff _).1 valid
  exact .inl (by omega)

section
variable {s : State} (h : s.refsInBlocks) {a : Nat}
include h

theorem State.refsInBlocks.own_passCount (count : passCount s a) : ownByte a := by
  obtain ⟨p, hp, rfl⟩ := count
  exact ownByte_completion (h.passes p hp)

theorem State.refsInBlocks.own_queued (area : queuedResult s a) : ownByte a := by
  obtain ⟨e, he, c, hc, ha⟩ := area
  exact (h.queue e he c hc).ownByte ha

theorem State.refsInBlocks.own_agenda (area : agendaResult s a) : ownByte a := by
  obtain ⟨e, he, ha⟩ := area
  exact (h.agenda e he).ownByte ha

theorem State.refsInBlocks.own_rotor (area : rotorResultArea s a) : ownByte a := by
  obtain ⟨l, hl, ha⟩ := area
  exact (h.rotor l hl).ownByte ha

theorem State.refsInBlocks.own_channel {n : ChanId} (area : channelResult s n a) : ownByte a := by
  rcases area with ⟨k, hk, ha⟩ | ⟨g, c, hg, hc, ha⟩
  · exact (h.stroke n k hk).ownByte ha
  · exact (h.engage n g hg c hc).ownByte ha

theorem State.refsInBlocks.own_quiet (area : s.quietResults a) : ownByte a := by
  rcases area with ha | ha | ha | ⟨n, ha⟩
  · exact h.own_queued ha
  · exact h.own_agenda ha
  · exact h.own_rotor ha
  · exact h.own_channel ha
end

/-- From `r` the part came to `s`, its references in block space, writing bytes of its own alone, cue memory left in its canonical form. -/
structure State.writesOwn (r s : State) : Prop where
  refs : s.refsInBlocks
  mem  : sameOutside r s ownByte
  wf   : Memory.wf r.mem = true → Memory.wf s.mem = true

theorem State.writesOwn.refl {s : State} (refs : s.refsInBlocks) : s.writesOwn s := ⟨refs, fun _ _ => rfl, id⟩

/-- A strike result is 8 bytes (Table 10-6). -/
theorem State.strikeResult_length (s : State) (o : CueOutcome) (c : DropCause) (second rerouted : Bool) (fireDelay : Nat) (late : Int) (flight : Nat) :
    (s.strikeResult o c second rerouted fireDelay late flight).length = 8 := by
  simp [State.strikeResult, StrikeResult.bytes, leSigned16]

/-! ### One rule for each kind of change -/

section
variable {r s t : State} (h : r.writesOwn s)
include h

/-- An operation that leaves cue memory. -/
theorem State.writesOwn.keeps (refs : t.refsInBlocks) (mem : t.mem = s.mem) : r.writesOwn t :=
  ⟨refs, fun a out => by rw [mem]; exact h.mem a out, by rw [mem]; exact h.wf⟩

/-- An operation that leaves cue memory and every field that holds references. -/
theorem State.writesOwn.same (kept : t.passes = s.passes ∧ t.fq = s.fq ∧ t.scu.agenda = s.scu.agenda ∧
    t.chans = s.chans ∧ t.rot.owed = s.rot.owed ∧ t.reader = s.reader) (mem : t.mem = s.mem) : r.writesOwn t :=
  h.keeps (h.refs.same kept) mem

/-- An operation that writes results, completion counts and lines of its own. -/
theorem State.writesOwn.writes {w : Nat → Prop} (refs : t.refsInBlocks) (k : s.writesOnly t w) (own : ∀ a, w a → ownByte a) :
    r.writesOwn t where
  refs := refs
  mem a out := (k.mem a (fun hw => out (own a hw)) fun count => out (h.refs.own_passCount count)).trans (h.mem a out)
  wf := k.wf ∘ h.wf

/-- The reader goes on. -/
theorem State.writesOwn.reads (refs : t.refsInBlocks) (k : s.readingWrites t) (wf : Memory.wf s.mem = true → Memory.wf t.mem = true) :
    r.writesOwn t where
  refs := refs
  mem a out := by
    refine (k.mem a (fun reads => out ?_) fun count => out (h.refs.own_passCount count)).trans (h.mem a out)
    rcases reads with fault | ⟨low, three⟩
    · exact .inr (.inl fault)
    · exact .inl ⟨low, .inl three⟩
  wf := wf ∘ h.wf

theorem State.writesOwn.setScu {x : Scu} (agenda : ∀ e ∈ x.agenda, e.cue.loc.inBlock) : r.writesOwn (s.setScu x) :=
  h.keeps (h.refs.setScu agenda) rfl

/-- A change of the rotor that leaves the cue it owes. -/
theorem State.writesOwn.turn {x : Rotor} (same : x.owed = s.rot.owed) : r.writesOwn (s.setRot x) :=
  h.keeps (h.refs.turn same) rfl

/-- A change of a channel that leaves its stroke and its engage. -/
theorem State.writesOwn.touch (n : ChanId) {c : Channel}
    (same : c.stroke = (s.chan n).stroke ∧ c.engage = (s.chan n).engage) : r.writesOwn (s.setChan n c) :=
  h.keeps (h.refs.touch n same) rfl

theorem State.writesOwn.setChanState (n : ChanId) (x : ChanState) : r.writesOwn (s.setChanState n x) :=
  h.keeps (h.refs.setChanState n x) rfl

theorem State.writesOwn.setFlag (f : AttnFlag) : r.writesOwn (s.setFlag f) := h.keeps (h.refs.setFlag f) rfl

theorem State.writesOwn.setPerf (x : Perf) : r.writesOwn (s.setPerf x) := h.keeps (h.refs.setPerf x) rfl

theorem State.writesOwn.writeResult {l : CueLoc} (placed : l.inBlock) {b : List Byte} (short : b.length ≤ 8) :
    r.writesOwn (s.writeResult l b) :=
  h.writes (h.refs.writeResult l b) (s.writesOnly_writeResult short fun _ area => area) fun _ area => placed.ownByte area

theorem State.writesOwn.endItem (p : Nat) : r.writesOwn (s.endItem p) :=
  h.writes (h.refs.endItem p) (s.writesOnly_endItem (fun _ => False) p) fun _ => False.elim

theorem State.writesOwn.resolve {c : CueRef} (placed : c.loc.inBlock) {b : List Byte} (short : b.length ≤ 8) :
    r.writesOwn (s.resolve c b) :=
  (h.writeResult placed short).endItem c.pass

theorem State.writesOwn.resolve? {c : Option CueRef} (placed : ∀ x ∈ c, x.loc.inBlock) {b : List Byte} (short : b.length ≤ 8) :
    r.writesOwn (s.resolve? c b) := by
  cases c with
  | none => exact h
  | some c => exact h.resolve (placed c rfl) short

/-- Something done for every channel. -/
theorem State.writesOwn.forChans {f : ChanId → State → State} (each : ∀ n u, r.writesOwn u → r.writesOwn (f n u)) :
    r.writesOwn (s.forChans f) :=
  List.foldlRecOn (motive := r.writesOwn) _ _ h fun u hu n _ => each n u hu

/-! ### The rotor -/

theorem State.writesOwn.rotorResolve (o : CueOutcome) : r.writesOwn (s.rotorResolve o) :=
  h.writes (h.refs.rotorResolve o) (s.rotorResolve_writesOnly o) fun _ => h.refs.own_rotor

theorem State.writesOwn.rotorRest (x : RotorState) : r.writesOwn (s.rotorRest x) := h.keeps (h.refs.rotorRest x) rfl

theorem State.writesOwn.rotorTest : r.writesOwn s.rotorTest := by
  unfold State.rotorTest
  split
  · split
    · exact h.rotorResolve _
    · exact h
  · split
    · exact h.rotorResolve _
    · exact h
  · split
    · exact (h.rotorRest _).rotorResolve _
    · exact h
  · exact h.keeps h.refs.rotorArm (by simp)
  · exact h

theorem State.writesOwn.rotorPark : r.writesOwn s.rotorPark :=
  h.writes h.refs.rotorPark s.rotorPark_writesOnly fun _ => h.refs.own_rotor

theorem State.writesOwn.rotorStop : r.writesOwn s.rotorStop :=
  h.writes h.refs.rotorStop s.rotorStop_writesOnly fun _ => h.refs.own_rotor

theorem State.writesOwn.rotorBrown : r.writesOwn s.rotorBrown :=
  h.writes h.refs.rotorBrown s.writesOnly_rotorBrown fun _ => h.refs.own_rotor

theorem State.writesOwn.rotorQuiet : r.writesOwn s.rotorQuiet :=
  h.writes h.refs.rotorQuiet s.writesOnly_rotorQuiet fun _ => h.refs.own_rotor

theorem State.writesOwn.rotorCommand {l : CueLoc} (placed : l.inBlock) (cmd : RotorCmd) :
    r.writesOwn (s.rotorCommand l cmd) := by
  have superseded := h.rotorResolve .superseded
  have own : ∀ x ∈ some l, x.inBlock := by simpa using placed
  have taken : r.writesOwn ((s.rotorResolve .superseded).setRot
      { (s.rotorResolve .superseded).rot with owed := some l, cmd := some cmd, search := none }) :=
    superseded.keeps (superseded.refs.setRot own) rfl
  cases cmd with
  | fixed x => simp only [State.rotorCommand]; exact (taken.turn (by simp)).rotorTest
  | beat b => simp only [State.rotorCommand]; exact (taken.turn (by simp)).rotorTest
  | off =>
    simp only [State.rotorCommand]
    split
    · exact (taken.rotorRest _).rotorResolve _
    · exact (taken.rotorRest _).rotorResolve _
    · exact (taken.rotorRest _).rotorResolve _
    · exact (taken.turn (by simp)).rotorTest
    · exact (taken.turn (by simp)).rotorTest
  | park =>
    simp only [State.rotorCommand]
    split
    · exact taken.rotorResolve _
    all_goals exact taken.rotorPark

theorem State.writesOwn.rotorStepAt (d : DevTime) : r.writesOwn (s.rotorStepAt d) := by
  simp only [State.rotorStepAt]
  generalize (if s.global.reverse = true then s.rot.phase - 1 else s.rot.phase + 1) = phase
  generalize (if s.rot.rate = 0 then none else some (d + BitVec.ofNat 32 (1000000 / s.rot.rate))) = next
  split
  · split
    · exact (((h.turn (by simp)).rotorRest _).rotorResolve _).setFlag _
    · exact h.turn (by simp)
  · exact h.turn (by simp)

theorem State.writesOwn.rotorAccelerate : r.writesOwn s.rotorAccelerate := by
  unfold State.rotorAccelerate
  split
  · split
    · exact h.rotorTest
    · refine State.writesOwn.rotorTest ?_
      simp only [State.rotorSetRate]
      split
      · exact (h.turn (by simp)).rotorStepAt _
      · split
        · exact (h.turn (by simp)).turn (by simp)
        · exact h.turn (by simp)
  · exact h

theorem State.writesOwn.rotorStepTaken : r.writesOwn s.rotorStepTaken := by
  unfold State.rotorStepTaken
  split
  · exact h.rotorStepAt _
  · exact h

theorem State.writesOwn.rotorHome : r.writesOwn s.rotorHome := by
  unfold State.rotorHome
  split
  · exact (h.rotorRest _).rotorResolve _
  · exact h

/-! ### The fire queue -/

theorem State.writesOwn.fqJoin {w : Work} (placed : w.placed) (onset fire : Int) : r.writesOwn (s.fqJoin w onset fire) :=
  h.keeps (h.refs.fqJoin placed onset fire) (by simp)

theorem State.writesOwn.fqResolve {e : FqEntry} (placed : e.work.placed) (o : CueOutcome) (c : DropCause) (b : Bool) :
    r.writesOwn (s.fqResolve e o c b) :=
  h.writes (w := ownByte) (h.refs.fqResolve e o c b) (s.writesOnly_fqResolve o c b fun x hx _ => (placed x hx).ownByte)
    fun _ => id

theorem State.writesOwn.grantTest : r.writesOwn s.grantTest :=
  h.writes h.refs.grantTest s.grantsInto_grantTest.writes fun _ area =>
    area.elim h.refs.own_queued fun table => .inr (.inr (.inr table))

theorem State.writesOwn.freeSlot : r.writesOwn s.freeSlot := State.writesOwn.grantTest (h.same (by simp) rfl)

theorem State.writesOwn.skewExpiry : r.writesOwn s.skewExpiry := by
  unfold State.skewExpiry
  split
  next e he => exact h.fqResolve (h.refs.queue e (List.mem_of_find?_eq_some he)) _ _ _
  next => exact h

theorem State.writesOwn.dropWaiting : r.writesOwn s.dropWaiting :=
  h.writes h.refs.dropWaiting s.writesOnly_dropWaiting fun _ => h.refs.own_queued

theorem State.writesOwn.enterWait (e : FqEntry) : r.writesOwn (s.enterWait e) := by
  have waits := State.writesOwn.grantTest (h.keeps (h.refs.mapFq
    (f := fun x => if x.seq == e.seq then { x with wait := some s.scu.dt } else x) fun x => by split <;> rfl) rfl)
  simp only [State.enterWait]
  split
  · split
    next still => exact waits.fqResolve (waits.refs.queue _ (State.mem_of_fqFind still)) _ _ _
    next => exact waits
  · exact waits

theorem State.writesOwn.countMiss (n : ChanId) : r.writesOwn (s.countMiss n) := h.keeps (h.refs.countMiss n) (by simp)

theorem State.writesOwn.cancelQueue : r.writesOwn s.cancelQueue :=
  h.writes h.refs.cancelQueue s.writesOnly_cancelQueue fun _ => h.refs.own_queued

/-! ### Striker channels -/

theorem State.writesOwn.addHeat (n : ChanId) (d : Nat) : r.writesOwn (s.addHeat n d) :=
  h.keeps (h.refs.addHeat n d) (by simp)

theorem State.writesOwn.strokeLeaves (n : ChanId) : r.writesOwn (s.strokeLeaves n) := by
  unfold State.strokeLeaves
  split
  · exact State.writesOwn.endItem (h.keeps (h.refs.setChan n (c := { s.chan n with stroke := none }) strokePlaced_none
      (h.refs.engage n)) rfl) _
  · exact h

theorem State.writesOwn.recoveryDone (n : ChanId) : r.writesOwn (s.recoveryDone n) := by
  have left := h.strokeLeaves n
  simp only [State.recoveryDone]
  split
  · exact (left.setChanState n _).setFlag _
  · split
    · exact (left.setChanState n _).setFlag _
    · exact (left.setChanState n _).grantTest

theorem State.writesOwn.enterRecover (n : ChanId) (d : DevTime) : r.writesOwn (s.enterRecover n d) := by
  simp only [State.enterRecover]
  split
  · exact State.writesOwn.recoveryDone (h.touch n (by simp)) n
  · exact h.touch n (by simp)

/-- A channel's stroke changed, its cue kept. -/
theorem State.writesOwn.setStroke {n : ChanId} {k : Stroke} (held : (s.chan n).stroke = some k) {c : Channel}
    (same : c.stroke.map Stroke.cue = some k.cue ∧ c.engage = (s.chan n).engage) : r.writesOwn (s.setChan n c) :=
  h.keeps (h.refs.setStroke held same) rfl

theorem State.writesOwn.afterPulse (n : ChanId) : r.writesOwn (s.afterPulse n) := by
  unfold State.afterPulse
  split
  · exact h.setChanState n _
  next k hk =>
    split
    · refine State.writesOwn.enterRecover (State.writesOwn.writeResult ?_ (h.refs.stroke n k hk)
        (State.strikeResult_length ..).le) n _
      exact h.setStroke hk (by exact ⟨rfl, rfl⟩)
    · split
      · exact h.enterRecover n _
      · split
        · exact h.enterRecover n _
        · exact h.setChanState n _

theorem State.writesOwn.pulseOff (n : ChanId) (d : DevTime) : r.writesOwn (s.pulseOff n d) := by
  unfold State.pulseOff
  split
  next k hk => exact (State.writesOwn.freeSlot (h.setStroke hk (by exact ⟨rfl, rfl⟩))).addHeat n _
  next => exact h.freeSlot

theorem State.writesOwn.truncatePulse (n : ChanId) : r.writesOwn (s.truncatePulse n) := by
  unfold State.truncatePulse
  split
  · exact (h.pulseOff n _).afterPulse n
  · exact h

theorem State.writesOwn.hit {n : ChanId} {k : Stroke} (held : (s.chan n).stroke = some k) (raw : DevTime) :
    r.writesOwn (s.hit n k raw) := by
  have recorded : r.writesOwn (s.recordHit n k raw) :=
    State.writesOwn.writeResult (h.setStroke held (by exact ⟨rfl, rfl⟩)) (h.refs.stroke n k held) (State.strikeResult_length ..).le
  simp only [State.hit]
  split
  · split
    · exact (recorded.pulseOff n _).enterRecover n _
    · exact recorded
  · exact recorded.enterRecover n _
  all_goals exact recorded

theorem State.writesOwn.contact (n : ChanId) (raw : DevTime) : r.writesOwn (s.contact n raw) := by
  unfold State.contact
  split
  · split
    next k hk => exact h.hit (State.stroke_of_hitBy hk) raw
    next => exact h.touch n (by simp)
  · exact h

theorem State.writesOwn.synthesise (n : ChanId) : r.writesOwn (s.synthesise n) := by
  unfold State.synthesise
  split
  next k hk => exact h.hit (State.stroke_of_toSynthesise hk) _
  next => exact h

theorem State.writesOwn.decideMiss {n : ChanId} {k : Stroke} (held : (s.chan n).stroke = some k) :
    r.writesOwn (s.decideMiss n k) := by
  have marked : r.writesOwn (s.markResolved n k) := h.setStroke held (by exact ⟨rfl, rfl⟩)
  have placed : k.cue.loc.inBlock := h.refs.stroke n k held
  simp only [State.decideMiss]
  split
  · exact marked.fqJoin (fun c hc => by obtain rfl := Option.mem_some_iff.1 hc; exact placed) _ _
  · exact (marked.writeResult placed (State.strikeResult_length ..).le).countMiss n

theorem State.writesOwn.settle (n : ChanId) : r.writesOwn (s.settle n) := by
  unfold State.settle
  split
  next k hk =>
    have decided := h.decideMiss (State.stroke_of_toSettle hk)
    simp only
    split
    · exact decided.enterRecover n _
    · exact decided
  next => exact h

/-! ### Hold channels -/

theorem State.writesOwn.placeStanding (n : ChanId) : r.writesOwn (s.placeStanding n) :=
  h.keeps (h.refs.placeStanding n) (by simp [State.placeStanding])

theorem State.writesOwn.requestReengage (n : ChanId) : r.writesOwn (s.requestReengage n) :=
  h.keeps (h.refs.requestReengage n) (by simp)

theorem State.writesOwn.reengageAfterBrown (n : ChanId) : r.writesOwn (State.reengageAfterBrown n s) :=
  h.keeps (h.refs.reengageAfterBrown n) (by simp)

theorem State.writesOwn.engageOver (n : ChanId) (d : DevTime) (o : CueOutcome) (c : DropCause) :
    r.writesOwn (s.engageOver n d o c) := by
  unfold State.engageOver
  split
  next g hg =>
    have heated := h.freeSlot.addHeat n (g.driven d)
    have ended := heated.keeps (heated.refs.setChan n (c := { (s.freeSlot.addHeat n (g.driven d)).chan n with engage := none })
      (heated.refs.stroke n) engagePlaced_none) rfl
    exact ended.resolve? (h.refs.engage n g hg) (by simp [holdResult])
  next => exact h.freeSlot

theorem State.writesOwn.cutEngage (n : ChanId) (o : CueOutcome) (c : DropCause) : r.writesOwn (s.cutEngage n o c) :=
  (h.engageOver n _ o c).setChanState n _

theorem State.writesOwn.engageEnds (n : ChanId) : r.writesOwn (s.engageEnds n) := by
  have ended := h.engageOver n (s.engageDue n) .engaged .none
  simp only [State.engageEnds, State.afterEngage]
  split
  · exact ended.setChanState n _
  · split
    · exact (ended.setChanState n _).setFlag _
    · exact ended.touch n (by simp)

theorem State.writesOwn.forceRelease (n : ChanId) (o : CueOutcome) (c : DropCause) : r.writesOwn (s.forceRelease n o c) := by
  unfold State.forceRelease
  split
  · exact h.cutEngage n o c
  · exact h.setChanState n _
  all_goals exact h

theorem State.writesOwn.releaseHold (n : ChanId) : r.writesOwn (s.releaseHold n) := by
  have freed : r.writesOwn (s.unwant n) := h.touch n (by simp)
  simp only [State.releaseHold]
  split
  · exact freed.setChanState n _
  · exact freed.cutEngage n _ _
  all_goals exact freed

theorem State.writesOwn.brownHold (n : ChanId) : r.writesOwn (State.brownHold n s) := by
  unfold State.brownHold
  split
  · exact h.forceRelease n _ _
  · exact h

theorem State.writesOwn.endHold (o : CueOutcome) (n : ChanId) : r.writesOwn (State.endHold o n s) := by
  unfold State.endHold
  split
  · exact State.writesOwn.forceRelease (h.touch n (by simp)) n _ _
  · exact h

theorem State.writesOwn.releaseHolds (o : CueOutcome) : r.writesOwn (s.releaseHolds o) :=
  h.forChans fun n _ hu => hu.endHold o n

theorem State.writesOwn.heatEvent (n : ChanId) : r.writesOwn (s.heatEvent n) := by
  have cooled (x : Nat) : r.writesOwn (s.setHeat n x) := h.touch n (by simp)
  unfold State.heatEvent
  split
  · simp only [State.strikeHeatEvent]
    split
    · exact ((cooled _).setChanState n _).grantTest
    · exact cooled _
  · exact h.keeps (h.refs.holdHeatEvent n) (by simp)
  · exact cooled _

/-! ### Arrivals -/

theorem State.writesOwn.arriveEngage {e : FqEntry} (placed : e.work.placed) (c : Option CueRef) (n : ChanId) :
    r.writesOwn (s.arriveEngage e c n) := by
  have wanted : r.writesOwn (if c.isSome then s.setChan n { s.chan n with holdWanted := true } else s) := by
    split
    · exact h.touch n (by simp)
    · exact h
  simp only [State.arriveEngage]
  generalize (if c.isSome then s.setChan n { s.chan n with holdWanted := true } else s) = u at wanted ⊢
  split
  · exact wanted.fqResolve placed _ _ _
  · split
    · exact wanted.fqResolve placed _ _ _
    · exact wanted.fqResolve placed _ _ _
    · exact wanted.fqResolve placed _ _ _
    all_goals exact wanted.enterWait e

theorem State.writesOwn.arriveStroke {e : FqEntry} (placed : e.work.placed) : r.writesOwn (s.arriveStroke e) := by
  unfold State.arriveStroke
  split
  · exact h.fqResolve placed _ _ _
  · exact h.enterWait e

theorem State.writesOwn.arrive {e : FqEntry} (placed : e.work.placed) : r.writesOwn (s.arrive e) := by
  have left : r.writesOwn (s.fqRemove e) := h.keeps (h.refs.fqRemove e) rfl
  unfold State.arrive
  split
  next c _ hw =>
    have own : c.loc.inBlock := placed c (by simp [hw, Work.cue])
    simp only [State.arriveMark]
    split
    · exact (left.resolve own (by simp [markResult])).setFlag _
    · exact left.resolve own (by simp [markResult])
  next c cmd hw => exact (left.rotorCommand (placed c (by simp [hw, Work.cue])) cmd).endItem _
  next c n hw => exact (left.releaseHold n).resolve (placed c (by simp [hw, Work.cue])) (by simp [holdResult])
  next => exact h.arriveEngage placed _ _
  next => exact h.arriveStroke placed
  next => exact h.arriveStroke placed

theorem State.writesOwn.arriveAll : r.writesOwn s.arriveAll := by
  unfold State.arriveAll
  split
  · refine List.foldlRecOn (motive := r.writesOwn) _ _ h fun u hu q _ => ?_
    unfold State.arriveTurn
    split
    next e he => exact hu.arrive (hu.refs.queue e (State.mem_of_fqFind he))
    next => exact hu
  · exact h
end

end Sys2Proof.Machine

/-! PROOFS. The bytes the part writes for itself: the reader, score time, the supply and the performance. -/
namespace Sys2Proof.Machine
open Sys2Proof

/-! ### Results of admission are 8 bytes (Table 10-6) -/

theorem mapResult_length (o : CueOutcome) (e : Option (MapDetail × Nat)) : (mapResult o e).length = 8 := by
  unfold mapResult
  split <;> rfl

theorem State.refusal_length (s : State) (b : CueBody) : (s.refusal b).length = 8 := by
  unfold State.refusal
  split
  · exact s.strikeResult_length ..
  all_goals rfl

section
variable {r s : State} (h : r.writesOwn s)
include h

/-! ### Reading on -/

theorem State.writesOwn.setReader {x : Reader} (reader : x.inBlock) : r.writesOwn (s.setReader x) :=
  h.keeps (h.refs.setReader reader) rfl

/-- A reader that keeps its place, and is held no more than before. -/
theorem State.writesOwn.stays {x : Reader} (place : x.pass = s.reader.pass ∧ x.block = s.reader.block ∧
    x.count = s.reader.count ∧ x.slot = s.reader.slot) (pending : ∀ c, x.pending = .cue c → s.reader.pending = .cue c)
    (held : x.state = .held → s.reader.state = .held) : r.writesOwn (s.setReader x) :=
  h.setReader (h.refs.reader.stays place pending held)

theorem State.writesOwn.chainFault (d : FaultDetail) (b : Addr) (i k : Nat) : r.writesOwn (s.chainFault d b i k) :=
  h.reads (h.refs.chainFault d b i k) (s.readingWrites_chainFault d b i k) fun wf => State.wf_chainFault wf d b i k

theorem State.writesOwn.takeEnd : r.writesOwn s.takeEnd :=
  h.reads h.refs.takeEnd s.readingWrites_takeEnd fun wf => State.wf_takeEnd wf

theorem State.writesOwn.enterLinkWait : r.writesOwn s.enterLinkWait :=
  h.reads h.refs.enterLinkWait s.readingWrites_enterLinkWait fun wf => State.wf_enterLinkWait wf

theorem State.writesOwn.readSlot {k : Nat} (inside : s.reader.pass.isSome = true) (slot : k < 15) : r.writesOwn (s.readSlot k) :=
  h.reads (h.refs.readSlot inside slot) (s.readingWrites_readSlot k) fun wf => State.wf_readSlot wf k

theorem State.writesOwn.enterBlock (a : Addr) (how : Entry) (fuel : Nat) : r.writesOwn (s.enterBlock a how fuel) :=
  h.reads (h.refs.enterBlock a how fuel) (s.readingWrites_enterBlock a how fuel) fun wf => State.wf_enterBlock wf a how fuel

theorem State.writesOwn.pollLink : r.writesOwn s.pollLink :=
  h.reads h.refs.pollLink s.readingWrites_pollLink fun wf => State.wf_pollLink wf

theorem State.writesOwn.endReading : r.writesOwn s.endReading :=
  h.writes h.refs.endReading (s.writesOnly_endReading fun _ => False) fun _ => False.elim

theorem State.writesOwn.linkTaken (fuel : Nat) : r.writesOwn (s.linkTaken fuel) := by
  unfold State.linkTaken
  split
  · exact h.takeEnd
  · exact h.enterLinkWait
  · exact h.enterBlock _ _ _
  · exact h.chainFault _ _ _ _

theorem State.writesOwn.readNext (inside : s.reader.pass.isSome = true) : r.writesOwn s.readNext := by
  unfold State.readNext
  split
  next more =>
    have few := (h.refs.reader.1 inside).2
    exact h.readSlot inside (by omega)
  next => rw [State.readLink_eq]; exact h.linkTaken _

/-! ### Admission -/

/-- A MAP cue's result stands in its own area (R50). -/
theorem State.writesOwn.resolveMap {l : CueLoc} (placed : l.inBlock) (n : ChanId) (a : Addr) (resetTrim : Bool) :
    r.writesOwn (s.resolveMap l n a resetTrim) := by
  have staged : r.writesOwn (s.stageMap a) := h.same (by simp) (by simp)
  simp only [State.resolveMap]
  split
  · exact h.writeResult placed (mapResult_length _ _).le
  split
  · refine State.writesOwn.writeResult ?_ placed (mapResult_length _ _).le
    unfold State.latchMap
    split
    · exact State.writesOwn.touch (staged.same (by simp) (by rfl)) n (by simp)
    · exact staged.same (by simp) rfl
  · exact staged.writeResult placed (mapResult_length _ _).le

section
variable {c : Cue} (pending : s.reader.pending = .cue c)
include pending

theorem State.writesOwn.takeRepeat (a : Addr) (count : Nat) : r.writesOwn (s.takeRepeat a count) := by
  have inside := (h.refs.reader.2.1 c pending).1
  have push : r.writesOwn
      (if count ≤ 1 then s.readNext
      else if 4 ≤ s.reader.stack.length then s.chainFault .loopDepthFull s.reader.block s.reader.slot 8
      else s.enterBlock a (.jump ({ cue := s.cueLoc, target := a, remaining := count - 1 } :: s.reader.stack))
        entryFuel) := by
    split
    · exact h.readNext inside
    split
    · exact h.chainFault _ _ _ _
    · exact h.enterBlock _ _ _
  simp only [State.takeRepeat]
  split
  next f fs _ =>
    split
    · split
      · exact h.enterBlock _ _ _
      · exact State.writesOwn.readNext (h.stays (by simp) (by simp) (by simp)) inside
    · exact push
  next => exact push

/-- Work that joins the queue with the pending cue, and the reader goes on. -/
theorem State.writesOwn.joinReadNext {w : Work} (placed : w.placed) (onset fire : Int) :
    r.writesOwn (s.fqJoin w onset fire).readNext :=
  (h.fqJoin placed onset fire).readNext (by simpa using (h.refs.reader.2.1 c pending).1)

theorem State.writesOwn.placeAsk (a : Ask) (onset : Int) : r.writesOwn (s.placeAsk a onset) := by
  have inside := (h.refs.reader.2.1 c pending).1
  have loc := h.refs.cueLoc pending
  have own {w : Work} (hw : w.cue = some s.cueRef) : w.placed := fun x hx => by
    obtain rfl := Option.some_inj.1 (hw.symm.trans hx)
    exact loc
  cases a with
  | strike n v r => exact h.joinReadNext pending (own rfl) _ _
  | hold n op => cases op <;> exact h.joinReadNext pending (own rfl) _ _
  | rotor cmd => exact h.joinReadNext pending (own rfl) _ _
  | mark r => exact h.joinReadNext pending (own rfl) _ _
  | agenda b =>
    have joined : r.writesOwn (s.agendaJoin b) := h.keeps (h.refs.agendaJoin pending b) rfl
    cases b with
    | tempo t n => exact joined.readNext (by simpa [State.agendaJoin] using inside)
    | holdpoint x y t d =>
      exact joined.setReader ⟨joined.refs.reader.1, nofun, fun _ => by simpa [State.agendaJoin] using inside⟩
  | map n rec r => exact (h.resolveMap loc n rec r).readNext (by simpa using inside)
  | repeatJump t k => exact h.takeRepeat pending t k

theorem State.writesOwn.takeOn (onset : Int) : r.writesOwn (s.takeOn c onset) := by
  unfold State.takeOn
  split
  · unfold State.roomAndAdmit
    split
    · exact h.placeAsk pending _ _
    · exact h.stays (by simp) (by simp) (by simp)
  · exact (h.writeResult (h.refs.cueLoc pending) (s.refusal_length _).le).readNext (by simpa using (h.refs.reader.2.1 c pending).1)
end

theorem State.writesOwn.passHorizon : r.writesOwn s.passHorizon := by
  unfold State.passHorizon
  split
  next c o hc =>
    unfold State.pendingCue at hc
    split at hc
    next c' pending =>
      obtain ⟨_, -, ho⟩ := Option.map_eq_some_iff.1 hc
      cases ho
      exact h.takeOn pending _
    all_goals cases hc
  next => exact h

theorem State.writesOwn.releaseStall : r.writesOwn s.releaseStall := by
  unfold State.releaseStall
  split
  · exact h.enterBlock _ _ _
  · exact h.passHorizon
  · exact h

/-! ### Release of a holdpoint -/

theorem State.writesOwn.releaseHeld (src : ReleaseSource) : r.writesOwn (s.releaseHeld src) := by
  unfold State.releaseHeld
  split
  next e he =>
    obtain ⟨es, agenda, -⟩ := State.holdpoint_eq_some he
    have owned : e.cue.loc.inBlock := h.refs.agenda e (by simp [agenda])
    split
    next delay _ =>
      simp only [State.releaseHoldpoint]
      have placed := h.setPerf { s.perf with state := .running }
      generalize s.setPerf { s.perf with state := .running } = u at placed ⊢
      have tail := placed.setScu (x := { u.scu with agenda := u.scu.agenda.tail, holdExpiry := none,
                                                    cond := u.placeReleased delay })
        fun e he => placed.refs.agenda e (List.mem_of_mem_tail he)
      have resolved := tail.resolve (c := e.cue) (b := holdpointResult .releasedHold src (ptMicros u.scu.pt)) owned
        (by simp [holdpointResult])
      split
      next held =>
        refine State.writesOwn.readNext (resolved.setReader ?_) (resolved.refs.reader.2.2 held)
        exact resolved.refs.reader.stays (by simp) (by simp) (by simp)
      next => exact resolved
    next => exact h
  next => exact h

theorem State.writesOwn.cueEdge : r.writesOwn s.cueEdge := by
  unfold State.cueEdge
  split
  · exact h.releaseHeld _
  · exact h

/-! ### Score time -/

/-- A change of the score that leaves the agenda. -/
theorem State.writesOwn.keepAgenda {x : Scu} (same : x.agenda = s.scu.agenda) : r.writesOwn (s.setScu x) :=
  h.keeps (h.refs.keepAgenda same) rfl

theorem State.writesOwn.tempoAtBoundary (x : Tick) {e : AgendaEntry} (placed : e.cue.loc.inBlock) (target n : Nat) :
    r.writesOwn (s.tempoAtBoundary x e target n) := by
  have short (o : CueOutcome) (period : Nat) : (tempoResult o period).length ≤ 8 := by simp [tempoResult]
  unfold State.tempoAtBoundary
  split
  · exact h.resolve placed (short _ _)
  · exact (h.keepAgenda (by simp)).resolve placed (short _ _)
  · exact (h.keepAgenda (by simp)).resolve placed (short _ _)

theorem State.writesOwn.beginTick (x : Tick) (start : Int) : r.writesOwn (s.beginTick x start) :=
  h.keeps (h.refs.beginTick x start) (by simp)

theorem State.writesOwn.agendaAt (x : Tick) (b : Int) {l : List AgendaEntry} (placed : ∀ e ∈ l, e.cue.loc.inBlock) :
    r.writesOwn (s.agendaAt x b l) := by
  induction l generalizing s with
  | nil => exact (h.setScu placed).beginTick x b
  | cons e es ih =>
    obtain ⟨own, rest⟩ := List.forall_mem_cons.1 placed
    simp only [State.agendaAt]
    split
    · split
      · exact ih (State.writesOwn.tempoAtBoundary (h.setScu rest) x own _ _) rest
      · have head := h.setScu (x := { s.scu with agenda := e :: es }) placed
        exact head.keeps (head.refs.holdAt b _) rfl
    · exact State.writesOwn.beginTick (h.setScu placed) x b

theorem State.writesOwn.boundaryAt (b : Int) : r.writesOwn (s.boundaryAt b) := by
  rw [State.boundaryAt_eq]
  have begun := h.keepAgenda (x := { s.scu with tick := s.tickAhead, tempo := s.scu.tempo.discard s.tickAhead }) rfl
  have gone := begun.agendaAt s.tickAhead b h.refs.agenda
  exact gone.keeps gone.refs.starvedTest (by simp)

theorem State.writesOwn.boundary : r.writesOwn s.boundary := by
  unfold State.boundary
  split
  · exact h.boundaryAt _
  · exact h

theorem State.writesOwn.syncEdge (d : DevTime) : r.writesOwn (s.syncEdge d) :=
  h.keeps (h.refs.syncEdge d) (by simp)

theorem State.writesOwn.agendaEnds (o : CueOutcome) : r.writesOwn (s.agendaEnds o) :=
  h.writes (h.refs.agendaEnds o) (s.writesOnly_agendaEnds o) fun _ => h.refs.own_agenda

/-! ### Supply -/

theorem State.writesOwn.takeBrown : r.writesOwn s.takeBrown := by
  have cut := h.dropWaiting.forChans fun n _ hu => hu.truncatePulse n
  have held := cut.forChans (f := State.brownHold) fun n _ hu => hu.brownHold n
  exact held.rotorBrown

theorem State.writesOwn.changeLevel (new : SupplyLevel) : r.writesOwn (s.changeLevel new) := by
  have level : r.writesOwn (s.setCsm { s.csm with level := new }) := h.same (by simp) rfl
  simp only [State.changeLevel]
  refine State.writesOwn.setFlag ?_ _
  cases new with
  | brown => exact level.takeBrown
  | normal => exact level.grantTest
  | sag =>
    simp only
    split
    · exact level.forChans fun n _ hu => hu.reengageAfterBrown n
    · exact level

theorem State.writesOwn.sampleSupply (v : Nat) : r.writesOwn (s.sampleSupply v) := by
  have read : r.writesOwn (s.setCsm { s.csm with vsense := v, reading := BitVec.ofNat 8 (vsenseReading v) }) :=
    h.same (by simp) rfl
  simp only [State.sampleSupply]
  split
  · split
    · exact read
    · exact read.changeLevel _
  · exact read

theorem State.writesOwn.writeLineB : r.writesOwn s.writeLineB where
  refs := h.refs.same (by simp)
  mem a out := by
    refine (s.read_poke_ne s.lineB ?_).trans (h.mem a out)
    rw [State.lineB_length]
    simp only [ownByte] at out
    omega
  wf hw := State.wf_poke s _ _ (h.wf hw)

theorem State.writesOwn.housekeeping (v : Nat) : r.writesOwn (s.housekeeping v) := (h.sampleSupply v).pollLink.writeLineB

/-! ### Commands of CONTROL -/

theorem State.writesOwn.enterEnded : r.writesOwn s.enterEnded := h.keeps h.refs.enterEnded rfl

theorem State.writesOwn.drainCheck : r.writesOwn s.drainCheck := by
  unfold State.drainCheck
  split
  · exact (h.releaseHolds _).enterEnded
  · exact h

theorem State.writesOwn.takeResume : r.writesOwn s.takeResume := by
  have shifted : r.writesOwn (s.shiftWaits (s.scu.dt - s.perf.pausedAt)) := h.keeps (h.refs.mapFq fun _ => rfl) rfl
  exact State.writesOwn.drainCheck (State.writesOwn.grantTest (shifted.same (by simp) rfl))

theorem State.writesOwn.stopPlaying : r.writesOwn s.stopPlaying := by
  have cancelled := h.endReading.cancelQueue
  have ended : r.writesOwn s.endReading.cancelQueue.stopAgenda := by
    simp only [State.stopAgenda]
    split
    · exact State.writesOwn.keepAgenda (cancelled.agendaEnds _) (by simp)
    · exact cancelled.agendaEnds _
  have stopped := (ended.releaseHolds .cancelled).rotorStop
  refine State.writesOwn.drainCheck ?_
  unfold State.stopState
  split
  · exact stopped.setPerf _
  · exact stopped.setPerf _

theorem State.writesOwn.takeStop : r.writesOwn s.takeStop := by
  unfold State.takeStop
  split
  · exact State.writesOwn.enterEnded (h.setPerf _)
  · exact h.stopPlaying

theorem State.writesOwn.clearFaulted (n : Byte) : r.writesOwn (s.clearFaulted n) := by
  unfold State.clearFaulted
  split
  · exact State.writesOwn.grantTest (h.touch _ (by simp))
  · exact h

/-! ### LOADING -/

theorem State.writesOwn.startReader (b : Addr) : r.writesOwn (s.startReader b) :=
  State.writesOwn.enterBlock (h.setReader (x := { s.reader with
    state := .reading, tick := 0, stack := [], pending := .none, pass := none })
    (Reader.inBlock_outside rfl nofun nofun)) b .start entryFuel

theorem State.writesOwn.handFault (i : FaultInfo) : r.writesOwn (s.handFault i) where
  refs := h.refs.same (by simp)
  mem _ out := (s.read_handFault i fun fault => out (.inr (.inl fault))).trans (h.mem _ out)
  wf hw := State.wf_handFault (h.wf hw) i

theorem State.writesOwn.loadingFails (e : ConfigError) : r.writesOwn (s.loadingFails e) :=
  (State.writesOwn.handFault (h.same (t := s.dropLoading .configError) (by simp) rfl) _).enterEnded

theorem State.writesOwn.loadingCompletes : r.writesOwn s.loadingCompletes := by
  have staged : r.writesOwn s.stageLast := h.same (by simp) (by simp)
  unfold State.loadingCompletes
  split
  · exact staged.loadingFails _
  · have latched : r.writesOwn s.stageLast.latchConfig := staged.same (by simp) (by simp)
    simp only [State.loadingSucceeds]
    have placed := latched.keeps latched.refs.placeChannels (by simp)
    have started := placed.setPerf { s.stageLast.latchConfig.placeChannels.perf with state := .running }
    exact State.writesOwn.startReader (started.keeps started.refs.startScore (by simp)) _

/-! ### The freeze -/

theorem State.writesOwn.enterFrozen (c : EndCause) : r.writesOwn (s.enterFrozen c) := h.keeps (h.refs.enterFrozen c) rfl

theorem State.writesOwn.freeze (c : EndCause) : r.writesOwn (s.freeze c) := by
  have playing : r.writesOwn (s.quietBlocks.enterFrozen c) :=
    State.writesOwn.enterFrozen (h.writes h.refs.quietBlocks s.writesOnly_quietBlocks fun _ => h.refs.own_quiet) c
  have resting : r.writesOwn (s.freezeResting c) :=
    State.writesOwn.enterFrozen (State.writesOwn.rotorQuiet (h.setPerf _)) c
  unfold State.freeze
  cases s.perf.state with
  | running | holding | paused | draining => exact playing
  | loading | idle | ended => exact resting
  | frozen => exact h

theorem State.writesOwn.takeDflt : r.writesOwn s.takeDflt := by
  unfold State.takeDflt
  split
  · exact h
  · have seen : r.writesOwn (s.setSiu { s.siu with dflt := true, dfltSeen := true }) := h.same (by simp) rfl
    exact (seen.freeze .driveFault).handFault _
end

end Sys2Proof.Machine

/-! PROOFS. What each command makes of cue memory: the identity line stands, and the part writes its own bytes. -/
namespace Sys2Proof.Machine
open Sys2Proof

/-! ### A step before it is published -/

/-- The snapshot lines and the channel reports show the same in both states. -/
structure State.showsAlike (s t : State) : Prop where
  lineA  : t.lineA = s.lineA
  lineC  : t.lineC = s.lineC
  report : ∀ n, (t.chan n).report = (s.chan n).report

theorem State.showsAlike.of_eq {s t : State} (kept : t.perf = s.perf ∧ t.csm = s.csm ∧ t.scu = s.scu ∧ t.rot = s.rot ∧
    t.reader = s.reader ∧ t.fq = s.fq ∧ t.passes = s.passes ∧ t.chans = s.chans) : s.showsAlike t := by
  obtain ⟨perf, csm, scu, rot, reader, fq, passes, chans⟩ := kept
  exact ⟨by simp only [State.lineA, perf, csm, scu, rot, reader], by simp only [State.lineC, fq, passes, scu, reader],
    fun n => by simp only [State.chan, chans]⟩

/-- Of the rotor only its state shows. -/
theorem State.showsAlike.turned {s : State} {x : Rotor} (state : x.state = s.rot.state) : s.showsAlike (s.setRot x) where
  lineA := by simp only [State.lineA, State.setRot_rot, state]; rfl
  lineC := rfl
  report _ := rfl

/-- What a step has made of `b` before its changes are published: only bytes of the part's own and those of the publication have been
written, and a snapshot line that shows what it showed stands as it is to stand. -/
structure State.readied (b x : State) : Prop where
  wf    : Memory.wf b.mem = true → Memory.wf x.mem = true
  mem   : sameOutside b x fun a => ownByte a ∨ published a
  lineA : Memory.wf b.mem = true → Memory.readBytes b.mem 0x10 16 = b.lineA → x.lineA = b.lineA → Memory.readBytes x.mem 0x10 16 = x.lineA
  lineC : Memory.wf b.mem = true → Memory.readBytes b.mem 0x30 16 = b.lineC → x.lineC = b.lineC → Memory.readBytes x.mem 0x30 16 = x.lineC

/-- The snapshot lines A and C are none of the bytes an operation writes. -/
theorem State.writesOwn.readied {b x : State} (h : b.writesOwn x) : b.readied x where
  wf := h.wf
  mem a out := h.mem a fun own => out (.inl own)
  lineA _ shown same := by
    rw [same, ← shown]
    exact Memory.readBytes_congr fun i hi => h.mem _ (by simp only [ownByte]; omega)
  lineC _ shown same := by
    rw [same, ← shown]
    exact Memory.readBytes_congr fun i hi => h.mem _ (by simp only [ownByte]; omega)

theorem State.readied.after {b u x : State} (h : u.readied x) (mem : u.mem = b.mem) (alike : b.showsAlike u) : b.readied x where
  wf := mem ▸ h.wf
  mem a out := (h.mem a out).trans (by rw [mem])
  lineA wf shown same := h.lineA (mem ▸ wf) (by rw [mem, shown, alike.lineA]) (by rw [same, alike.lineA])
  lineC wf shown same := h.lineC (mem ▸ wf) (by rw [mem, shown, alike.lineC]) (by rw [same, alike.lineC])

/-- Registers show in no snapshot line. -/
theorem State.readied.setRegs {b x : State} (h : b.readied x) (r : Regs) : b.readied (x.setRegs r) := ⟨h.wf, h.mem, h.lineA, h.lineC⟩

/-- The three snapshot lines written read as they are to stand. -/
theorem State.writeLines_snapshotShows {u : State} (wf : Memory.wf u.mem = true) :
    u.writeLineA.writeLineB.writeLineC.snapshotShows := by
  have wfA := State.wf_poke u 0x10 u.lineA wf
  have wfB := State.wf_poke _ 0x20 u.lineB wfA
  have lineA := State.readBytes_poke_same (a := 0x10) (bs := u.lineA) wf (by rw [State.lineA_length]; omega)
  have lineC := State.readBytes_poke_same (a := 0x30) (bs := u.lineC) wfB (by rw [State.lineC_length]; omega)
  rw [State.lineA_length] at lineA
  rw [State.lineC_length] at lineC
  simp only [State.snapshotShows, State.writeLineA, State.writeLineB, State.writeLineC, State.snapshot_poke]
  refine ⟨?_, lineC⟩
  rw [State.readBytes_poke_apart (.inl (by omega)), State.readBytes_poke_apart (.inl (by omega)), lineA]

/-- PERF_RESET writes the three snapshot lines as they then stand (R156, R163). -/
theorem State.readied_perfReset (s : State) : s.readied s.perfReset := by
  have sameBytes := s.sameOutside_perfReset
  rw [State.perfReset] at sameBytes ⊢
  have cleared : (s.perfCleared.setRegs { s.perfCleared.regs with flags := 0 }).mem = s.mem := rfl
  simp only at sameBytes ⊢
  generalize s.perfCleared.setRegs { s.perfCleared.regs with flags := 0 } = u at sameBytes cleared ⊢
  have lines (wf : Memory.wf s.mem = true) := State.writeLines_snapshotShows (u := u) (cleared ▸ wf)
  exact {
    wf := fun wf => State.wf_poke _ _ _ (State.wf_poke _ _ _ (State.wf_poke u _ _ (cleared ▸ wf)))
    mem := fun a out => sameBytes a fun wrote => out (wrote.elim .inr fun lineB => .inl (.inr (.inr (.inl lineB))))
    lineA := fun wf _ _ => (lines wf).1
    lineC := fun wf _ _ => (lines wf).2 }

/-! ### Every command -/

/-- What a command can answer, as far as cue memory goes. -/
inductive State.answers (s : State) : Instr → State → Prop
  | acts {c : Instr} {x : State} (made : s.readied x) : s.answers c (publish s x)
  | rests {c : Instr} {t : State} (mem : t.mem = s.mem) (alike : s.showsAlike t) : s.answers c t
  | reports {u : State} (mem : u.mem = s.mem) (alike : s.showsAlike u) : s.answers .reportEvent u.reportAll
  | commits {a : Addr} {data : List Byte} {t : State} (mem : t.mem = commitBytes s.mem a data) (alike : s.showsAlike t) :
      s.answers (.memWrite a data) t
  | poweredOn (i : InputLevels) : s.answers (.powerOnReset i) (s.powerOn i).initStatusArea
  | released (i : InputLevels) : s.answers (.pinReset i) (s.pinRelease i).initStatusArea

section
variable {c : Instr} {s t : State}

theorem State.answers_self : s.answers c s := .rests rfl (.of_eq (by simp))

/-- A change of the registers, the port, the inputs or a schedule. -/
theorem State.answers_of_eq (mem : t.mem = s.mem) (kept : t.perf = s.perf ∧ t.csm = s.csm ∧ t.scu = s.scu ∧ t.rot = s.rot ∧
    t.reader = s.reader ∧ t.fq = s.fq ∧ t.passes = s.passes ∧ t.chans = s.chans) : s.answers c t :=
  .rests mem (.of_eq kept)

variable (refs : s.refsInBlocks)
include refs

theorem State.answers_of_own {x : State} (own : s.writesOwn s → s.writesOwn x) : s.answers c (publish s x) :=
  .acts (own (.refl refs)).readied

theorem onEvent_answers {due : Bool} {f : State → State} (e : onEvent due f s = .next t) (own : s.writesOwn s → s.writesOwn (f s)) :
    s.answers c t := by
  rcases onEvent_next e with rfl | ⟨-, -, rfl⟩
  · exact State.answers_self
  · exact State.answers_of_own refs own

theorem onSample_answers {f : State → State} (e : onSample f s = .next t) (own : s.writesOwn s → s.writesOwn (f s)) :
    s.answers c t := by
  rcases onSample_next e with rfl | rfl
  · exact State.answers_self
  · exact State.answers_of_own refs own

omit refs in
/-- A command of CONTROL whose effect is ready to be published, whatever the port has shifted. -/
theorem onControl_readied {code : Byte} {verdict : State → CmdOutcome} {f : State → State} (e : onControl code verdict f s = .next t)
    (made : ∀ p, State.readied { s with port := p } (f { s with port := p })) : s.answers c t := by
  have port (p : Port) : s.showsAlike { s with port := p } := .of_eq (by simp)
  rcases onControl_next e with rfl | ⟨p, r, rfl⟩ | ⟨-, p, r, rfl⟩
  · exact State.answers_self
  · have none : State.readied { s with port := p } { s with port := p } := ⟨id, fun _ _ => rfl, fun _ h _ => h, fun _ h _ => h⟩
    exact .acts ((none.after (b := s) rfl (port p)).setRegs r)
  · exact .acts (((made p).after (b := s) rfl (port p)).setRegs r)

theorem onControl_answers {code : Byte} {verdict : State → CmdOutcome} {f : State → State} (e : onControl code verdict f s = .next t)
    (own : ∀ {u : State}, u.refsInBlocks → u.writesOwn u → u.writesOwn (f u)) : s.answers c t :=
  onControl_readied e fun p =>
    have port : State.refsInBlocks { s with port := p } := refs.same (by simp)
    (own port (.refl port)).readied

/-- An event on a schedule of DT: the schedule moves on, and in reset nothing else. -/
theorem scheduled_answers {due low : Bool} {m x : State} (moved : s.writesOwn s → s.writesOwn m) (alike : s.showsAlike m)
    (mem : m.mem = s.mem) (own : s.writesOwn m → s.writesOwn x)
    (e : (if due = true then if low = true then .next m else .next (publish s x) else .next s : Answer) = .next t) :
    s.answers c t := by
  rcases scheduled_next e with rfl | rfl | rfl
  · exact State.answers_self
  · exact .rests mem alike
  · exact State.answers_of_own refs fun start => own (moved start)
end

/-- The report event, due with nRST high (R164). -/
theorem reportEvent_due {s : State} (hn : s.nrstLow = false) (due : reached s.scu.dt s.sched.reportDue = true) :
    exec .reportEvent s = .next (s.setSched { s.sched with reportDue := s.sched.reportDue + 100000 }).reportAll := by
  simp only [exec, execReportEvent, reportEventDue, due, hn, if_true, Bool.false_eq_true, if_false]

/-- The report event does nothing where it is not due; its schedule moves on in reset too. -/
theorem reportEvent_next {s t : State} (h : exec .reportEvent s = .next t) :
    t = s ∨ ∃ x, t = s.setSched x ∨ t = (s.setSched x).reportAll := by
  by_cases due : reached s.scu.dt s.sched.reportDue = true
  · by_cases low : s.nrstLow = true
    · have moved : exec .reportEvent s = .next (s.setSched { s.sched with reportDue := s.sched.reportDue + 100000 }) := by
        simp only [exec, execReportEvent, reportEventDue, due, low, if_true]
      exact .inr ⟨_, .inl (Host.Outcome.next.inj (h.symm.trans moved))⟩
    · have taken := reportEvent_due (Bool.eq_false_of_not_eq_true low) due
      exact .inr ⟨_, .inr (Host.Outcome.next.inj (h.symm.trans taken))⟩
  · have idle : exec .reportEvent s = .next s := by
      simp only [exec, execReportEvent, reportEventDue, due, if_false, Bool.false_eq_true]
    exact .inl (Host.Outcome.next.inj (h.symm.trans idle))

/-- Every command answers in one of these ways. -/
theorem exec_answers {c : Instr} {s t : State} (refs : s.refsInBlocks) (h : exec c s = .next t) : s.answers c t := by
  cases c
  all_goals simp only [exec] at h
  case start => exact onControl_answers refs h fun _ own => own.setPerf _
  case pause => exact onControl_answers refs h fun _ own => own.setPerf _
  case resume => exact onControl_answers refs h fun _ own => own.takeResume
  case stop => exact onControl_answers refs h fun _ own => own.takeStop
  case cont => exact onControl_answers refs h fun _ own => own.releaseHeld _
  case clear => exact onControl_answers refs h fun _ own => own.enterEnded
  case clearChannel n => exact onControl_answers refs h fun _ own => own.clearFaulted n
  case lockConfig => exact onControl_answers refs h fun _ own => own.setPerf _
  case perfReset => exact onControl_readied h fun p => State.readied_perfReset _
  case unknownCommand =>
    unfold execUnknownCommand at h
    split at h
    · cases h
    · exact onControl_answers refs h fun _ own => own
  case powerOnReset i => rw [powerOnReset_next h]; exact .poweredOn i
  case pinReset i => rw [pinReset_next h]; exact .released i
  case attnFlagsWrite | attnEnableWrite => rcases onGroup_next h with rfl | ⟨p, rfl⟩ <;> exact State.answers_of_eq rfl (by simp)
  case statusWriteIgnored w =>
    unfold execStatusWriteIgnored at h
    split at h
    · cases w
      case status => rcases onGroup_next h with rfl | ⟨p, rfl⟩ <;> exact State.answers_of_eq rfl (by simp)
      all_goals rcases onPort_next h with rfl | rfl <;> exact State.answers_of_eq (by simp) (by simp)
    · cases h
  case memRead | regRead => rcases onPort_next h with rfl | rfl <;> exact State.answers_of_eq rfl (by simp)
  case memWrite a data =>
    rcases onPort_next h with rfl | rfl
    · exact State.answers_self
    · exact .commits rfl (.of_eq (by simp))
  case unknownInstruction =>
    unfold execUnknownInstruction at h
    split at h
    · rcases onPort_next h with rfl | rfl <;> exact State.answers_of_eq rfl (by simp)
    · cases h
  case nrstAssertion => cases h; exact State.answers_of_eq rfl (by simp)
  case housekeepingEvent v =>
    exact scheduled_answers (m := s.setSched { s.sched with houseDue := s.sched.houseDue + 1000 }) refs
      (fun own => own.same (by simp) (by simp)) (.of_eq (by simp)) (by simp) (fun own => own.housekeeping v) h
  case heatEvent n =>
    exact scheduled_answers (m := s.setChan n { s.chan n with heatDue := (s.chan n).heatDue + 10000 }) refs
      (fun own => own.touch n (by simp)) ⟨rfl, rfl, fun m => by rw [State.chan_setChan]; split <;> simp_all [Channel.report]⟩ rfl
      (fun own => own.heatEvent n) h
  case reportEvent =>
    rcases reportEvent_next h with rfl | ⟨x, rfl | rfl⟩
    · exact State.answers_self
    · exact State.answers_of_eq (by simp) (by simp)
    · exact .reports (by simp) (.of_eq (by simp))
  case rotorRateEvent =>
    exact scheduled_answers (m := s.setRot { s.rot with rateDue := s.rot.rateDue + 10000 }) refs
      (fun own => own.turn (by simp)) (.turned rfl) (by simp) (fun own => own.rotorAccelerate) h
  case quietQualifierChange | dfltDeassertion | lineTransition => exact onSample_answers refs h fun own => own.same (by simp) (by simp)
  case dfltAssertion => exact onSample_answers refs h fun own => own.takeDflt
  case rotorStep => exact onEvent_answers refs h fun own => own.rotorStepTaken
  case syncoPulseEnd => exact onEvent_answers refs h fun own => own.keepAgenda (by simp)
  case tickBoundary => exact onEvent_answers refs h fun own => own.boundary
  case holdpointTimeout => exact onEvent_answers refs h fun own => own.releaseHeld _
  case syncLoss => exact onEvent_answers refs h fun own => State.writesOwn.setFlag (own.keepAgenda (by simp)) _
  case syncPulse => exact onEvent_answers refs h fun own => State.writesOwn.syncEdge (own.same (by simp) (by rfl)) _
  case cueiEdge => exact onEvent_answers refs h fun own => State.writesOwn.cueEdge (own.same (by simp) (by rfl))
  case homeEdge => exact onEvent_answers refs h fun own => State.writesOwn.rotorHome (own.same (by simp) (by rfl))
  case contactAccepted n => exact onEvent_answers refs h fun own => State.writesOwn.contact (own.same (by simp) (by rfl)) n _
  case synthesisedContact n => exact onEvent_answers refs h fun own => own.synthesise n
  case quietRequest =>
    exact onEvent_answers refs h fun own =>
      State.writesOwn.freeze (own.same (t := s.setSiu { s.siu with quiet := .taken }) (by simp) rfl) .quiet
  case loadingComplete => exact onEvent_answers refs h fun own => own.loadingCompletes
  case horizonPassed => exact onEvent_answers refs h fun own => own.passHorizon
  case stallReleased => exact onEvent_answers refs h fun own => own.releaseStall
  case standingReengagePlaced n => exact onEvent_answers refs h fun own => own.placeStanding n
  case fireTimeArrival => exact onEvent_answers refs h fun own => own.arriveAll
  case skewExpiry => exact onEvent_answers refs h fun own => own.skewExpiry
  case pulseEnd n => exact onEvent_answers refs h fun own => (own.pulseOff n _).afterPulse n
  case engageEnd n => exact onEvent_answers refs h fun own => own.engageEnds n
  case windowSettle n => exact onEvent_answers refs h fun own => own.settle n
  case recoveryEnd n => exact onEvent_answers refs h fun own => own.recoveryDone n
  case drainComplete => exact onEvent_answers refs h fun own => State.writesOwn.enterEnded (own.releaseHolds _)
  case drainPark => exact onEvent_answers refs h fun own => own.rotorPark
  case filterQualificationAbandoned | returnEdgeAccepted => exact onEvent_answers refs h fun own => own.same (by simp) (by simp)

end Sys2Proof.Machine

/-! PROOFS. The identity line and the bytes of the host's own, after every command. -/
namespace Sys2Proof.Machine
open Sys2Proof

/-! ### What publication and the report event leave -/

theorem State.wf_publish {b s : State} (wf : Memory.wf s.mem = true) : Memory.wf (publish b s).mem = true := by
  have refreshed (u : State) (k : Fin 32) (hu : Memory.wf u.mem = true) : Memory.wf (State.refreshReport b u k).mem = true := by
    unfold State.refreshReport
    split
    · exact hu
    · exact State.wf_poke _ _ _ hu
  refine List.foldlRecOn (motive := fun u => Memory.wf u.mem = true) _ _ ?_ fun u hu k _ => refreshed u k hu
  split <;> split
  · exact wf
  · exact State.wf_poke _ _ _ wf
  · exact State.wf_poke _ _ _ wf
  · exact State.wf_poke _ _ _ (State.wf_poke _ _ _ wf)

theorem State.wf_reportAll {s : State} (wf : Memory.wf s.mem = true) : Memory.wf s.reportAll.mem = true := by
  unfold State.reportAll
  exact List.foldlRecOn (motive := fun u : State => Memory.wf u.mem = true) allReportLines State.writeReport wf
    fun u hu k _ => State.wf_poke u _ _ hu

/-- The report event writes the table alone (R164). -/
theorem State.sameOutside_reportAll (s : State) : sameOutside s s.reportAll fun a => 0x540 ≤ a ∧ a < 0x740 := by
  intro a out
  unfold State.reportAll
  refine List.foldlRecOn (motive := fun u : State => Memory.read u.mem a = Memory.read s.mem a) allReportLines State.writeReport rfl fun u hu k _ => ?_
  have := k.isLt
  exact (u.sameOutside_writeReport k a (by omega)).trans hu

/-! ### O54 and O55 -/

theorem identityShows_of_read {m m' : Memory} (same : ∀ a < 7, Memory.read m' a = Memory.read m a) (h : identityShows m) :
    identityShows m' := by
  rw [identityShows, ← h]
  exact Memory.readBytes_congr fun i hi => same _ (by omega)

section
variable {c : Instr} {s t : State}

/-- No command's answer but a reset writes the identity line. -/
theorem State.answers.identity_kept (h : s.answers c t) (wf : Memory.wf s.mem = true) (shows : identityShows s.mem) :
    identityShows t.mem := by
  cases h with
  | acts made =>
    refine identityShows_of_read (fun a low => ?_) shows
    rw [read_publish s _ (by simp only [published]; omega)]
    exact made.mem a (by simp only [ownByte, published]; omega)
  | rests mem => rwa [mem]
  | reports mem =>
    refine identityShows_of_read (fun a low => ?_) shows
    rw [State.sameOutside_reportAll _ a (by omega), mem]
  | commits mem =>
    refine identityShows_of_read (fun a low => ?_) shows
    rw [mem, read_commitBytes_kept (by omega) (.inl (by omega))]
  | poweredOn i => exact (State.initStatusArea_fresh (s := s.powerOn i) rfl).1
  | released i => exact (State.initStatusArea_fresh (s := s.pinRelease i) wf).1

/-- Both resets write it. -/
theorem identityShows_of_fullReset (wf : Memory.wf s.mem = true) (h : exec c s = .next t) (full : isFullReset c = true) :
    identityShows t.mem := by
  cases c with
  | powerOnReset i => rw [powerOnReset_next h]; exact (State.initStatusArea_fresh (s := s.powerOn i) rfl).1
  | pinReset i => rw [pinReset_next h]; exact (State.initStatusArea_fresh (s := s.pinRelease i) wf).1
  | _ => cases full

theorem State.answers.wf_kept (h : s.answers c t) (wf : Memory.wf s.mem = true) : Memory.wf t.mem = true := by
  cases h with
  | acts made => exact State.wf_publish (made.wf wf)
  | rests mem => rwa [mem]
  | reports mem => exact State.wf_reportAll (by rwa [mem])
  | commits mem => rw [mem]; exact wf_commitBytes _ _ wf
  | poweredOn i => exact State.wf_initStatusArea (s := s.powerOn i) rfl
  | released i => exact State.wf_initStatusArea (s := s.pinRelease i) wf

/-- Outside the status area, and the completion counts and result areas of block space, no command but MEM_WRITE and a power-on reset
writes. -/
theorem State.answers.read_kept (h : s.answers c t) (host : ∀ a data, c ≠ .memWrite a data) (off : ∀ i, c ≠ .powerOnReset i) {x : Nat}
    (status : ¬statusArea x) (part : ¬partByteOfBlock x) : Memory.read t.mem x = Memory.read s.mem x := by
  cases h with
  | acts made =>
    rw [read_publish s _ (by simp only [published]; omega)]
    exact made.mem x (by simp only [ownByte, published]; omega)
  | rests mem => rw [mem]
  | reports mem => rw [State.sameOutside_reportAll _ x (by omega), mem]
  | commits => exact absurd rfl (host _ _)
  | poweredOn i => exact absurd rfl (off i)
  | released i => exact (s.pinRelease i).sameOutside_initStatusArea x (by omega)
end

/-- Settles O54: only the resets write below snapshot line A, and they write the identity line. -/
theorem theIdentityLineNeverChanges : Obligations.TheIdentityLineNeverChanges := by
  unfold Obligations.TheIdentityLineNeverChanges
  exact fun c s t wf refs h => ⟨(exec_answers refs h).identity_kept wf, identityShows_of_fullReset wf h⟩

/-- Settles O55: each operation of the part writes bytes of its own, since what it refers to lies in block space. -/
theorem thePartWritesOnlyItsOwnBytes : Obligations.ThePartWritesOnlyItsOwnBytes := by
  unfold Obligations.ThePartWritesOnlyItsOwnBytes
  intro c s t wf refs h
  have answer := exec_answers refs h
  exact ⟨answer.wf_kept wf, fun host off _ => answer.read_kept host off⟩

end Sys2Proof.Machine

/-! PROOFS. The channel report table after the report event and after publication: each line as its channels stand. -/
namespace Sys2Proof.Machine
open Sys2Proof

/-! ### Bytes of a run, and of a part of cue memory -/

theorem byteAt_readBytes (m : Memory) (a : Nat) {i n : Nat} (h : i < n) :
    byteAt (Memory.readBytes m a n) i = Memory.read m (a + i) := by
  induction n generalizing a i with
  | zero => cases h
  | succ n ih =>
    cases i with
    | zero => rfl
    | succ i => exact (ih (a + 1) (Nat.lt_of_succ_lt_succ h)).trans (by rw [Nat.add_right_comm, Nat.add_assoc])

/-- What cue memory lists between two addresses is what it reads there. -/
theorem Memory.read_listed (m : Memory) {lo hi a : Nat} (low : lo ≤ a) (high : a < hi) :
    Memory.read (Memory.listed m lo hi) a = Memory.read m a := by
  induction m with
  | nil => rfl
  | cons c r ih =>
    obtain ⟨k, v⟩ := c
    simp only [Memory.listed, List.filter_cons, Memory.read] at ih ⊢
    by_cases own : k = a
    · simp [own, low, high, Memory.read]
    · rw [if_neg own, ← ih]
      split
      · rw [Memory.read, if_neg own]
      · rfl

/-! ### A channel's entry -/

/-- The entry of channel `n` reads as this report, heat apart (R164). -/
def entryShows (m : Memory) (n : ChanId) (report : List Byte) : Prop :=
  ∀ j : Fin 8, j.val ≠ 2 → j.val ≠ 3 → Memory.read m (0x540 + 8 * n.val + j.val) = byteAt report j.val

theorem State.tableShows_iff (s : State) : s.tableShows ↔ ∀ n, entryShows s.mem n (s.chan n).report := Iff.rfl

theorem entryShows_of_readBytes {m : Memory} {n : ChanId} {report : List Byte}
    (h : Memory.readBytes m (0x540 + 8 * n.val) 8 = report) : entryShows m n report := fun j _ _ => by
  rw [← h, byteAt_readBytes _ _ j.isLt]

theorem entryShows.congr {m m' : Memory} {n : ChanId} {report : List Byte} (h : entryShows m n report)
    (same : ∀ j < 8, Memory.read m' (0x540 + 8 * n.val + j) = Memory.read m (0x540 + 8 * n.val + j)) : entryShows m' n report :=
  fun j heat heat' => (same j j.isLt).trans (h j heat heat')

/-- Channels whose reported fields are the same have the same report, heat apart. -/
theorem byteAt_report {a b : Channel} (same : a.sameReport b = true) (j : Fin 8) (low : j.val ≠ 2) (high : j.val ≠ 3) :
    byteAt a.report j.val = byteAt b.report j.val := by
  simp only [Channel.sameReport, Bool.and_eq_true, beq_iff_eq] at same
  obtain ⟨⟨⟨⟨state, trim⟩, misses⟩, strays⟩, hits⟩ := same
  simp only [Channel.report, state, trim, misses, strays, hits]
  obtain ⟨j, hj⟩ := j
  match j with
  | 0 => rfl
  | 1 => rfl
  | 2 => exact absurd rfl low
  | 3 => exact absurd rfl high
  | _ + 4 => rfl

/-- The address of a channel's entry lies in its report line. -/
theorem entry_in_line (n : ChanId) : 16 * (lineOf n).val ≤ 8 * n.val ∧ 8 * n.val + 8 ≤ 16 * (lineOf n).val + 16 := by
  simp only [lineOf]
  omega

/-! ### Lines written one after another -/

/-- What is done to each report line in turn holds of every line in the end, if no turn undoes it. -/
theorem State.foldl_lines {f : State → Fin 32 → State} {ok : State → Prop} {line : State → Fin 32 → Prop}
    (each : ∀ u k, ok u → ok (f u k) ∧ line (f u k) k ∧ ∀ j, j ≠ k → line u j → line (f u k) j) {s : State} (start : ok s) :
    ok (allReportLines.foldl f s) ∧ ∀ k, line (allReportLines.foldl f s) k := by
  have all (l : List (Fin 32)) (u : State) (hu : ok u) :
      ok (l.foldl f u) ∧ ∀ k, k ∈ l ∨ line u k → line (l.foldl f u) k := by
    induction l generalizing u with
    | nil => exact ⟨hu, fun k h => h.resolve_left (by simp)⟩
    | cons i l ih =>
      obtain ⟨kept, own, others⟩ := each u i hu
      obtain ⟨kept', rest⟩ := ih (f u i) kept
      refine ⟨kept', fun k h => rest k ?_⟩
      by_cases same : k = i
      · exact .inr (same ▸ own)
      · exact h.imp (fun mem => (List.mem_cons.1 mem).resolve_left same) (others k same)
  obtain ⟨kept, lines⟩ := all allReportLines s start
  exact ⟨kept, fun k => lines k (.inl (List.mem_finRange k))⟩

/-- Writing a report line leaves the entries of the others. -/
theorem State.read_writeReport_other (s : State) {k : Fin 32} {n : ChanId} (other : lineOf n ≠ k) {i : Nat} (hi : i < 8) :
    Memory.read (s.writeReport k).mem (0x540 + 8 * n.val + i) = Memory.read s.mem (0x540 + 8 * n.val + i) := by
  refine s.sameOutside_writeReport k _ fun ⟨low, high⟩ => other (Fin.ext ?_)
  simp only [lineOf]
  omega

/-- The report event's lines hold every channel's entry as it stands, heat included (R164). -/
theorem State.readBytes_reportAll {s : State} (wf : Memory.wf s.mem = true) (n : ChanId) :
    Memory.readBytes s.reportAll.mem (0x540 + 8 * n.val) 8 = (s.chan n).report := by
  obtain ⟨⟨-, chans⟩, lines⟩ := State.foldl_lines (f := State.writeReport) (ok := fun u => Memory.wf u.mem = true ∧ u.chans = s.chans)
    (line := fun u k => ∀ n, lineOf n = k → Memory.readBytes u.mem (0x540 + 8 * n.val) 8 = (s.chan n).report)
    (fun u k ⟨hu, chans⟩ => by
      refine ⟨⟨State.wf_poke _ _ _ hu, chans⟩, fun n own => ?_, fun j other before n own => ?_⟩
      · rw [← own, State.readBytes_writeReport_lineOf hu]
        simp only [State.chan, chans]
      · rw [← before n own]
        exact Memory.readBytes_congr fun i hi => u.read_writeReport_other (own ▸ other) hi) (s := s) ⟨wf, rfl⟩
  exact lines (lineOf n) n rfl

/-- A line refreshed shows its channels, where the step began with the table showing them (R164). -/
theorem State.refreshReport_shows {b u : State} (shown : b.tableShows) (wf : Memory.wf u.mem = true) (n : ChanId) :
    entryShows (State.refreshReport b u (lineOf n)).mem n (u.chan n).report := by
  unfold State.refreshReport
  split
  next same =>
    simp only [Bool.and_eq_true, sameReportLine, beq_iff_eq] at same
    obtain ⟨⟨even, odd⟩, bytes⟩ := same
    have own : (b.chan n).sameReport (u.chan n) = true := by
      rcases evenChan_or_oddChan n with ⟨e, -⟩ | ⟨e, -⟩
      · rw [← e] at even; exact even
      · rw [← e] at odd; exact odd
    obtain ⟨low, high⟩ := entry_in_line n
    intro j heat heat'
    have inside := j.isLt
    rw [← byteAt_report own j heat heat', ← shown n j heat heat', ← Memory.read_listed u.mem (lo := 0x540 + 16 * (lineOf n).val)
      (hi := 0x540 + 16 * (lineOf n).val + 16) (by omega) (by omega), bytes, Memory.read_listed _ (by omega) (by omega)]
  next => exact entryShows_of_readBytes (State.readBytes_writeReport_lineOf wf n)

/-- Refreshing a report line leaves the entries of the others, and the channels. -/
theorem State.refreshReport_kept {b u : State} (k : Fin 32) :
    (State.refreshReport b u k).chans = u.chans ∧ (Memory.wf u.mem = true → Memory.wf (State.refreshReport b u k).mem = true) ∧
      ∀ n, lineOf n ≠ k → ∀ i < 8,
        Memory.read (State.refreshReport b u k).mem (0x540 + 8 * n.val + i) = Memory.read u.mem (0x540 + 8 * n.val + i) := by
  unfold State.refreshReport
  split
  · exact ⟨rfl, id, fun _ _ _ _ => rfl⟩
  · exact ⟨rfl, fun wf => State.wf_poke _ _ _ wf, fun n other i hi => u.read_writeReport_other other hi⟩

/-- Where the table showed the state before a step, all lines refreshed show the state after it (R164). -/
theorem State.refreshed_tableShows {b s : State} (shown : b.tableShows) (wf : Memory.wf s.mem = true) (n : ChanId) :
    entryShows (allReportLines.foldl (State.refreshReport b) s).mem n (s.chan n).report := by
  obtain ⟨-, lines⟩ := State.foldl_lines (f := State.refreshReport b) (ok := fun u => Memory.wf u.mem = true ∧ u.chans = s.chans)
    (line := fun u k => ∀ n, lineOf n = k → entryShows u.mem n (s.chan n).report)
    (fun u k ⟨hu, chans⟩ => by
      obtain ⟨chans', wf', others⟩ := State.refreshReport_kept (b := b) (u := u) k
      refine ⟨⟨wf' hu, chans'.trans chans⟩, fun n own => ?_, fun j other before n own => ?_⟩
      · have shows := State.refreshReport_shows shown hu n
        rw [own] at shows
        simpa only [State.chan, chans] using shows
      · exact (before n own).congr fun i hi => others n (own ▸ other) i hi) (s := s) ⟨wf, rfl⟩
  exact lines (lineOf n) n rfl

/-- What the report event leaves, whatever its schedule moves on to (R164). -/
theorem State.reportAll_setSched {s : State} (wf : Memory.wf s.mem = true) (x : Sched) :
    (s.setSched x).reportAll = { s with mem := (s.setSched x).reportAll.mem, sched := x } ∧
      (∀ n, Memory.readBytes (s.setSched x).reportAll.mem (0x540 + 8 * n.val) 8 = (s.chan n).report) ∧
      sameOutside s (s.setSched x).reportAll fun a => 0x540 ≤ a ∧ a < 0x740 :=
  ⟨by apply State.eq_of_fields <;> simp, State.readBytes_reportAll (s := s.setSched x) wf, (s.setSched x).sameOutside_reportAll⟩

/-- Settles O42: line after line is written as its channels stand, and no later line touches an earlier one. -/
theorem theReportEventWritesEveryChannel : Obligations.TheReportEventWritesEveryChannel := by
  unfold Obligations.TheReportEventWritesEveryChannel
  exact fun s hn due wf => ⟨_, reportEvent_due hn due, State.reportAll_setSched wf _⟩

end Sys2Proof.Machine

/-! PROOFS. The published status: snapshot lines A and C and the channel report table after every command. -/
namespace Sys2Proof.Machine
open Sys2Proof

/-! ### Publication -/

/-- A step's state with the snapshot lines written that show something else. -/
def State.linesRefreshed (b x : State) : State :=
  let u := if x.lineA == b.lineA then x else x.writeLineA
  if u.lineC == b.lineC then u else u.writeLineC

theorem publish_eq_refreshed (b x : State) : publish b x = allReportLines.foldl (State.refreshReport b) (b.linesRefreshed x) := rfl

theorem State.linesRefreshed_chans (b x : State) : (b.linesRefreshed x).chans = x.chans := by
  have lineC (u : State) : (if u.lineC == b.lineC then u else u.writeLineC).chans = u.chans := by split <;> simp
  exact (lineC _).trans (by split <;> simp)

theorem State.readBytes_writeLineA {s : State} (wf : Memory.wf s.mem = true) :
    Memory.readBytes s.writeLineA.mem 0x10 16 = s.writeLineA.lineA := by
  have line := State.readBytes_poke_same (a := 0x10) (bs := s.lineA) wf (by rw [State.lineA_length]; omega)
  rw [State.lineA_length] at line
  simp only [State.writeLineA, State.snapshot_poke, line]

theorem State.readBytes_writeLineA_lineC (s : State) : Memory.readBytes s.writeLineA.mem 0x30 16 = Memory.readBytes s.mem 0x30 16 :=
  State.readBytes_poke_apart (.inr (by rw [State.lineA_length]; omega))

theorem State.writeLineC_snapshotShows {s : State} (wf : Memory.wf s.mem = true) (shown : Memory.readBytes s.mem 0x10 16 = s.lineA) :
    s.writeLineC.snapshotShows := by
  have line := State.readBytes_poke_same (a := 0x30) (bs := s.lineC) wf (by rw [State.lineC_length]; omega)
  rw [State.lineC_length] at line
  simp only [State.snapshotShows, State.writeLineC, State.snapshot_poke, line, and_true]
  rw [State.readBytes_poke_apart (.inl (by omega)), shown]

/-- Written where they show something else, the snapshot lines show the state. -/
theorem State.readied.linesRefreshed {b x : State} (made : b.readied x) (wf : Memory.wf b.mem = true) (shown : b.snapshotShows) :
    (b.linesRefreshed x).snapshotShows ∧ Memory.wf (b.linesRefreshed x).mem = true := by
  obtain ⟨shownA, shownC⟩ := shown
  have wfx := made.wf wf
  have wfA : Memory.wf x.writeLineA.mem = true := State.wf_poke _ _ _ wfx
  simp only [State.linesRefreshed, beq_iff_eq]
  split
  next sameA =>
    have lineA := made.lineA wf shownA sameA
    split
    next sameC => exact ⟨⟨lineA, made.lineC wf shownC sameC⟩, wfx⟩
    next => exact ⟨State.writeLineC_snapshotShows wfx lineA, State.wf_poke _ _ _ wfx⟩
  next =>
    have lineA := State.readBytes_writeLineA wfx
    split
    next sameC =>
      have lineC : x.writeLineA.lineC = x.lineC := (x.snapshot_poke _ _).2.2
      rw [lineC] at sameC
      exact ⟨⟨lineA, by rw [lineC, State.readBytes_writeLineA_lineC, made.lineC wf shownC sameC]⟩, wfA⟩
    next => exact ⟨State.writeLineC_snapshotShows wfA lineA, State.wf_poke _ _ _ wfA⟩

/-- Cue memory below the table, and what the snapshot lines show, stand while the table is refreshed. -/
theorem State.refreshed_snapshotShows {b u : State} (shown : u.snapshotShows) :
    (allReportLines.foldl (State.refreshReport b) u).snapshotShows := by
  refine List.foldlRecOn (motive := State.snapshotShows) allReportLines (State.refreshReport b) shown fun v hv k _ => ?_
  unfold State.refreshReport
  split
  · exact hv
  · obtain ⟨lineA, lineC⟩ := hv
    have apart (a : Nat) (low : a + 16 ≤ 0x540) : Memory.readBytes (v.writeReport k).mem a 16 = Memory.readBytes v.mem a 16 :=
      Memory.readBytes_congr fun i hi => v.sameOutside_writeReport k _ (by omega)
    obtain ⟨sameA, -, sameC⟩ := v.snapshot_poke (0x540 + 16 * k.val) ((v.chan (evenChan k)).report ++ (v.chan (oddChan k)).report)
    exact ⟨(apart _ (by omega)).trans (lineA.trans sameA.symm), (apart _ (by omega)).trans (lineC.trans sameC.symm)⟩

/-- A step published shows its state, where the state before it was shown (R162 to R165). -/
theorem State.readied.publish_shows {b x : State} (made : b.readied x) (wf : Memory.wf b.mem = true) (shown : b.snapshotShows)
    (table : b.tableShows) : (publish b x).snapshotShows ∧ (publish b x).tableShows := by
  obtain ⟨lines, wf'⟩ := made.linesRefreshed wf shown
  have report (n : ChanId) : ((publish b x).chan n).report = ((b.linesRefreshed x).chan n).report := by
    simp only [State.chan, State.linesRefreshed_chans, publish_keeps]
  rw [State.tableShows_iff]
  simp only [report]
  rw [publish_eq_refreshed]
  exact ⟨State.refreshed_snapshotShows lines, State.refreshed_tableShows table wf'⟩

/-! ### The other answers -/

section
variable {s t : State}

/-- Where cue memory reads as before in the lines published and they show the same, they still show the state. -/
theorem State.showsAlike.shows (alike : s.showsAlike t) (mem : ∀ a, published a → Memory.read t.mem a = Memory.read s.mem a)
    (shown : s.snapshotShows) (table : s.tableShows) : t.snapshotShows ∧ t.tableShows := by
  obtain ⟨lineA, lineC⟩ := shown
  refine ⟨⟨?_, ?_⟩, fun n j heat heat' => ?_⟩
  · rw [alike.lineA, ← lineA]
    exact Memory.readBytes_congr fun i hi => mem _ (by simp only [published]; omega)
  · rw [alike.lineC, ← lineC]
    exact Memory.readBytes_congr fun i hi => mem _ (by simp only [published]; omega)
  · rw [alike.report, ← table n j heat heat']
    exact mem _ (by simp only [published]; omega)

theorem State.reportAll_showsAlike (s : State) : s.showsAlike s.reportAll := .of_eq (by simp)

/-- The report event leaves the snapshot lines and writes the whole table. -/
theorem State.reportAll_shows (wf : Memory.wf s.mem = true) (shown : s.snapshotShows) :
    s.reportAll.snapshotShows ∧ s.reportAll.tableShows := by
  obtain ⟨lineA, lineC⟩ := shown
  have alike := s.reportAll_showsAlike
  have apart (a : Nat) (low : a + 16 ≤ 0x540) : Memory.readBytes s.reportAll.mem a 16 = Memory.readBytes s.mem a 16 :=
    Memory.readBytes_congr fun i hi => s.sameOutside_reportAll _ (by omega)
  refine ⟨⟨?_, ?_⟩, fun n => entryShows_of_readBytes (n := n) ?_⟩
  · rw [alike.lineA, ← lineA, apart _ (by omega)]
  · rw [alike.lineC, ← lineC, apart _ (by omega)]
  · rw [alike.report, State.readBytes_reportAll wf]

/-- A channel with nothing counted and no heat that is OFF reports 0x00 throughout. -/
theorem Channel.report_atPowerOn (due : DevTime) (j : Fin 8) : byteAt { Channel.atPowerOn with heatDue := due }.report j.val = 0 := by
  have report : { Channel.atPowerOn with heatDue := due }.report = Channel.atPowerOn.report := rfl
  rw [report]
  revert j
  decide

theorem byteAt_zeros (n i : Nat) : byteAt (List.replicate n 0) i = 0 := by
  simp only [byteAt, List.getD_eq_getElem?_getD, List.getElem?_replicate]
  split <;> rfl

/-- A fresh status area shows a part whose channels are as at power-on. -/
theorem State.statusAreaFresh.shows (fresh : t.statusAreaFresh)
    (chans : ∀ n, ∃ due, t.chan n = { Channel.atPowerOn with heatDue := due }) : t.snapshotShows ∧ t.tableShows := by
  obtain ⟨-, lineA, -, lineC, -, zeros⟩ := fresh
  refine ⟨⟨lineA, lineC⟩, fun n j _ _ => ?_⟩
  obtain ⟨due, chan⟩ := chans n
  have inside : 8 * n.val + j.val < 512 := by omega
  rw [chan, Channel.report_atPowerOn, Nat.add_assoc, ← byteAt_readBytes _ _ inside, zeros]
  exact byteAt_zeros _ _

theorem State.powerOn_chan (s : State) (i : InputLevels) (n : ChanId) : (s.powerOn i).initStatusArea.chan n = Channel.atPowerOn := by
  simp [State.chan, State.powerOn, State.reset]

theorem State.pinRelease_chan (s : State) (i : InputLevels) (n : ChanId) :
    (s.pinRelease i).initStatusArea.chan n = { Channel.atPowerOn with heatDue := (s.chan n).heatDue } := by
  simp [State.chan, State.pinRelease]

theorem State.answers.shows {c : Instr} (h : s.answers c t) (wf : Memory.wf s.mem = true) (shown : s.snapshotShows)
    (table : s.tableShows) : t.snapshotShows ∧ t.tableShows := by
  cases h with
  | acts made => exact made.publish_shows wf shown table
  | rests mem alike => exact alike.shows (fun a _ => by rw [mem]) shown table
  | reports mem alike =>
    exact State.reportAll_shows (by rwa [mem]) (alike.shows (fun a _ => by rw [mem]) shown table).1
  | commits mem alike =>
    refine alike.shows (fun a line => ?_) shown table
    simp only [published] at line
    rw [mem, read_commitBytes_kept (by omega) (.inl (by omega))]
  | poweredOn i =>
    exact (State.initStatusArea_fresh (s := s.powerOn i) rfl).shows fun n => ⟨_, s.powerOn_chan i n⟩
  | released i =>
    exact (State.initStatusArea_fresh (s := s.pinRelease i) wf).shows fun n => ⟨_, s.pinRelease_chan i n⟩
end

/-- Settles O57: what a step changes of the lines shown is published with it, and the rest stands as it was shown before. -/
theorem thePublishedStatusShowsTheState : Obligations.ThePublishedStatusShowsTheState := by
  unfold Obligations.ThePublishedStatusShowsTheState
  exact fun c s t wf refs shown table h => (exec_answers refs h).shows wf shown table

end Sys2Proof.Machine

/-! PROOFS. MEM_WRITE, the writes of the registers and ATTN, as the host shifts them in. -/
namespace Sys2Proof.Machine
open Sys2Proof

/-! ### MISO through a transaction (R170) -/

theorem freeMiso_eq (used n : Nat) : freeMiso used n = (List.range n).map fun k => Config.misoWhileWriting (used + k) := by
  induction n generalizing used with
  | zero => rfl
  | succ n ih =>
    rw [freeMiso, ih, List.range_succ_eq_map, List.map_cons, List.map_map]
    refine congrArg _ (List.map_congr_left fun k _ => ?_)
    simp only [Function.comp_apply, Nat.succ_eq_add_one, Nat.add_assoc, Nat.add_comm 1 k]

theorem State.shiftWrite_eq (s : State) (h n : Nat) :
    s.shiftWrite h n = { s with port := {
      miso := s.statusReg.setWidth 8 :: (List.replicate h 0 ++ (List.range n).map fun k => Config.misoWhileWriting (s.port.used + k))
      used := s.port.used + n, nextReg := none } } := by
  rw [State.shiftWrite, freeMiso_eq]
  rfl

theorem State.cutGroup_eq {s : State} {r : BitVec 2} (next : s.port.nextReg = some r) (n : Nat) :
    s.cutGroup n = { s with port := {
      miso := s.port.miso ++ (List.range n).map fun k => Config.misoWhileWriting (s.port.used + k)
      used := s.port.used + n, nextReg := none } } := by
  rw [State.cutGroup, next, freeMiso_eq]
  rfl

theorem onPort_taken {s : State} (f : State → State) (h : s.nrstLow = false) : onPort f s = .next (f s) :=
  if_neg (by simp [h])

section
variable {s : State} (hn : s.nrstLow = false)
include hn

theorem exec_attnFlagsWrite (v : BitVec 16) : exec (.attnFlagsWrite v) s =
    .next { s with port := s.wrotePort regFlags, regs := { s.regs with flags := s.regs.flags &&& ~~~(v.setWidth 9) } } := by
  rw [exec, execAttnFlagsWrite, onGroup_taken _ hn]
  rfl

theorem exec_attnEnableWrite (v : BitVec 16) : exec (.attnEnableWrite v) s =
    .next { s with port := s.wrotePort regEnable, regs := { s.regs with enable := v.setWidth 9 } } := by
  rw [exec, execAttnEnableWrite, onGroup_taken _ hn]
  rfl

theorem exec_memWrite (a : Addr) (data : List Byte) : exec (.memWrite a data) s =
    .next ((s.shiftWrite 2 data.length).setMem (commitBytes s.mem a data)) := by
  rw [exec, execMemWrite, onPort_taken _ hn]

theorem exec_statusWrite (v : BitVec 16) :
    exec (.statusWriteIgnored (.status v)) s = .next { s with port := s.wrotePort regStatus } := by
  simp only [exec, execStatusWriteIgnored, IgnoredWrite.wellFormed, if_true, onGroup_taken _ hn]

/-- A register write that names no register, or whose group is cut short, is over with the bytes it has shifted (R170). -/
theorem exec_noRegister {index : Byte} (above : 3 < index.toNat) (n : Nat) :
    exec (.statusWriteIgnored (.noRegister index n)) s = .next (s.shiftRead 1 (List.replicate n 0)) :=
  (if_pos (decide_eq_true above)).trans (onPort_taken _ hn)

theorem exec_cutFirst {index : Byte} {n : Nat} (named : index.toNat ≤ 3) (short : n < 2) :
    exec (.statusWriteIgnored (.cutFirst index n)) s = .next (s.shiftWrite 1 n) :=
  (if_pos (by simp [IgnoredWrite.wellFormed, named, short])).trans (onPort_taken _ hn)

theorem exec_cutNext {n : Nat} (short : n < 2) : exec (.statusWriteIgnored (.cutNext n)) s = .next (s.cutGroup n) :=
  (if_pos (decide_eq_true short)).trans (onPort_taken _ hn)
end

/-! ### Flags and enables, bit by bit (R168, R169) -/

theorem AttnFlag.bit_lt (f : AttnFlag) : f.bit < 9 := by cases f <;> decide

/-- Each of the nine bits is a flag's (Table 10-15). -/
theorem AttnFlag.exists_bit {i : Nat} (h : i < 9) : ∃ f : AttnFlag, f.bit = i := by
  match i with
  | 0 => exact ⟨.ended, rfl⟩
  | 1 => exact ⟨.fault, rfl⟩
  | 2 => exact ⟨.frozen, rfl⟩
  | 3 => exact ⟨.mark, rfl⟩
  | 4 => exact ⟨.hold, rfl⟩
  | 5 => exact ⟨.channel, rfl⟩
  | 6 => exact ⟨.supply, rfl⟩
  | 7 => exact ⟨.sync, rfl⟩
  | 8 => exact ⟨.starved, rfl⟩

/-- Nine bits are not all 0 exactly where some flag's is 1. -/
theorem ne_zero_iff_flag (x : BitVec 9) : x ≠ 0 ↔ ∃ f : AttnFlag, x.getLsbD f.bit = true := by
  refine ⟨fun some => Classical.byContradiction fun none => some ?_, fun ⟨f, set⟩ zero => ?_⟩
  · refine BitVec.eq_of_getLsbD_eq fun i hi => ?_
    obtain ⟨f, rfl⟩ := AttnFlag.exists_bit hi
    simpa using fun set => none ⟨f, set⟩
  · simp [zero] at set

theorem State.attnAsserted_iff (s : State) :
    s.attnAsserted = true ↔ ∃ f : AttnFlag, s.flag f = true ∧ s.regs.enable.getLsbD f.bit = true := by
  rw [State.attnAsserted, bne_iff_ne, ne_zero_iff_flag]
  simp only [BitVec.getLsbD_and, Bool.and_eq_true, State.flag]

/-- Of a value written, the nine low bits are kept, and the bits above read 0 (R169, R174). -/
theorem setWidth_nine (v : BitVec 16) : (v.setWidth 9).setWidth 16 = v &&& 0x1FF := by
  refine BitVec.eq_of_toNat_eq ?_
  rw [BitVec.toNat_and, show (0x1FF : BitVec 16).toNat = 2 ^ 9 - 1 from rfl, Nat.and_two_pow_sub_one_eq_mod, BitVec.toNat_setWidth,
    BitVec.toNat_setWidth]
  omega

theorem getLsbD_setWidth_nine (v : BitVec 16) (f : AttnFlag) : (v.setWidth 9).getLsbD f.bit = v.getLsbD f.bit := by
  simp [f.bit_lt]

/-- Settles O15: the nine bits of the flags and of their enables are compared bit by bit. -/
theorem attnFollowsTheEnabledFlags : Obligations.AttnFollowsTheEnabledFlags := by
  unfold Obligations.AttnFollowsTheEnabledFlags
  refine ⟨fun s v hn => ⟨_, exec_attnEnableWrite hn v, rfl, setWidth_nine v, ?_⟩, State.attnAsserted_iff⟩
  rw [State.attnAsserted_iff]
  exact exists_congr fun f => and_congr_right fun _ => by rw [← getLsbD_setWidth_nine]

/-! ### What a transaction spells (R170, Table 10-1) -/

/-- A register write's groups, register after register, and its end. -/
theorem registerGroups_eq (r : BitVec 2) (data : List Byte) :
    registerGroups r data =
      ((List.range (data.length / 2)).map fun k =>
        groupCommand (r + BitVec.ofNat 2 k) (data.getD (2 * k) 0) (data.getD (2 * k + 1) 0)) ++
      [.statusWriteIgnored (.cutNext (data.length % 2))] := by
  induction r, data using registerGroups.induct with
  | case1 r lo hi rest ih =>
    have half : (lo :: hi :: rest).length / 2 = rest.length / 2 + 1 := by simp only [List.length_cons]; omega
    have rem : (lo :: hi :: rest).length % 2 = rest.length % 2 := by simp only [List.length_cons]; omega
    rw [registerGroups, ih, half, rem, List.range_succ_eq_map, List.map_cons, List.map_map, List.cons_append]
    refine congrArg₂ _ ?_ (congrArg (· ++ _) (List.map_congr_left fun k _ => ?_))
    · simp
    have next : r + 1 + BitVec.ofNat 2 k = r + BitVec.ofNat 2 (k + 1) := by
      rw [BitVec.add_assoc]
      exact congrArg _ (BitVec.eq_of_toNat_eq (by simp [Nat.add_comm]))
    rw [next]
    rfl
  | case2 r b => simp [registerGroups]
  | case3 r => rfl

theorem decodeTransaction_registerWrite (index : Byte) (data : List Byte) :
    decodeTransaction (0x77 :: index :: data) = registerWrite index data := rfl

/-- The register that group `k` of a REG_WRITE is for: the index goes on from register to register and wraps from 3 to 0. -/
theorem nextIndex {index : Byte} (k : Nat) : index.setWidth 2 + BitVec.ofNat 2 k = BitVec.ofNat 2 (index.toNat + k) :=
  BitVec.eq_of_toNat_eq (by simp)

theorem controlCommand_unknown {code : Byte} (argument : Byte) (unknown : isCommandCode code = false) :
    controlCommand code argument = .unknownCommand code := by
  unfold controlCommand
  split
  case h_10 => rfl
  all_goals simp_all [isCommandCode]

/-- A transaction that comes to no data spells an unknown instruction. -/
theorem decodeTransaction_unknown {code : Byte} {rest : List Byte} (read : code = 0x52 → rest.length < 3)
    (write : code = 0x57 → rest.length < 2) (readReg : code = 0x72 → rest.length < 2) (writeReg : code = 0x77 → rest.length < 1) :
    decodeTransaction (code :: rest) = [.unknownInstruction code rest.length] := by
  have is {v : Byte} (h : code.toNat = v.toNat) : code = v := BitVec.toNat_inj.1 h
  simp only [decodeTransaction]
  split
  next h => exact absurd (read (is h)) (by simp)
  next h => exact absurd (write (is h)) (by simp)
  next h => exact absurd (readReg (is h)) (by simp)
  next h => exact absurd (writeReg (is h)) (by simp)
  next => rfl

/-- Settles O13, by induction on the bytes sent: a byte's commit leaves every other byte, so the last for an address stands, and only 0x00 for the
state byte writes the fault record. -/
theorem memWriteCommitsTheHostsBytes : Obligations.MemWriteCommitsTheHostsBytes := by
  unfold Obligations.MemWriteCommitsTheHostsBytes
  refine ⟨fun s high low data => rfl, fun s a data hn wf => ⟨_, exec_memWrite hn a data, ?_, wf_commitBytes _ _ wf, ?_, ?_, ?_⟩⟩
  · rw [State.shiftWrite_eq]
    rfl
  · exact fun k hk free last => read_commitBytes_last wf hk free last
  · exact fun x state overlap kept => read_commitBytes_kept ⟨state, overlap⟩ kept
  · split
    next frees => exact read_commitBytes_freed wf (.inl ((hostFrees_iff a data).2 frees))
    next keeps => exact read_commitBytes_record fun frees => keeps ((hostFrees_iff a data).1 frees)

/-- Settles O14: each form of write by the port and the registers it leaves, and the groups a transaction spells by induction on its
data. -/
theorem registerWritesActAsTheTableSays : Obligations.RegisterWritesActAsTheTableSays := by
  unfold Obligations.RegisterWritesActAsTheTableSays
  refine ⟨fun s v hn => ⟨_, exec_attnFlagsWrite hn v, rfl, fun f => ?_⟩, fun s v hn => exec_statusWrite hn v, fun s index n hn above => ?_,
    fun s index n hn named short => ?_, fun s n hn short => ⟨fun r next => ?_, fun none_ => ?_⟩,
    fun s code n hn read write readReg writeReg => ?_, fun s index data => ⟨fun above => ?_, fun named short => ?_, fun named whole => ?_⟩,
    fun low high => ⟨rfl, rfl, rfl, controlCommand_unknown high⟩, fun high => rfl,
    fun s code rest read write readReg writeReg => ?_, fun s => ?_⟩
  · simp only [State.flag, BitVec.getLsbD_and, BitVec.getLsbD_not, getLsbD_setWidth_nine, f.bit_lt, decide_true, Bool.true_and]
  · exact exec_noRegister hn above n
  · rw [exec_cutFirst hn named short, State.shiftWrite_eq]
    rfl
  · rw [exec_cutNext hn short, State.cutGroup_eq next]
  · rw [exec_cutNext hn short, State.cutGroup, none_]
    rfl
  · have formed := (Laws.WellFormed.unknownInstruction code n).2 ⟨read, write, readReg, writeReg⟩
    exact (if_pos formed).trans (onPort_taken _ hn)
  · rw [State.hostSends, decodeTransaction_registerWrite, registerWrite, if_pos above]
  · rw [State.hostSends, decodeTransaction_registerWrite, registerWrite, if_neg (Nat.not_lt.2 named), if_pos short]
  · rw [State.hostSends, decodeTransaction_registerWrite, registerWrite, if_neg (Nat.not_lt.2 named), if_neg (Nat.not_lt.2 whole),
      registerGroups_eq, ← List.append_assoc]
    simp only [nextIndex]
  · rw [State.hostSends, decodeTransaction_unknown read write readReg writeReg]
  · rw [State.hostSends, decodeTransaction, List.append_nil]

end Sys2Proof.Machine

/-! PROOFS. MEM_READ, REG_READ and the STATUS register, as the host shifts them out. -/
namespace Sys2Proof.Machine
open Sys2Proof

/-! ### MISO through a read (R170, R171) -/

theorem Memory.stream_eq (m : Memory) (a : Addr) (n : Nat) :
    Memory.stream m a n = (List.range n).map fun k => Memory.read m ((a.toNat + k) % 65536) := by
  induction n generalizing a with
  | zero => rfl
  | succ n ih =>
    have first : (a.toNat + 0) % 65536 = a.toNat := Nat.mod_eq_of_lt a.isLt
    rw [Memory.stream, ih, List.range_succ_eq_map, List.map_cons, List.map_map, first]
    exact congrArg _ (List.map_congr_left fun k _ => congrArg _ (nextAddr_toNat a k))

/-- An index above 3 shifts out one 0x00 for each byte, as it would byte by byte. -/
theorem State.regStream_eq (s : State) (index : Byte) (n : Nat) :
    s.regStream index n = (List.range n).map fun k => if 3 < index.toNat then 0 else s.regByte index.toNat k := by
  rw [State.regStream]
  split
  · rw [List.map_const', List.length_range]
  · rfl

section
variable {s : State} (hn : s.nrstLow = false)
include hn

theorem exec_memRead (a : Addr) (n : Nat) :
    exec (.memRead a n) s = .next (s.shiftRead 3 (Memory.stream s.mem a n)) := by
  rw [exec, execMemRead, onPort_taken _ hn]

theorem exec_regRead (index : Byte) (n : Nat) :
    exec (.regRead index n) s = .next (s.shiftRead 2 (s.regStream index n)) := by
  rw [exec, execRegRead, onPort_taken _ hn]
end

/-! ### STATUS, bit by bit (Table 10-13) -/

/-- Bits 4 to 10 of STATUS, lowest first. -/
def State.statusBits (s : State) : List Bool :=
  [s.siu.stopA, !s.siu.stopB, s.siu.dflt, s.attnAsserted, s.perf.latch.isSome, s.perf.lock, s.faultHeld]

theorem PerfState.code_lt (x : PerfState) : x.code < 16 := by cases x <;> decide

theorem ite_eq_mul_toNat (b : Bool) (w : Nat) : (if b then w else 0) = w * b.toNat := by cases b <;> simp

/-- STATUS is the code of the performance state with the seven bits above it. -/
theorem State.statusReg_toNat (s : State) :
    s.statusReg.toNat = s.perf.state.code + 2 ^ 4 * (BitVec.ofBoolListLE s.statusBits).toNat := by
  have code := s.perf.state.code_lt
  have bits := (BitVec.ofBoolListLE s.statusBits).isLt
  rw [State.statusReg, BitVec.toNat_ofNat, Siu.stopAAsserted, Siu.stopBAsserted]
  simp only [ite_eq_mul_toNat, State.statusBits, BitVec.ofBoolListLE, BitVec.toNat_concat, BitVec.toNat_ofNat, List.length_cons, List.length_nil] at bits ⊢
  omega

/-- Above its low four bits, STATUS is `statusBits`, and 0 beyond them. -/
theorem State.statusReg_getLsbD (s : State) (i : Nat) : s.statusReg.getLsbD (4 + i) = s.statusBits.getD i false := by
  have code := s.perf.state.code_lt
  have above : s.statusReg.toNat / 2 ^ 4 = (BitVec.ofBoolListLE s.statusBits).toNat := by
    rw [s.statusReg_toNat]
    omega
  rw [← BitVec.testBit_toNat, Nat.add_comm, ← Nat.testBit_div_two_pow, above, BitVec.testBit_toNat, BitVec.getLsbD_ofBoolListLE]

theorem State.statusReg_state (s : State) : (s.statusReg.extractLsb' 0 4).toNat = s.perf.state.code := by
  have code := s.perf.state.code_lt
  rw [BitVec.extractLsb'_toNat, s.statusReg_toNat, Nat.shiftRight_zero]
  omega

theorem State.statusReg_reserved (s : State) : (s.statusReg.extractLsb' 11 5).toNat = 0 := by
  have code := s.perf.state.code_lt
  have bits : (BitVec.ofBoolListLE s.statusBits).toNat < 2 ^ 7 := (BitVec.ofBoolListLE s.statusBits).isLt
  rw [BitVec.extractLsb'_toNat, s.statusReg_toNat, Nat.shiftRight_eq_div_pow]
  omega

/-- Settles O12: each read shifts out its stream of bytes, and STATUS is the performance state's code with the bits of the other fields
above it. -/
theorem readsShowMemoryRegistersAndStatus : Obligations.ReadsShowMemoryRegistersAndStatus := by
  unfold Obligations.ReadsShowMemoryRegistersAndStatus
  refine ⟨fun s high low turnaround data => rfl, fun s index turnaround data => rfl, fun s a n hn => ?_, fun s index n hn => ?_, fun s => ?_⟩
  · rw [exec_memRead hn, Memory.stream_eq]
    rfl
  · rw [exec_regRead hn, State.regStream_eq]
    rfl
  · have bit := s.statusReg_getLsbD
    exact ⟨s.statusReg_state, bit 0, bit 1, bit 2, bit 3, bit 4, bit 5, bit 6, s.statusReg_reserved⟩

end Sys2Proof.Machine

/-! PROOFS. A step with a command waiting (R170). -/
namespace Sys2Proof.Machine
open Sys2Proof

/-- The waiting commands go before the idle part; `step_idle` is about a step with none waiting. -/
theorem step_of_pending_cons {s : State} {c : Instr} {rest : List Instr} (waiting : s.pending = c :: rest) :
    step s = exec c { s with pending := rest } := by
  rw [step, waiting]

/-- Settles O1: the front of the queue is the command by construction, whatever queue the state held before. -/
theorem stepRunsTheFrontCommand : Obligations.StepRunsTheFrontCommand := by
  unfold Obligations.StepRunsTheFrontCommand
  intro s c rest
  exact step_of_pending_cons (s := { s with pending := c :: rest }) rfl

end Sys2Proof.Machine
